-- ==== Sys2Proof/Word.lean ====
section
/-! DEFINITION. The words the KM316's spec counts in, and their plainest arithmetic. -/

namespace Sys2Proof

/-- A byte on a wire: host link, trunk slot 0, line slot 0. -/
abbrev Byte := BitVec 8

/-- A sample code (R16): sign, segment and step in eight bits. -/
abbrev Code := BitVec 8

/-- A 16-bit number: an epoch number, a nonce, a notice's detail or stamp. -/
abbrev Half := BitVec 16

/-- A key wheel value, block word or key half (R28 to R31). -/
abbrev WheelWord := BitVec 24

/-- The 64 codes of one frame of either highway, by slot (R1). -/
abbrev Frame := Vector Code 64

/-- An 8-byte cell of either control slot (R73, R118). -/
abbrev Cell := Vector Byte 8

/-- A block of eight sample codes (section 3.2). -/
abbrev Block := Vector Code 8

/-- A slot of either highway, 0..63. Voice slots are 1..63 (R1). -/
abbrev Slot := Fin 64

/-- A leg number (R48). -/
abbrev LegNo := Fin 32

/-- An extension handle (R104). -/
abbrev Handle := Fin 256

/-- A conference number (R145). -/
abbrev ConfNo := Fin 8

/-- A frame position within a block, or the receive phase (R2, R80). -/
abbrev Position := Fin 8

end Sys2Proof
end

