-- ==== Sys2Proof/Syntax.lean ====
section
/-! DEFINITION. The commands of the KM316: one constructor for each row of spec/opcode_table.json. -/

namespace Sys2Proof

/-- A command. Host requests carry the body bytes of their frame (R170, section 12.7); the codes on the
highways come with the line frame or the trunk frame that brings them. -/
inductive Instr where
  /-- LINE_FRAME, R1. -/
  | lineFrame (lineIn trunkIn : Frame)
  /-- LINE_BLOCK_START, R2. -/
  | lineBlockStart
  /-- TRUNK_FRAME_ARRIVAL, R10. -/
  | trunkFrameArrival (frame : Frame)
  /-- TRUNK_RECEIVE_BLOCK_COMPLETION, R83. -/
  | trunkReceiveBlockCompletion
  /-- LEG_BLOCK_SCRAMBLE, R39. -/
  | legBlockScramble (leg : LegNo)
  /-- TRUNK_CELL_DEPARTURE, R77. -/
  | trunkCellDeparture
  /-- ADMISSION_CELL_ARRIVAL, R119. -/
  | admissionCellArrival
  /-- ADMISSION_CELL_DEPARTURE, R120. -/
  | admissionCellDeparture
  /-- ANSWER_TIMER_EXPIRY, R129. -/
  | answerTimerExpiry (handle : Handle)
  /-- BAR_TIMER_EXPIRY, R131. -/
  | barTimerExpiry (handle : Handle)
  /-- REFRESH_TIMER_EXPIRY, R133. -/
  | refreshTimerExpiry
  /-- GOVERNOR_UPDATE, R157. -/
  | governorUpdate (conf : ConfNo)
  /-- HOLD_COMMIT_APPLY, R166. -/
  | holdCommitApply
  /-- LEG_OPEN, R54. -/
  | legOpen (body : List Byte)
  /-- LEG_CLOSE, R62. -/
  | legClose (body : List Byte)
  /-- LEG_CONNECT, R58. -/
  | legConnect (body : List Byte)
  /-- LEG_PARK, R59. -/
  | legPark (body : List Byte)
  /-- LEG_LEVEL, R60. -/
  | legLevel (body : List Byte)
  /-- LEG_REKEY, R95. -/
  | legRekey (body : List Byte)
  /-- LEG_READ, R69. -/
  | legRead (body : List Byte)
  /-- TRUNK_READ, R93. -/
  | trunkRead (body : List Byte)
  /-- EXT_LOAD, R107. -/
  | extLoad (body : List Byte)
  /-- EXT_REMOVE, R108. -/
  | extRemove (body : List Byte)
  /-- EXT_READ, R109. -/
  | extRead (body : List Byte)
  /-- EXT_SUSPEND, R110. -/
  | extSuspend (body : List Byte)
  /-- EXT_RESUME, R111. -/
  | extResume (body : List Byte)
  /-- EXT_UNBAR, R111. -/
  | extUnbar (body : List Byte)
  /-- EXT_REVOKE, R112. -/
  | extRevoke (body : List Byte)
  /-- SLOT_MAP, R115. -/
  | slotMap (body : List Byte)
  /-- CONF_OPEN, R147. -/
  | confOpen (body : List Byte)
  /-- CONF_JOIN, R149. -/
  | confJoin (body : List Byte)
  /-- CONF_LEAVE, R152. -/
  | confLeave (body : List Byte)
  /-- CONF_CLOSE, R148. -/
  | confClose (body : List Byte)
  /-- CONF_READ, R160. -/
  | confRead (body : List Byte)
  /-- HOLD_BEGIN, R163. -/
  | holdBegin (body : List Byte)
  /-- HOLD_COMMIT, R165. -/
  | holdCommit (body : List Byte)
  /-- HOLD_CANCEL, R164. -/
  | holdCancel (body : List Byte)
  /-- PARAM_SET, R172. -/
  | paramSet (body : List Byte)
  /-- PARAM_READ, R173. -/
  | paramRead (body : List Byte)
  /-- NOTICE_FETCH, R175. -/
  | noticeFetch (body : List Byte)
  /-- NOTICE_MASK, R176. -/
  | noticeMask (body : List Byte)
  /-- RESTART, R177. -/
  | restart (body : List Byte)
  /-- UNKNOWN_REQUEST, R170. -/
  | unknownRequest (code : Byte)
  /-- BAD_FRAME, R169. -/
  | badFrame
  /-- FRAME_LENGTH_DISCARD, R169. -/
  | frameLengthDiscard (length : Byte)
  /-- FRAME_GAP_TIMEOUT, R169. -/
  | frameGapTimeout
  /-- FRAME_DISCARDED, R171. -/
  | frameDiscarded
  /-- REPLY_DEPARTURE, R171. -/
  | replyDeparture
  /-- RESET_ASSERT, R178. -/
  | resetAssert
  /-- RESET_RELEASE, R178. -/
  | resetRelease
  /-- LINK_BYTE_RECEIVED, R169. -/
  | linkByteReceived (byte : Byte)
  deriving DecidableEq, Repr

end Sys2Proof
end

