-- ==== Sys2Proof/Machine/Flags.lean ====
section
/-! DEFINITION. The small computations shared by every block: saturating counters, clamping, bytes of a number,
presence and option bytes, and the tests on a link byte. -/

namespace Sys2Proof.Machine

/-- One more, holding at 65535: a counter the host can read (00_scope, "Counters"). -/
def bump (n : Nat) : Nat := if n < 65535 then n + 1 else 65535

/-- A number brought into a range by the nearest end (00_scope, "Clamp"). -/
def clampNat (low high n : Nat) : Nat := if n < low then low else if high < n then high else n

/-- R54, R60: a gain code is clamped into -6..+6. -/
def clampGain (g : Int) : Int := if g < -6 then -6 else if 6 < g then 6 else g

/-- A number as one byte. -/
def byteOf (n : Nat) : Byte := BitVec.ofNat 8 n

/-- R169: a multi-byte number is sent most significant byte first. Two bytes. -/
def bytes16 (n : Nat) : List Byte := [byteOf (n / 256), byteOf n]

/-- Four bytes, most significant first (R169). -/
def bytes32 (n : Nat) : List Byte := bytes16 (n / 65536) ++ bytes16 n

/-- A bit as the byte 0 or 1 (section 12.7, "opt"). -/
def bitByte (b : Bool) : Byte := if b then 1 else 0

/-- A presence byte: bit i is set when the i-th optional field listed is present (section 12.7). -/
def presenceByte (present : List Bool) : Byte :=
  present.foldr (fun b acc => byteOf (2 * acc.toNat + b.toNat)) 0

/-- A signed byte, two's complement (section 12.7, "gain"). -/
def signedByte (b : Byte) : Int := b.toInt

/-- A signed number as a byte, two's complement (section 12.7, "gain"). -/
def byteOfInt (i : Int) : Byte := BitVec.ofInt 8 i

/-- A signed number as 16-bit two's complement (R13, section 12.7). -/
def halfOfInt (i : Int) : Half := BitVec.ofInt 16 i

/-- R169: the start byte of a host frame. -/
def startByte : Byte := 0xA7

/-- R169: a length byte of 0 or above 250 discards the start byte. -/
def lengthDiscards (length : Byte) : Bool := length.toNat == 0 || 250 < length.toNat

/-- Section 12.7: the codes of the request index are 0x01..0x1D. -/
def knownRequest (code : Byte) : Bool := 0x01 ≤ code.toNat && code.toNat ≤ 0x1D

/-- R170: the code a reply carries. A request's code with the high bit set; 0xFF for a code whose high bit
is already set. -/
def replyCode (code : Byte) : Byte := if code.toNat < 0x80 then byteOf (code.toNat + 0x80) else 0xFF

/-- Of the places 0..n-1, those at which `p` holds, in rising order. -/
def placesWhere {n : Nat} (p : Fin n → Bool) : List (Fin n) := (List.finRange n).filter p

/-- The lowest place at which `p` holds. -/
def firstPlace {n : Nat} (p : Fin n → Bool) : Option (Fin n) := (List.finRange n).find? p

end Sys2Proof.Machine
end

