-- ==== Sys2Proof/Config.lean ====
section
/-! DEFINITION. What the part fixes once for all: the sizes of its queues, its defaults, and the one point on
which the spec's own sentences do not agree (opaque: no proof can see which way it falls). -/

namespace Sys2Proof.Config

/-- R76: the Trunk Cell Queue holds at most 16 requests. -/
abbrev cellQueueRoom : Nat := 16
/-- R120: the Admission Cell Queue holds at most 8 cells. -/
abbrev admQueueRoom : Nat := 8
/-- R174: the notice queue holds at most 64 entries. -/
abbrev noticeRoom : Nat := 64
/-- R162: the held-change list never holds more than 16 entries. -/
abbrev heldRoom : Nat := 16
/-- R171: at most 16 replies wait to be sent. -/
abbrev replyRoom : Nat := 16
/-- R10: the elastic store holds at most two frames. -/
abbrev storeRoom : Nat := 2
/-- R42: a receive output buffer holds at most 16 codes. -/
abbrev outputRoom : Nat := 16
/-- R146: no conference holds more than 8 members. -/
abbrev memberRoom : Nat := 8
/-- R146: the member pool has 32 places. -/
abbrev poolRoom : Nat := 32

/-- R172: the defaults of the eight parameters, in identifier order. -/
abbrev epochLength : Nat := 256
abbrev answerTimeout : Nat := 2000
abbrev barTime : Nat := 60
abbrev refreshInterval : Nat := 0
abbrev failureLimit : Nat := 3
abbrev challengeSeed : Half := 0x5A3C
abbrev challengeStride : Half := 0x2F1B

/-- R174, R178: every maskable kind enabled; indices 0..21 are used (R176). -/
abbrev noticeMask : BitVec 32 := 0x003FFFFF

/-- The line blocks of one second (00_scope, "Time in the KM316"). -/
abbrev blocksPerSecond : Nat := 1000

/-- Whether a SYNC of the receive generation that returns a leg from HOLDING(KEY) (R101) removes an announced roll
of that same generation. R98 names R101 among the cases of its removal; R101 says "any announced receive roll is
kept". Left open. DESIGN CHOICE, safe: log entry 7. -/
opaque ownSyncEndsRoll : Bool

end Sys2Proof.Config
end

