-- ==== Sys2Proof/Machine/State.lean ====
section
/-! DEFINITION. Everything the KM316 holds, block by block, and its values right after the reset pin. -/

namespace Sys2Proof.Machine

/-! ### Keys and counters (chapters 3 and 6) -/

/-- R28: a 48-bit key in two halves. -/
structure Key where
  hi : WheelWord
  lo : WheelWord
  deriving DecidableEq, Repr

/-- R35: how the scrambler works on a block. -/
inductive ScrambleMode where
  | pass | invert | shuffle
  deriving DecidableEq, Repr

/-- R49: a key setting. -/
structure KeySetting where
  gen : Byte
  mode : ScrambleMode
  scramble : Key
  descramble : Key
  deriving DecidableEq, Repr

/-- R48: the transmit key or the receive key of a leg. -/
structure DirKey where
  gen : Byte
  mode : ScrambleMode
  key : Key
  deriving DecidableEq, Repr

/-- R36, R37: the counters of one direction, naming the block it processes next, and its wheel value. -/
structure Counters where
  epoch : Half
  index : Nat
  wheel : WheelWord
  deriving DecidableEq, Repr

/-- R98: an announced receive roll. -/
structure Roll where
  gen : Byte
  epoch : Half
  deriving DecidableEq, Repr

/-! ### Legs (chapter 4) -/

/-- R48, R51: the reason of HOLDING. The awaited generation is present exactly in HOLDING(KEY). -/
inductive HoldReason where
  | hunt
  | key (awaited : Byte)
  | farCleared
  deriving DecidableEq, Repr

/-- R48: why a leg is CLEARING. -/
inductive CloseCause where
  | host | fault
  deriving DecidableEq, Repr

/-- R51: the state of a leg that is not FREE. -/
inductive LegState where
  | waiting
  | running
  | holding (reason : HoldReason)
  | clearing (cause : CloseCause)
  deriving DecidableEq, Repr

/-- R52: where a leg's line side is attached. -/
inductive Endpoint where
  | parked
  | line
  | conference (conf : ConfNo)
  deriving DecidableEq, Repr

/-- R8, R39, R78: the scrambled block a leg emits in the trunk transmit block, and the counters and generation
it was scrambled with. -/
structure Emission where
  epoch : Half
  index : Nat
  gen : Byte
  codes : Block
  deriving DecidableEq, Repr

/-- R48 and R47: the record of a leg that is not FREE, with the scrambler's state for it. -/
structure Leg where
  state : LegState
  owner : Handle
  slot : Slot
  farTag : Option Byte
  endpoint : Endpoint
  txKey : DirKey
  rxKey : DirKey
  pendingKey : Option KeySetting
  switchEpoch : Option Half
  announced : Option Roll
  tx : Counters
  rx : Counters
  gain : Int
  realigns : Nat
  mutedBlocks : Nat
  skippedSyncs : Nat
  wantsRoll : Bool
  wantsClear : Bool
  /-- R38: a line block start has been taken since LEG_OPEN, so line frames are gathered. -/
  gathering : Bool
  /-- R38: the transmit block assembly. -/
  txAssembly : List Code
  /-- R39: the block gathered in the line block just ended, not yet scrambled. -/
  gathered : Option Block
  emission : Option Emission
  /-- R40: the receive block assembly. -/
  rxAssembly : List Code
  /-- R42: the receive output buffer, oldest first. -/
  rxOutput : List Code
  deriving DecidableEq, Repr

/-! ### Highways (chapter 1) -/

/-- R6: the source that drives a line voice slot. -/
inductive SlotSource where
  | vacant
  | leg (n : LegNo)
  | conference (c : ConfNo)
  deriving DecidableEq, Repr

/-- The Line Highway Port. -/
structure LinePort where
  /-- R2: the place in its block of the next line frame. -/
  framePos : Position
  /-- R2: the line block counter. -/
  blockCount : Half
  /-- R2: a line block start has been taken since the reset pin. -/
  startSeen : Bool
  /-- R2: the line block start of the frame due at position 0 has been taken. -/
  startTaken : Bool
  /-- R4: the slot 0 bytes taken so far in this line block. -/
  cellIn : List Byte
  /-- R4, R119: an admission cell handed over and not yet taken. -/
  arrival : Option Cell
  /-- R4: the admission cell sent in this line block. -/
  cellOut : Cell
  /-- R120: this start's departure from the Admission Cell Queue is still to be taken. -/
  cellDue : Bool
  /-- R6: the line slot output map. Entry 0 is not used. -/
  outMap : Vector SlotSource 64
  /-- R1, R6: LHDO in the line frame last taken, by slot; none where undriven. -/
  out : Vector (Option Code) 64
  deriving DecidableEq, Repr

/-- R13: a slip's direction. -/
inductive SlipDirection where
  | plus | minus
  deriving DecidableEq, Repr

/-- The Trunk Highway Port with its elastic store and slip record. -/
structure TrunkPort where
  /-- R10: the elastic store, oldest first. -/
  store : List Frame
  primed : Bool
  /-- R9, R11: the last delivered frame. -/
  lastDelivered : Frame
  /-- R13: the net slip count, held within -32767..+32767. -/
  netSlips : Int
  lastDirection : Option SlipDirection
  /-- R13: the change count, 0..2. -/
  changes : Nat
  changeFlag : Bool
  /-- R8: the trunk cell sent in this trunk transmit block. -/
  cellOut : Cell
  /-- R77: this start's departure from the Trunk Cell Queue is still to be taken. -/
  cellDue : Bool
  /-- R8: THDO in the line frame last taken, by slot; none where undriven. -/
  out : Vector (Option Code) 64
  deriving DecidableEq, Repr

/-! ### The trunk control slot (chapter 5) -/

/-- R80: the framer state. The receive phase is present in PRESYNC and SYNC. -/
inductive FramerMode where
  | hunt
  | presync (phase : Position)
  | sync (phase : Position)
  deriving DecidableEq, Repr

/-- R80, R92: the Control Slot Framer. -/
structure Framer where
  mode : FramerMode
  /-- R80: the slot 0 bytes of the most recent delivered frames, oldest first. -/
  window : List Byte
  /-- R80: how many frames of the receive block in progress have been delivered. -/
  blockFrames : Nat
  /-- R80, R85: how many frames the receive block in progress will hold. -/
  blockLength : Nat
  /-- R83: the receive block in progress has all its frames and its completion is still to be taken. -/
  blockEnded : Bool
  /-- R80: 0 when the slip mark is absent, 1, or 2 for "2 and more". -/
  slipMark : Nat
  badRun : Nat
  badCells : Nat
  unknownTags : Nat
  skippedSyncs : Nat
  deriving DecidableEq, Repr

/-- R76: what a request in the Trunk Cell Queue asks for. -/
inductive RequestKind where
  | sync | roll | clear
  deriving DecidableEq, Repr

/-- R76: a request in the Trunk Cell Queue. -/
structure CellRequest where
  kind : RequestKind
  leg : LegNo
  deriving DecidableEq, Repr

/-! ### Extensions (chapters 7 and 8) -/

/-- R106: the digits of an extension's number, first digit first. -/
abbrev ExtNumber := List (BitVec 4)

/-- R104: the class flags. -/
structure ExtClass where
  mayScramble : Bool
  mayConference : Bool
  refresh : Bool
  deriving DecidableEq, Repr

/-- R104: an extension's fault scope. -/
inductive FaultScope where
  | leg | call | group
  deriving DecidableEq, Repr

/-- R104, R105: the admission state with what is present in it. A timer that has counted down to 0 and is
still here is one whose expiry is still to be taken (R105). -/
inductive Admission where
  | idle
  | challenged (slot : Slot) (nonce : Half) (answer : Nat)
  | admitted (slot : Slot) (refresh : Option Nat)
  | refreshing (slot : Slot) (nonce : Half) (answer : Nat)
  | barred (timer : Nat)
  | suspended
  deriving DecidableEq, Repr

/-- R104: an extension record. -/
structure ExtRecord where
  number : ExtNumber
  credential : Key
  cls : ExtClass
  group : Fin 16
  scope : FaultScope
  state : Admission
  failures : Nat
  deriving DecidableEq, Repr

/-- The Extension Table with its slot map, counters and challenge generator. -/
structure ExtTable where
  records : Vector (Option ExtRecord) 256
  /-- R114: true for LISTEN. Entry 0 is not used. -/
  listen : Vector Bool 64
  ignoredCells : Nat
  badCells : Nat
  /-- R121: the generator value. -/
  generator : Half
  deriving DecidableEq, Repr

/-! ### Conferences (chapter 10) -/

/-- R145: a member of a conference. -/
inductive Member where
  | leg (n : LegNo)
  | loc (h : Handle)
  deriving DecidableEq, Repr

/-- R145, R154, R157: the record of an OPEN conference. -/
structure Conf where
  chair : Option Handle
  members : List Member
  governor : Nat
  attenuation : Nat
  overload : Bool
  clippedBlocks : Nat
  /-- R154: the mixing set of the line block, once its first frame has been mixed. -/
  mixSet : Option (List Member)
  /-- R155: a result of this line block carried a clip mark. -/
  clipMark : Bool
  /-- R157: the block just ended (true if clipped) waits for the governor. -/
  judged : Option Bool
  deriving DecidableEq, Repr

/-! ### The hold (chapter 11) -/

/-- R106, R109: the forms in which a request names an extension. -/
inductive ExtRef where
  | number (n : ExtNumber)
  | handle (h : Handle)
  | nextAt (h : Handle)
  deriving DecidableEq, Repr

/-- R149: the member a CONF_JOIN or CONF_LEAVE names. -/
inductive MemberRef where
  | leg (n : LegNo)
  | loc (r : ExtRef)
  deriving DecidableEq, Repr

/-- R162: a staged entry. -/
inductive HeldChange where
  | level (leg : LegNo) (gain : Int)
  | connect (leg : LegNo)
  | park (leg : LegNo)
  | join (conf : ConfNo) (member : MemberRef)
  | leave (conf : ConfNo) (member : MemberRef)
  deriving DecidableEq, Repr

/-- R162, R165: the commit-pending mark. `due`: the line block start at which it applies has been taken. -/
inductive CommitMark where
  | absent | pending | due
  deriving DecidableEq, Repr

/-- R162: the Hold Buffer. The list and the mark exist only while the hold is OPEN. -/
inductive Hold where
  | closed
  | opened (entries : List HeldChange) (mark : CommitMark)
  deriving DecidableEq, Repr

/-! ### The host link and notices (chapter 12) -/

/-- R170: the status of a reply. -/
inductive Status where
  | ok | staged | badFrame | unknownRequest | badArgument | notFound | existing | full | busy | state
  | notAdmitted | notPermitted
  deriving DecidableEq, Repr

/-- R170: a reply. -/
structure Reply where
  code : Byte
  status : Status
  body : List Byte
  deriving DecidableEq, Repr

/-- R169: the receive frame assembly. `collecting`: the length byte and the bytes after it so far. -/
inductive Assembly where
  | searching
  | awaitLength
  | collecting (length : Byte) (bytes : List Byte)
  deriving DecidableEq, Repr

/-- R169, R171: the Link Controller's link side. -/
structure Link where
  assembly : Assembly
  /-- R171: the reply list, oldest first; none holds the place of an outstanding commit reply. -/
  replies : List (Option Reply)
  /-- R171: the reply that is leaving on HLTX. -/
  leaving : Option Reply
  deriving DecidableEq, Repr

/-- Section 12.7: the notice kinds. -/
inductive NoticeKind where
  | admitted | refreshed | admitFailed | barred | barEnded | admitRefused | superseded | strayAnswer
  | admissionLost | legSynced | legRealigned | keyRolled | keyMissing | farCleared | legClosed
  | trunkLocked | trunkHunt | slip | wander | confClosed | confOverload | confRelieved | restarted
  deriving DecidableEq, Repr

/-- R174: a notice entry. -/
structure Notice where
  kind : NoticeKind
  subject : Byte
  detail : Half
  stamp : Half
  deriving DecidableEq, Repr

/-- R174: the notice queue, its mask and the attention line. -/
structure NoticeUnit where
  queue : List Notice
  overrun : Bool
  mask : BitVec 32
  /-- Section 12.6: ATTN. -/
  attention : Bool
  deriving DecidableEq, Repr

/-- R12: where the trunk receive side takes its timing from. -/
inductive TrunkTiming where
  | locked | independent
  deriving DecidableEq, Repr

/-- R172: the eight parameters, in identifier order. -/
structure Params where
  epochLength : Nat
  timing : TrunkTiming
  answerTimeout : Nat
  barTime : Nat
  refreshInterval : Nat
  failureLimit : Nat
  seed : Half
  stride : Half
  deriving DecidableEq, Repr

/-! ### The whole part -/

/-- The state of the KM316: its twelve blocks, the reset line, and the model's queue of waiting commands. -/
structure State where
  line : LinePort
  trunk : TrunkPort
  framer : Framer
  /-- R76: the Trunk Cell Queue, oldest first. -/
  cellQueue : List CellRequest
  /-- R48: the leg records; none is FREE. -/
  legs : Vector (Option Leg) 32
  ext : ExtTable
  /-- R120: the Admission Cell Queue, oldest first. -/
  admQueue : List Cell
  /-- R145: the conference records; none is FREE. -/
  confs : Vector (Option Conf) 8
  hold : Hold
  link : Link
  notices : NoticeUnit
  params : Params
  /-- R178: the reset line is asserted. -/
  resetAsserted : Bool
  /-- The commands waiting, first in first out (the model's own field). -/
  pending : List Instr
  deriving DecidableEq, Repr

/-- Why the part stops with a fault. It never does: every bad cell, bad frame, full queue and refused request
has an effect the spec states, so no constructor is needed (nothing is safe or unsafe here: no one raises one). -/
inductive Fault where
  deriving DecidableEq, Repr

/-- Why a command has no meaning. -/
inductive Refusal where
  /-- Raised by a dispatch arm that has no meaning yet, with the row's mnemonic. Safe: the machine stops. -/
  | notModelled (mnemonic : String)
  deriving DecidableEq, Repr

/-- The answer of a command. -/
abbrev Result := Host.Outcome State Fault Refusal

/-- R16: the silence code, positive zero. -/
abbrev silence : Code := 0x80

/-- R11: the silence frame, all 64 codes 0x80. -/
abbrev silenceFrame : Frame := Vector.replicate 64 silence

/-- R75: the IDLE trunk cell. -/
abbrev idleTrunkCell : Cell := #v[0xC0, 0, 0, 0, 0, 0, 0, 0xE5]

/-- R118: the part's IDLE admission cell. -/
abbrev idleAdmissionCell : Cell := #v[0xD0, 0, 0, 0, 0, 0, 0, 0xD5]

/-- R2, R4, R7: the Line Highway Port after the reset pin. The cell and the output latch the spec gives no
value (log entry 16). -/
abbrev LinePort.reset : LinePort :=
  { framePos := 0, blockCount := 0, startSeen := false, startTaken := false, cellIn := [], arrival := none,
    cellOut := idleAdmissionCell, cellDue := false, outMap := Vector.replicate 64 .vacant,
    out := Vector.replicate 64 none }

/-- R15: the Trunk Highway Port after the reset pin (the cell and the output latch: log entry 16). -/
abbrev TrunkPort.reset : TrunkPort :=
  { store := [], primed := false, lastDelivered := silenceFrame, netSlips := 0, lastDirection := none,
    changes := 0, changeFlag := false, cellOut := idleTrunkCell, cellDue := false,
    out := Vector.replicate 64 none }

/-- R94: the framer after the reset pin, and after RESTART. -/
abbrev Framer.reset : Framer :=
  { mode := .hunt, window := [], blockFrames := 0, blockLength := 8, blockEnded := false, slipMark := 0,
    badRun := 0, badCells := 0, unknownTags := 0, skippedSyncs := 0 }

/-- R116, R121: the Extension Table after the reset pin. -/
abbrev ExtTable.reset : ExtTable :=
  { records := Vector.replicate 256 none, listen := Vector.replicate 64 false, ignoredCells := 0, badCells := 0,
    generator := Config.challengeSeed }

/-- R169, R171: the link after the reset pin. -/
abbrev Link.reset : Link := { assembly := .searching, replies := [], leaving := none }

/-- R174: the notice queue after the reset pin. -/
abbrev NoticeUnit.reset : NoticeUnit :=
  { queue := [], overrun := false, mask := Config.noticeMask, attention := false }

/-- R172: the parameters after the reset pin. -/
abbrev Params.reset : Params :=
  { epochLength := Config.epochLength, timing := .locked, answerTimeout := Config.answerTimeout,
    barTime := Config.barTime, refreshInterval := Config.refreshInterval, failureLimit := Config.failureLimit,
    seed := Config.challengeSeed, stride := Config.challengeStride }

/-- The part right after the reset pin is released (R178). -/
def State.reset : State :=
  { line := LinePort.reset, trunk := TrunkPort.reset, framer := Framer.reset, cellQueue := [],
    legs := Vector.replicate 32 none, ext := ExtTable.reset, admQueue := [], confs := Vector.replicate 8 none,
    hold := .closed, link := Link.reset, notices := NoticeUnit.reset, params := Params.reset,
    resetAsserted := false, pending := [] }

end Sys2Proof.Machine
end

