-- ==== Sys2Proof/Machine/Formats.lean ====
section
/-! DEFINITION. The layouts seen on a wire (section 12.7): cells, host frames, codes of the reply fields. -/

namespace Sys2Proof.Machine

/-! ### Cells -/

/-- R73, R118: the byte that makes the sum of all 8 bytes 0xA5 modulo 256. -/
def checkByte (bytes : List Byte) : Byte := 0xA5 - bytes.foldl (· + ·) 0

/-- A cell built from its kind, tag or slot and its five body bytes. -/
def buildCell (kind tag b2 b3 b4 b5 b6 : Byte) : Cell :=
  #v[kind, tag, b2, b3, b4, b5, b6, checkByte [kind, tag, b2, b3, b4, b5, b6]]

/-- R73, R118: the sum of the bytes is 0xA5 modulo 256. -/
def checkHolds (bytes : List Byte) : Bool := bytes.foldl (· + ·) 0 == (0xA5 : Byte)

/-- R73: a trunk cell's contents. -/
inductive TrunkCell where
  | idle
  | sync (tag : Byte) (epoch : Half) (index : BitVec 12) (gen : Byte)
  | roll (tag : Byte) (gen : Byte) (epoch : Half)
  | clear (tag : Byte)
  deriving DecidableEq, Repr

/-- R75, section 12.7: the eight bytes of a trunk cell. -/
def TrunkCell.build : TrunkCell → Cell
  | .idle => buildCell 0xC0 0 0 0 0 0 0
  | .sync tag epoch index gen =>
    buildCell 0xC1 tag (byteOf (epoch.toNat / 256)) (byteOf epoch.toNat) (byteOf (index.toNat / 16))
      (byteOf (index.toNat % 16 * 16 + gen.toNat / 16)) (byteOf (gen.toNat % 16 * 16))
  | .roll tag gen epoch => buildCell 0xC2 tag gen (byteOf (epoch.toNat / 256)) (byteOf epoch.toNat) 0 0
  | .clear tag => buildCell 0xC3 tag 0 0 0 0 0

/-- R74: the contents of a valid cell; none where the eight bytes are not valid. The zero bits of a body are
not examined. -/
def parseTrunkCell (bytes : List Byte) : Option TrunkCell :=
  match bytes with
  | [kind, tag, b2, b3, b4, b5, b6, _] =>
    if !checkHolds bytes then none
    else if kind = 0xC0 then (if tag = 0 then some .idle else none)
    else if tag = 0 then none
    else if kind = 0xC1 then
      some (.sync tag (b2 ++ b3) (BitVec.ofNat 12 (b4.toNat * 16 + b5.toNat / 16))
        (byteOf (b5.toNat % 16 * 16 + b6.toNat / 16)))
    else if kind = 0xC2 then some (.roll tag b2 (b3 ++ b4))
    else if kind = 0xC3 then some (.clear tag)
    else none
  | _ => none

/-- R118: the reasons a REFUSE, ADMIT_REFUSED or ADMIT_FAILED carries. -/
inductive RefuseReason where
  | unknown | suspended | barred | inUse | slotBusy | wrong | timeout | congested
  deriving DecidableEq, Repr

/-- R118: the reasons' values. -/
def RefuseReason.value : RefuseReason → Byte
  | .unknown => 1 | .suspended => 2 | .barred => 3 | .inUse => 4 | .slotBusy => 5 | .wrong => 6 | .timeout => 7
  | .congested => 8

/-- R118: an admission cell the part sends. -/
inductive OutgoingCell where
  | challenge (slot : Slot) (nonce : Half)
  | accept (slot : Slot)
  | refuse (slot : Slot) (reason : RefuseReason)
  deriving DecidableEq, Repr

/-- R118, section 12.7: the eight bytes of an outgoing admission cell. -/
def OutgoingCell.build : OutgoingCell → Cell
  | .challenge slot nonce =>
    buildCell 0xD2 (byteOf slot) (byteOf (nonce.toNat / 256)) (byteOf nonce.toNat) 0 0 0
  | .accept slot => buildCell 0xD4 (byteOf slot) 0 0 0 0 0
  | .refuse slot reason => buildCell 0xD5 (byteOf slot) reason.value 0 0 0 0

/-- Section 12.7: the six digit places of three bytes, first digit in bits 7..4 of the first. -/
def digitPlaces (b0 b1 b2 : Byte) : List (BitVec 4) :=
  [b0, b1, b2].flatMap fun b => [BitVec.ofNat 4 (b.toNat / 16), BitVec.ofNat 4 b.toNat]

/-- R106: a digit count and six digit places as a number; none where the count is not 2..6 or one of the first
count digits is above 9. The places beyond the count are not examined. -/
def parseNumber (count b0 b1 b2 : Byte) : Option ExtNumber :=
  let digits := (digitPlaces b0 b1 b2).take count.toNat
  if 2 ≤ count.toNat && count.toNat ≤ 6 && digits.all (fun d => d.toNat ≤ 9) then some digits else none

/-- Section 12.7: a number in four bytes; unused places are 0xF. -/
def numberBytes (n : ExtNumber) : List Byte :=
  let d (i : Nat) : Nat := (n.getD i 0xF).toNat
  [byteOf n.length, byteOf (d 0 * 16 + d 1), byteOf (d 2 * 16 + d 3), byteOf (d 4 * 16 + d 5)]

/-- R119: what the Extension Table finds in an admission cell. -/
inductive IncomingCell where
  | idle
  | bad
  | hello (slot : Slot) (number : ExtNumber)
  | answer (slot : Slot) (word : WheelWord)
  | bye (slot : Slot)
  deriving DecidableEq, Repr

/-- R1: a byte as a voice slot number, 1..63. -/
def voiceSlot (b : Byte) : Option Slot :=
  if h : b.toNat < 64 then (if b.toNat = 0 then none else some ⟨b.toNat, h⟩) else none

/-- R119: an admission cell judged. -/
def judgeAdmissionCell (cell : Cell) : IncomingCell :=
  if !checkHolds cell.toList then .bad
  else if cell[0] = 0xD0 then .idle
  else match voiceSlot cell[1] with
    | none => .bad
    | some slot =>
      if cell[0] = 0xD1 then
        match parseNumber cell[2] cell[3] cell[4] cell[5] with
        | none => .bad
        | some n => .hello slot n
      else if cell[0] = 0xD3 then .answer slot (cell[2] ++ cell[3] ++ cell[4])
      else if cell[0] = 0xD6 then .bye slot
      else .bad

/-! ### Host frames -/

/-- R169: one bit of the cyclic check, polynomial 0x1021. -/
def crcShift (r : Half) : Half := if r.msb then (r <<< 1) ^^^ 0x1021 else r <<< 1

/-- R169: the cyclic check carried over one byte, most significant bit first. -/
def crcByte (r : Half) (b : Byte) : Half :=
  let x := r ^^^ BitVec.ofNat 16 (b.toNat * 256)
  crcShift (crcShift (crcShift (crcShift (crcShift (crcShift (crcShift (crcShift x)))))))

/-- R169: the cyclic check of a run of bytes, initial value 0xFFFF, no final inversion. -/
def crc16 (bytes : List Byte) : Half := bytes.foldl crcByte 0xFFFF

/-- R170: the status codes. -/
def Status.value : Status → Byte
  | .ok => 0 | .staged => 1 | .badFrame => 2 | .unknownRequest => 3 | .badArgument => 4 | .notFound => 5
  | .existing => 6 | .full => 7 | .busy => 8 | .state => 9 | .notAdmitted => 10 | .notPermitted => 11

/-- Section 12.7: the host frame of a reply, as HLTX carries it. -/
def Reply.frame (r : Reply) : List Byte :=
  let counted := r.code :: r.status.value :: r.body
  let checked := byteOf counted.length :: counted
  startByte :: checked ++ bytes16 (crc16 checked).toNat

/-- Section 12.7: the host frame of a request. -/
def requestFrame (code : Byte) (body : List Byte) : List Byte :=
  let checked := byteOf (body.length + 1) :: code :: body
  startByte :: checked ++ bytes16 (crc16 checked).toNat

/-! ### Notices -/

/-- Section 12.7: the codes of the notice kinds. -/
def NoticeKind.value : NoticeKind → Byte
  | .admitted => 0x01 | .refreshed => 0x02 | .admitFailed => 0x03 | .barred => 0x04 | .barEnded => 0x05
  | .admitRefused => 0x06 | .superseded => 0x07 | .strayAnswer => 0x08 | .admissionLost => 0x09
  | .legSynced => 0x10 | .legRealigned => 0x11 | .keyRolled => 0x12 | .keyMissing => 0x13 | .farCleared => 0x14
  | .legClosed => 0x15 | .trunkLocked => 0x20 | .trunkHunt => 0x21 | .slip => 0x22 | .wander => 0x23
  | .confClosed => 0x30 | .confOverload => 0x31 | .confRelieved => 0x32 | .restarted => 0x3F

/-- Section 12.7: the mask index of a notice kind; RESTARTED has none (R174). -/
def NoticeKind.maskIndex : NoticeKind → Option Nat
  | .admitted => some 0 | .refreshed => some 1 | .admitFailed => some 2 | .barred => some 3 | .barEnded => some 4
  | .admitRefused => some 5 | .superseded => some 6 | .strayAnswer => some 7 | .admissionLost => some 8
  | .legSynced => some 9 | .legRealigned => some 10 | .keyRolled => some 11 | .keyMissing => some 12
  | .farCleared => some 13 | .legClosed => some 14 | .trunkLocked => some 15 | .trunkHunt => some 16
  | .slip => some 17 | .wander => some 18 | .confClosed => some 19 | .confOverload => some 20
  | .confRelieved => some 21 | .restarted => none

/-- Section 12.7: the six bytes of a notice entry. -/
def Notice.bytes (n : Notice) : List Byte :=
  [n.kind.value, n.subject] ++ bytes16 n.detail.toNat ++ bytes16 n.stamp.toNat

/-! ### Codes of the reply fields (section 12.7) -/

def ScrambleMode.value : ScrambleMode → Byte
  | .pass => 0 | .invert => 1 | .shuffle => 2

def LegState.value : LegState → Byte
  | .waiting => 1 | .running => 2 | .holding _ => 3 | .clearing _ => 4

def HoldReason.value : HoldReason → Byte
  | .hunt => 0 | .key _ => 1 | .farCleared => 2

def CloseCause.value : CloseCause → Byte
  | .host => 0 | .fault => 1

def Endpoint.value : Endpoint → Byte
  | .parked => 0 | .line => 1 | .conference _ => 2

def FaultScope.value : FaultScope → Byte
  | .leg => 0 | .call => 1 | .group => 2

def Admission.value : Admission → Byte
  | .idle => 0 | .challenged .. => 1 | .admitted .. => 2 | .refreshing .. => 3 | .barred _ => 4 | .suspended => 5

def ExtClass.value (c : ExtClass) : Byte :=
  byteOf (c.mayScramble.toNat + 2 * c.mayConference.toNat + 4 * c.refresh.toNat)

def TrunkTiming.value : TrunkTiming → Byte
  | .locked => 0 | .independent => 1

/-- The framer state and the receive phase (0xFF absent) of a TRUNK_READ reply. -/
def FramerMode.bytes : FramerMode → List Byte
  | .hunt => [0, 0xFF] | .presync p => [1, byteOf p] | .sync p => [2, byteOf p]

/-- The last direction of a TRUNK_READ reply: 0 NONE, 1 +1, 0xFF -1. -/
def directionByte : Option SlipDirection → Byte
  | none => 0 | some .plus => 1 | some .minus => 0xFF

/-- The byte for a leg, 0xFF for none. -/
def legByte : Option LegNo → Byte
  | none => 0xFF | some n => byteOf n

end Sys2Proof.Machine
end

