-- ==== Sys2Proof/Machine/Operands.lean ====
section
/-! DEFINITION. The argument forms of the request bodies (section 12.7): a body of the right length read into
its arguments. `none` stands for the BAD_ARGUMENT of R170 and of the request's own range checks. -/

namespace Sys2Proof.Machine

/-- A byte of a body. -/
def byteAt (body : List Byte) (i : Nat) : Byte := body.getD i 0

/-- A two-byte number of a body, most significant byte first (R169). -/
def halfAt (body : List Byte) (i : Nat) : Half := byteAt body i ++ byteAt body (i + 1)

/-- A 24-bit half of a key in a body. -/
def wheelWordAt (body : List Byte) (i : Nat) : WheelWord := byteAt body i ++ byteAt body (i + 1) ++ byteAt body (i + 2)

/-- A 48-bit key of a body, the high half first. -/
def keyAt (body : List Byte) (i : Nat) : Key := { hi := wheelWordAt body i, lo := wheelWordAt body (i + 3) }

/-- An opt byte, 0 or 1 (R170). -/
def optOf (b : Byte) : Option Bool := if b = 0 then some false else if b = 1 then some true else none

/-- R48: a leg number, 0..31. -/
def legNoOf (b : Byte) : Option LegNo := if h : b.toNat < 32 then some ⟨b.toNat, h⟩ else none

/-- R145: a conference number, 0..7. -/
def confNoOf (b : Byte) : Option ConfNo := if h : b.toNat < 8 then some ⟨b.toNat, h⟩ else none

/-- A handle, 0..255: every byte is one. -/
def handleOf (b : Byte) : Handle := ⟨b.toNat, b.isLt⟩

/-- Section 12.7: a mode byte. -/
def modeOf (b : Byte) : Option ScrambleMode :=
  if b = 0 then some .pass else if b = 1 then some .invert else if b = 2 then some .shuffle else none

/-- Section 12.7, R49: a key setting of 14 bytes. Generation 0 and a mode above 2 are out of range (R54, R95). -/
def keySettingAt (body : List Byte) (i : Nat) : Option KeySetting := do
  let mode ← modeOf (byteAt body (i + 1))
  if byteAt body i = 0 then none
  else some { gen := byteAt body i, mode := mode, scramble := keyAt body (i + 2), descramble := keyAt body (i + 8) }

/-- Section 12.7: a number of 4 bytes. -/
def numberAt (body : List Byte) (i : Nat) : Option ExtNumber :=
  parseNumber (byteAt body i) (byteAt body (i + 1)) (byteAt body (i + 2)) (byteAt body (i + 3))

/-- Section 12.7, R106: an extension reference of 5 bytes. Form 2 is for EXT_READ only (R170). -/
def refAt (allowNext : Bool) (body : List Byte) (i : Nat) : Option ExtRef :=
  let form := byteAt body i
  if form = 0 then (numberAt body (i + 1)).map .number
  else if form = 1 then some (.handle (handleOf (byteAt body (i + 1))))
  else if form = 2 && allowNext then some (.nextAt (handleOf (byteAt body (i + 1))))
  else none

/-- LEG_OPEN's arguments (R54). -/
structure LegOpenArgs where
  leg : LegNo
  owner : ExtNumber
  slot : Slot
  farTag : Option Byte
  setting : KeySetting
  epoch : Half
  gain : Int
  connect : Bool
  deriving DecidableEq, Repr

/-- R54 check 1 and R170: LEG_OPEN's body. The gain is clamped, never refused. -/
def parseLegOpen (body : List Byte) : Option LegOpenArgs := do
  if body.length ≠ 26 then none
  else
    let leg ← legNoOf (byteAt body 0)
    let owner ← numberAt body 1
    let slot ← voiceSlot (byteAt body 5)
    let hasTag ← optOf (byteAt body 6)
    let setting ← keySettingAt body 8
    let connect ← optOf (byteAt body 25)
    if hasTag && byteAt body 7 = 0 then none
    else
      some { leg := leg, owner := owner, slot := slot, farTag := if hasTag then some (byteAt body 7) else none,
             setting := setting, epoch := halfAt body 22, gain := clampGain (signedByte (byteAt body 24)),
             connect := connect }

/-- A body of one leg number. -/
def parseLeg (body : List Byte) : Option LegNo := if body.length = 1 then legNoOf (byteAt body 0) else none

/-- R60: LEG_LEVEL's body, a leg and a gain code clamped to -6..+6. -/
def parseLegLevel (body : List Byte) : Option (LegNo × Int) :=
  if body.length = 2 then (legNoOf (byteAt body 0)).map fun n => (n, clampGain (signedByte (byteAt body 1)))
  else none

/-- R95 check 1: LEG_REKEY's body. -/
def parseLegRekey (body : List Byte) : Option (LegNo × KeySetting) := do
  if body.length ≠ 15 then none
  else
    let leg ← legNoOf (byteAt body 0)
    let setting ← keySettingAt body 1
    some (leg, setting)

/-- R69: LEG_READ's body, a leg and the clear option. -/
def parseLegRead (body : List Byte) : Option (LegNo × Bool) := do
  if body.length ≠ 2 then none
  else
    let leg ← legNoOf (byteAt body 0)
    let clear ← optOf (byteAt body 1)
    some (leg, clear)

/-- R93: TRUNK_READ's body, the clear option. -/
def parseOpt (body : List Byte) : Option Bool := if body.length = 1 then optOf (byteAt body 0) else none

/-- EXT_LOAD's arguments (R107). -/
structure ExtLoadArgs where
  number : ExtNumber
  credential : Key
  cls : ExtClass
  group : Fin 16
  scope : FaultScope
  deriving DecidableEq, Repr

/-- Section 12.7: a fault scope byte. -/
def scopeOf (b : Byte) : Option FaultScope :=
  if b = 0 then some .leg else if b = 1 then some .call else if b = 2 then some .group else none

/-- R107: a class byte; a flag other than the three is refused. -/
def classOf (b : Byte) : Option ExtClass :=
  if b.toNat < 8 then
    some { mayScramble := b.getLsbD 0, mayConference := b.getLsbD 1, refresh := b.getLsbD 2 }
  else none

/-- R107: a group byte, 0..15. -/
def groupOf (b : Byte) : Option (Fin 16) := if h : b.toNat < 16 then some ⟨b.toNat, h⟩ else none

/-- R107: EXT_LOAD's body. -/
def parseExtLoad (body : List Byte) : Option ExtLoadArgs := do
  if body.length ≠ 13 then none
  else
    let number ← numberAt body 0
    let cls ← classOf (byteAt body 10)
    let group ← groupOf (byteAt body 11)
    let scope ← scopeOf (byteAt body 12)
    some { number := number, credential := keyAt body 4, cls := cls, group := group, scope := scope }

/-- R106: a body of one extension reference. -/
def parseRef (allowNext : Bool) (body : List Byte) : Option ExtRef :=
  if body.length = 5 then refAt allowNext body 0 else none

/-- R115: one change of the admission slot map; true for LISTEN. -/
def slotChangeAt (body : List Byte) (i : Nat) : Option (Slot × Bool) := do
  let slot ← voiceSlot (byteAt body i)
  let listen ← optOf (byteAt body (i + 1))
  some (slot, listen)

/-- R115, R170: SLOT_MAP's body, the clear option and 0..63 changes in list order. -/
def parseSlotMap (body : List Byte) : Option (Bool × List (Slot × Bool)) := do
  let count := (byteAt body 1).toNat
  if body.length ≠ 2 + 2 * count || 63 < count then none
  else
    let clear ← optOf (byteAt body 0)
    let changes ← (List.range count).mapM fun i => slotChangeAt body (2 + 2 * i)
    some (clear, changes)

/-- R147 check 1: CONF_OPEN's body, a conference and an optional chair. -/
def parseConfOpen (body : List Byte) : Option (ConfNo × Option ExtRef) := do
  if body.length ≠ 7 then none
  else
    let conf ← confNoOf (byteAt body 0)
    let named ← optOf (byteAt body 1)
    if named then
      let chair ← refAt false body 2
      some (conf, some chair)
    else some (conf, none)

/-- R149 check 1: the body of CONF_JOIN and CONF_LEAVE. Only the field of the kind named is examined
(DEDUCED, log entry 9). -/
def parseConfMember (body : List Byte) : Option (ConfNo × MemberRef) := do
  if body.length ≠ 8 then none
  else
    let conf ← confNoOf (byteAt body 0)
    if byteAt body 1 = 0 then
      let leg ← legNoOf (byteAt body 2)
      some (conf, .leg leg)
    else if byteAt body 1 = 1 then
      let ref ← refAt false body 3
      some (conf, .loc ref)
    else none

/-- R148: a body of one conference number. -/
def parseConf (body : List Byte) : Option ConfNo := if body.length = 1 then confNoOf (byteAt body 0) else none

/-- R160: CONF_READ's body, a conference and the clear option. -/
def parseConfRead (body : List Byte) : Option (ConfNo × Bool) := do
  if body.length ≠ 2 then none
  else
    let conf ← confNoOf (byteAt body 0)
    let clear ← optOf (byteAt body 1)
    some (conf, clear)

/-- R172: the parameters by identifier. -/
inductive ParamId where
  | epochLength | timing | answerTimeout | barTime | refreshInterval | failureLimit | seed | stride
  deriving DecidableEq, Repr

/-- R172: an identifier, 1..8. -/
def paramIdOf (b : Byte) : Option ParamId :=
  [.epochLength, .timing, .answerTimeout, .barTime, .refreshInterval, .failureLimit, .seed, .stride][b.toNat - 1]?.bind
    fun p => if b = 0 then none else some p

/-- R172: PARAM_SET's body, a parameter and a 16-bit value. -/
def parseParamSet (body : List Byte) : Option (ParamId × Nat) :=
  if body.length = 3 then (paramIdOf (byteAt body 0)).map fun p => (p, (halfAt body 1).toNat) else none

/-- R175: NOTICE_FETCH's body, a count 1..8. -/
def parseFetch (body : List Byte) : Option Nat :=
  let n := (byteAt body 0).toNat
  if body.length = 1 && 1 ≤ n && n ≤ 8 then some n else none

/-- R176: NOTICE_MASK's body, the set option and a 32-bit mask. A mask with any of bits 22..31 set is refused, with
the set option and without it. -/
def parseNoticeMask (body : List Byte) : Option (Option (BitVec 32)) := do
  if body.length ≠ 5 then none
  else
    let mask : BitVec 32 := halfAt body 1 ++ halfAt body 3
    let set ← optOf (byteAt body 0)
    if 2 ^ 22 ≤ mask.toNat then none else some (if set then some mask else none)

/-- A body of no arguments. -/
def parseEmpty (body : List Byte) : Option Unit := if body.length = 0 then some () else none

end Sys2Proof.Machine
end

