-- ==== Sys2Proof/Machine/Level.lean ====
section
/-! DEFINITION. The sample code and its level arithmetic (chapter 2). -/

namespace Sys2Proof.Machine

/-- Section 12.7: bit 7 of a code is the sign, 1 for positive (R16). -/
def codePositive (c : Code) : Bool := 128 ≤ c.toNat

/-- Section 12.7: bits 6..4 of a code are the segment (R16). -/
def codeSegment (c : Code) : Nat := c.toNat / 16 % 8

/-- Section 12.7: bits 3..0 of a code are the step (R16). -/
def codeStep (c : Code) : Nat := c.toNat % 16

/-- R16: the code with the given fields. -/
def makeCode (positive : Bool) (segment step : Nat) : Code :=
  byteOf ((if positive then 128 else 0) + 16 * segment + step)

/-- R16: the magnitude of a code. -/
def magnitude (c : Code) : Nat := (codeStep c + 16) * 2 ^ codeSegment c - 16

/-- R17: expansion. -/
def expand (c : Code) : Int := if codePositive c then (magnitude c : Int) else -(magnitude c : Int)

/-- R18 step 2: the largest segment 0..`top` whose smallest magnitude is at or below m. -/
def segmentOf (m : Nat) : Nat → Nat
  | 0 => 0
  | top + 1 => if 16 * 2 ^ (top + 1) ≤ m + 16 then top + 1 else segmentOf m top

/-- R18: compression. -/
def compress (x : Int) : Code :=
  let m := x.natAbs
  let s := segmentOf m 7
  makeCode (0 ≤ x) s ((m + 16) / 2 ^ s - 16)

/-- R21: the multiplier of a gain code in -6..+6. -/
def multiplier (gain : Int) : Nat :=
  [2053, 2303, 2584, 2900, 3254, 3651, 4096, 4596, 5157, 5786, 6492, 7284, 8173].getD (gain + 6).toNat 4096

/-- R22: scaling by a multiplier, half away from zero. -/
def scale (x : Int) (m : Nat) : Int := x.sign * ((x.natAbs * m + 2048) / 4096 : Nat)

/-- R23: saturation: the value kept within -3952..+3952, and whether the sample was clipped. -/
def saturate (y : Int) : Int × Bool :=
  if 3952 < y then (3952, true) else if y < -3952 then (-3952, true) else (y, false)

/-- R22, R23, R18: scale, saturate and compress a linear value; the code and its clip mark. -/
def levelled (x : Int) (m : Nat) : Code × Bool :=
  let (y, clipped) := saturate (scale x m)
  (compress y, clipped)

/-- R25: a code through a leg's receive gain. At gain code 0 it passes unchanged; the clip mark is discarded. -/
def applyGain (gain : Int) (c : Code) : Code :=
  if gain = 0 then c else (levelled (expand c) (multiplier gain)).1

/-- R27: sign inversion. -/
def invertSign (c : Code) : Code := c ^^^ 0x80

end Sys2Proof.Machine
end

