-- ==== Sys2Proof/Machine/Wheel.lean ====
section
/-! DEFINITION. The key wheel and the block scrambler (chapter 3). -/

namespace Sys2Proof.Machine

/-- R29: the epoch seed of epoch e under a key. -/
def epochSeed (k : Key) (e : Half) : WheelWord := k.hi ^^^ BitVec.ofNat 24 (e.toNat * 257)

/-- R30: one step of the wheel; the lowest bit of K_lo is forced to 1. -/
def wheelStep (k : Key) (v : WheelWord) : WheelWord := v * 5 + (k.lo ||| 1)

/-- The wheel stepped n times. -/
def wheelSteps (k : Key) : Nat → WheelWord → WheelWord
  | 0, v => v
  | n + 1, v => wheelSteps k n (wheelStep k v)

/-- R30: the block value for block index b of epoch e. -/
def blockValue (k : Key) (e : Half) (b : Nat) : WheelWord := wheelSteps k (b + 1) (epochSeed k e)

/-- R31: the block word of a block value. -/
def blockWord (v : WheelWord) : WheelWord := v ^^^ (v >>> 9)

/-- R31: the permutation number, 0..40319. -/
def permutationNumber (w : WheelWord) : Nat := w.toNat % 40320

/-- R31: the sign mask; bit i has weight 2^i. -/
def signMask (w : WheelWord) : Nat := w.toNat / 40320 % 256

/-- R32: the swaps for positions `pos`, `pos - 1`, ..., 1 in that order, with the number still to be decoded. -/
def swapsFrom : Nat → Nat → List (Position × Position)
  | 0, _ => []
  | pos + 1, p => (Fin.ofNat 8 (pos + 1), Fin.ofNat 8 (p % (pos + 2))) :: swapsFrom pos (p / (pos + 2))

/-- R32: the seven swaps of a permutation number. -/
def swapsOf (p : Nat) : List (Position × Position) := swapsFrom 7 p

/-- R32: the block with the codes in two positions exchanged. -/
def swapCodes (b : Block) (ij : Position × Position) : Block := (b.set ij.1 b[ij.2]).set ij.2 b[ij.1]

/-- R32: a block arranged by a permutation number. -/
def arrange (p : Nat) (b : Block) : Block := (swapsOf p).foldl swapCodes b

/-- R34: the swaps of R32 made again in reverse order. -/
def unarrange (p : Nat) (b : Block) : Block := (swapsOf p).reverse.foldl swapCodes b

/-- R33: the sign of the code in each position whose mask bit is 1 is inverted. -/
def invertMasked (mask : Nat) (b : Block) : Block :=
  Vector.ofFn fun i => if mask.testBit i.val then invertSign b[i] else b[i]

/-- R33, R35: a block scrambled with a block value in a mode. -/
def scrambleBlock (mode : ScrambleMode) (v : WheelWord) (b : Block) : Block :=
  let w := blockWord v
  match mode with
  | .pass => b
  | .invert => invertMasked (signMask w) b
  | .shuffle => invertMasked (signMask w) (arrange (permutationNumber w) b)

/-- R34, R35: a received block descrambled with a block value in a mode. -/
def descrambleBlock (mode : ScrambleMode) (v : WheelWord) (b : Block) : Block :=
  let w := blockWord v
  match mode with
  | .pass => b
  | .invert => invertMasked (signMask w) b
  | .shuffle => unarrange (permutationNumber w) (invertMasked (signMask w) b)

/-- R36: the counters after a block of the direction is processed. -/
def Counters.advance (epochLength : Nat) (c : Counters) : Counters :=
  if c.index + 1 < epochLength then { c with index := c.index + 1 } else { c with index := 0, epoch := c.epoch + 1 }

/-- R37: the value for the block the counters name. -/
def Counters.nextValue (k : Key) (c : Counters) : WheelWord :=
  if c.index = 0 then wheelStep k (epochSeed k c.epoch) else wheelStep k c.wheel

/-- R37: a block processed: the value found becomes the wheel value and the counters advance. -/
def Counters.take (k : Key) (epochLength : Nat) (c : Counters) : Counters :=
  Counters.advance epochLength { c with wheel := c.nextValue k }

/-- R43 step 4, R44: catch-up. With block index 0 the wheel value is left as it was. -/
def Counters.catchUp (k : Key) (c : Counters) : Counters :=
  if c.index = 0 then c else { c with wheel := wheelSteps k c.index (epochSeed k c.epoch) }

/-- R43: a counter load from a SYNC cell's epoch and block index. -/
def Counters.load (k : Key) (epochLength : Nat) (epoch : Half) (index : Nat) (c : Counters) : Counters :=
  Counters.catchUp k (Counters.advance epochLength { c with epoch := epoch, index := index })

/-- R46: the admission word for a credential and a nonce. -/
def admissionWord (credential : Key) (nonce : Half) : WheelWord := blockWord (blockValue credential nonce 3)

/-- Codes laid into a block by position; a place with no code is silence. A block that is descrambled always
holds 8 codes (R40), so no place is short there (log entry 17). -/
def blockOf (codes : List Code) : Block := Vector.ofFn fun i => codes.getD i.val silence

/-- R45: a muted block. -/
def silentBlock : Block := Vector.replicate 8 silence

end Sys2Proof.Machine
end

