-- ==== Sys2Proof/Machine/Ops.lean ====
section
/-! DEFINITION. The operations the commands share: notices, replies, the tables' lookups, the line slot output
map, the Trunk Cell Queue, the clearing path of a leg, the closing path of a conference, and the fault action. -/

namespace Sys2Proof.Machine

/-! ### The reset line -/

/-- R178: while the reset line is asserted nothing is taken; otherwise the command has its effect. -/
def whenInService (s : State) (f : State → State) : Result := if s.resetAsserted then .next s else .next (f s)

/-! ### Notices (R174) -/

/-- R174, R176: whether a notice kind is enabled; RESTARTED is not subject to the mask. -/
def NoticeUnit.enabled (n : NoticeUnit) (k : NoticeKind) : Bool :=
  match k.maskIndex with
  | none => true
  | some i => n.mask.getLsbD i

/-- R174: an enabled notice is appended; at 64 entries the oldest is discarded and the overrun flag is set. -/
def NoticeUnit.push (n : NoticeUnit) (e : Notice) : NoticeUnit :=
  if n.enabled e.kind then
    if n.queue.length < Config.noticeRoom then { n with queue := n.queue ++ [e], attention := true }
    else { n with queue := n.queue.drop 1 ++ [e], overrun := true, attention := true }
  else n

/-- R174: a notice queued, stamped with the line block counter (R2). -/
def State.notify (s : State) (kind : NoticeKind) (subject : Nat) (detail : Half) : State :=
  { s with notices := s.notices.push { kind := kind, subject := byteOf subject, detail := detail, stamp := s.line.blockCount } }

/-! ### Replies (R170, R171) -/

/-- What a taking answers: a reply at once, or the place of a reply made later (R165). -/
inductive Answer where
  | now (status : Status) (body : List Byte)
  | later
  deriving DecidableEq, Repr

/-- A refusal changes nothing and carries no body (R170). -/
def refuse (status : Status) (s : State) : State × Answer := (s, .now status [])

/-- An OK reply with its body (R170). -/
def okay (body : List Byte) (s : State) : State × Answer := (s, .now .ok body)

/-- R171: how many replies wait to be sent; an outstanding commit reply is not counted. -/
def Link.waiting (l : Link) : Nat := (l.replies.filter (·.isSome)).length

/-- R171: each reply is sent as soon as the one before it has left; an outstanding commit reply holds back
those behind it. -/
def Link.send (l : Link) : Link :=
  match l.leaving, l.replies with
  | none, some r :: rest => { l with leaving := some r, replies := rest }
  | _, _ => l

/-- R171: a reply joins the reply list in the order its request was taken. -/
def Link.push (l : Link) (r : Option Reply) : Link := Link.send { l with replies := l.replies ++ [r] }

/-- The first outstanding place of a reply list filled. -/
def fillFirst (r : Reply) : List (Option Reply) → List (Option Reply)
  | [] => []
  | none :: rest => some r :: rest
  | some x :: rest => some x :: fillFirst r rest

/-- R165, R168: the outstanding commit reply is made, in its own place. -/
def Link.resolve (l : Link) (r : Reply) : Link := Link.send { l with replies := fillFirst r l.replies }

/-- R170: the reply of a request. -/
def Answer.reply (code : Byte) : Answer → Option Reply
  | .now status body => some { code := replyCode code, status := status, body := body }
  | .later => none

/-- R170, R171: a request taken whole, with its reply; a frame that completes while 16 replies wait is
discarded. -/
def takeRequest (code : Byte) (handler : State → State × Answer) (s : State) : State :=
  if s.link.waiting < Config.replyRoom then
    let (s', a) := handler s
    { s' with link := s'.link.push (a.reply code) }
  else s

/-- A request whose body is read by a parser: BAD_ARGUMENT where the body has not its form (R170). -/
def withArgs {α : Type} (args : Option α) (f : α → State → State × Answer) (s : State) : State × Answer :=
  match args with
  | none => refuse .badArgument s
  | some a => f a s

/-! ### Extension records -/

/-- R105: the bound slot, in CHALLENGED, ADMITTED and REFRESHING. -/
def Admission.slot? : Admission → Option Slot
  | .challenged slot _ _ | .admitted slot _ | .refreshing slot _ _ => some slot
  | .idle | .barred _ | .suspended => none

/-- R104: an extension is admitted in ADMITTED and REFRESHING. -/
def Admission.isAdmitted : Admission → Bool
  | .admitted _ _ | .refreshing _ _ _ => true
  | _ => false

/-- R104: the record at a handle. -/
def State.record (s : State) (h : Handle) : Option ExtRecord := s.ext.records[h]

/-- The slot an extension is bound to. -/
def State.boundSlot (s : State) (h : Handle) : Option Slot := (s.record h).bind (·.state.slot?)

/-- Whether an extension is admitted and its class meets a test. -/
def State.admittedWith (s : State) (h : Handle) (p : ExtClass → Bool) : Bool :=
  (s.record h).any fun r => r.state.isAdmitted && p r.cls

/-- R106: the record holding a number, count and digits both matching. -/
def State.findNumber (s : State) (n : ExtNumber) : Option Handle :=
  firstPlace fun h => (s.record h).any fun r => r.number == n

/-- R105: the extension bound to a line slot. -/
def State.boundTo (s : State) (slot : Slot) : Option Handle :=
  firstPlace fun h => s.boundSlot h == some slot

/-- R106, R109: the record a reference names. -/
def State.lookup (s : State) : ExtRef → Option Handle
  | .number n => s.findNumber n
  | .handle h => if (s.record h).isSome then some h else none
  | .nextAt h => firstPlace fun k => h ≤ k && (s.record k).isSome

/-- One extension record replaced, created or removed. -/
def State.setRecord (s : State) (h : Handle) (r : Option ExtRecord) : State :=
  { s with ext := { s.ext with records := s.ext.records.set h r } }

/-- One extension record changed, where there is one. -/
def State.updateRecord (s : State) (h : Handle) (f : ExtRecord → ExtRecord) : State :=
  { s with ext := { s.ext with records := s.ext.records.set h ((s.ext.records[h]).map f) } }

/-- An extension record's admission state changed. -/
def State.setAdmission (s : State) (h : Handle) (a : Admission) : State :=
  s.updateRecord h fun r => { r with state := a }

/-! ### Legs and the line slot output map -/

/-- R51: WAITING, RUNNING and HOLDING, the states in which a leg is open. -/
def LegState.isOpen : LegState → Bool
  | .clearing _ => false
  | _ => true

/-- R50: the receive tag. -/
def Leg.receiveTag (l : Leg) : Byte := l.farTag.getD (byteOf l.slot)

/-- One leg record changed, where there is one. -/
def State.updateLeg (s : State) (n : LegNo) (f : Leg → Leg) : State :=
  { s with legs := s.legs.set n ((s.legs[n]).map f) }

/-- One leg record replaced, opened or freed. -/
def State.setLeg (s : State) (n : LegNo) (l : Option Leg) : State := { s with legs := s.legs.set n l }

/-- R52: the leg of an owner whose endpoint is LINE. -/
def State.lineLegOf (s : State) (h : Handle) : Option LegNo :=
  firstPlace fun n => (s.legs[n]).any fun l => l.owner == h && l.endpoint == .line

/-- R7: the map entry of a slot set. -/
def LinePort.setSource (p : LinePort) (slot : Option Slot) (src : SlotSource) : LinePort :=
  match slot with
  | none => p
  | some k => { p with outMap := p.outMap.set k src }

/-- R7: the map entry of a slot becomes NONE, if it named this source. -/
def LinePort.release (p : LinePort) (slot : Option Slot) (src : SlotSource) : LinePort :=
  match slot with
  | none => p
  | some k => if p.outMap[k] = src then { p with outMap := p.outMap.set k .vacant } else p

/-! ### Conference membership -/

/-- R153, R154: a member taken out of the list and of the mixing set. -/
def Conf.remove (m : Member) (k : Conf) : Conf :=
  { k with members := k.members.erase m, mixSet := k.mixSet.map (·.erase m) }

/-- One conference record changed, where there is one. -/
def State.updateConf (s : State) (c : ConfNo) (f : Conf → Conf) : State :=
  { s with confs := s.confs.set c ((s.confs[c]).map f) }

/-- One conference record replaced, opened or freed. -/
def State.setConf (s : State) (c : ConfNo) (k : Option Conf) : State := { s with confs := s.confs.set c k }

/-- The members of a conference, none when it is FREE. -/
def State.membersOf (s : State) (c : ConfNo) : List Member :=
  match s.confs[c] with
  | none => []
  | some k => k.members

/-- R146: the conference an extension is a local member of. -/
def State.localConf (s : State) (h : Handle) : Option ConfNo :=
  firstPlace fun c => (s.membersOf c).contains (.loc h)

/-- R146: the free places of the member pool. -/
def State.freePlaces (s : State) : Nat :=
  Config.poolRoom - ((List.finRange 8).map fun c => (s.membersOf c).length).sum

/-! ### The Trunk Cell Queue -/

/-- R62 step 5: a leg's SYNC and ROLL requests removed; the others keep their order. -/
def withoutSyncRoll (n : LegNo) (q : List CellRequest) : List CellRequest :=
  q.filter fun r => !(r.leg == n && r.kind != .clear)

/-! ### The clearing path (R62, R65) -/

/-- R62 steps 1 to 4 and 6 on the leg's own record. -/
def Leg.cleared (cause : CloseCause) (room : Bool) (l : Leg) : Leg :=
  { l with
    state := .clearing cause, endpoint := .parked, pendingKey := none, switchEpoch := none, announced := none,
    wantsRoll := false, wantsClear := !room, gathering := false, txAssembly := [], gathered := none,
    emission := none, rxAssembly := [] }

/-- R62: the clearing path of an open leg, steps 1 to 6 in one taking; `ownerSlot` is the owner's slot, or its
former slot in a fault action (R135). -/
def State.clearLeg (s : State) (n : LegNo) (cause : CloseCause) (ownerSlot : Option Slot) : State :=
  match s.legs[n] with
  | none => s
  | some l =>
    let q := withoutSyncRoll n s.cellQueue
    let room : Bool := q.length < Config.cellQueueRoom
    { s with
      line := (match l.endpoint with | .line => s.line.release ownerSlot (.leg n) | _ => s.line)
      confs := (match l.endpoint with
        | .conference c => s.confs.set c ((s.confs[c]).map (Conf.remove (.leg n)))
        | _ => s.confs)
      cellQueue := if room then q ++ [{ kind := .clear, leg := n }] else q
      legs := s.legs.set n (some (l.cleared cause room)) }

/-! ### The closing path of a conference (R148) -/

/-- R148: why a conference is closed. -/
inductive ConfCause where
  | host | fault | chair
  deriving DecidableEq, Repr

/-- R148: the detail of CONF_CLOSED. -/
def ConfCause.value : ConfCause → Half
  | .host => 0 | .fault => 1 | .chair => 2

/-- R148 step 1: one member taken out of conference c that is being closed. -/
def State.dismiss (c : ConfNo) (s : State) : Member → State
  | .leg n => s.updateLeg n fun l => { l with endpoint := .parked }
  | .loc h => { s with line := s.line.release (s.boundSlot h) (.conference c) }

/-- R148: the closing path of an OPEN conference. -/
def State.closeConf (s : State) (c : ConfNo) (cause : ConfCause) : State :=
  match s.confs[c] with
  | none => s
  | some k => ((k.members.foldl (State.dismiss c) s).setConf c none).notify .confClosed c cause.value

/-! ### The fault action (chapter 9) -/

/-- R135: why admission was lost. -/
inductive LossCause where
  | bye | refreshFailed | suspended | revoked
  deriving DecidableEq, Repr

/-- R135: the cause codes. -/
def LossCause.value : LossCause → Nat
  | .bye => 1 | .refreshFailed => 2 | .suspended => 3 | .revoked => 4

/-- R136: the scope codes. -/
def FaultScope.code : FaultScope → Nat
  | .leg => 0 | .call => 1 | .group => 2

/-- R136: the OPEN conferences that hold X as a local member or a leg owned by X. -/
def State.engagedConfs (s : State) (x : Handle) : List ConfNo :=
  placesWhere fun c => (s.membersOf c).any fun m =>
    match m with
    | .loc h => h == x
    | .leg n => (s.legs[n]).any fun l => l.owner == x

/-- R136: the OPEN conferences whose chair is X. -/
def State.chairedConfs (s : State) (x : Handle) : List ConfNo :=
  placesWhere fun c => (s.confs[c]).any fun k => k.chair == some x

/-- R137: the scope set, in handle order. -/
def State.scopeSet (s : State) (x : Handle) : FaultScope → List Handle
  | .leg | .call => [x]
  | .group => placesWhere fun h => (s.record h).any fun r => (s.record x).any fun rx => r.group == rx.group

/-- R138: the open legs an extension owns, in leg-number order. -/
def State.openLegsOf (s : State) (e : Handle) : List LegNo :=
  placesWhere fun n => (s.legs[n]).any fun l => l.owner == e && l.state.isOpen

/-- R138: the legs of one extension closed with cause FAULT, each in full before the next. -/
def State.faultLegs (s : State) (e : Handle) (slot : Option Slot) : State :=
  (s.openLegsOf e).foldl (fun s n => s.clearLeg n .fault slot) s

/-- R139, R152: an extension's local membership of conference c removed. -/
def State.removeLocal (s : State) (c : ConfNo) (e : Handle) (slot : Option Slot) : State :=
  { s with
    confs := s.confs.set c ((s.confs[c]).map (Conf.remove (.loc e)))
    line := s.line.release slot (.conference c) }

/-- R138, R139: step 3 for one extension of the scope set. X is `x`, with its former slot. -/
def State.faultExtension (x : Handle) (former : Slot) (s : State) (e : Handle) : State :=
  let slot := if e = x then some former else s.boundSlot e
  let s := s.faultLegs e slot
  match s.localConf e with
  | none => s
  | some c => s.removeLocal c e slot

/-- R136: the fault action of X's loss of admission, in the cause rule's taking: the notice, the scope set's
legs and memberships, under CALL scope the engaged conferences, and the chaired conferences. -/
def State.faultAction (s : State) (x : Handle) (cause : LossCause) (scope : FaultScope) (former : Slot) : State :=
  let s := s.notify .admissionLost x (BitVec.ofNat 16 (256 * scope.code + cause.value))
  let engaged := s.engagedConfs x
  let chaired := s.chairedConfs x
  let s := (s.scopeSet x scope).foldl (State.faultExtension x former) s
  let s := if scope = .call then engaged.foldl (fun s c => s.closeConf c .fault) s else s
  chaired.foldl (fun s c => s.closeConf c .chair) s

/-! ### Admission cells and challenges (R120, R121) -/

/-- R120: whether the Admission Cell Queue has room. -/
def State.admRoom (s : State) : Bool := s.admQueue.length < Config.admQueueRoom

/-- R120: an ACCEPT or REFUSE queued if there is room, discarded otherwise. -/
def State.queueCell (s : State) (c : OutgoingCell) : State :=
  { s with admQueue := if s.admQueue.length < Config.admQueueRoom then s.admQueue ++ [c.build] else s.admQueue }

/-- R121: the nonce the next draw gives. -/
def State.nextNonce (s : State) : Half := s.ext.generator * 5 + s.params.stride

/-- R121, R124, R133: a nonce drawn and its CHALLENGE appended for a slot. -/
def State.sendChallenge (s : State) (slot : Slot) : State :=
  { s with
    ext := { s.ext with generator := s.nextNonce }
    admQueue := s.admQueue ++ [(OutgoingCell.challenge slot s.nextNonce).build] }

end Sys2Proof.Machine
end

