-- ==== Sys2Proof/Machine/Extensions.lean ====
section
/-! DEFINITION. The requests of the Extension Table (chapter 7). -/

namespace Sys2Proof.Machine

/-- R106: a request that names a record: the lookup is checked before anything else. -/
def withRecord (args : Option ExtRef) (f : Handle → ExtRecord → State → State × Answer) (s : State) : State × Answer :=
  match args with
  | none => refuse .badArgument s
  | some ref =>
    match s.lookup ref with
    | none => refuse .notFound s
    | some h =>
      match s.record h with
      | none => refuse .notFound s
      | some r => f h r s

/-! ### EXT_LOAD (R107) -/

/-- R107: the lowest free handle. -/
def State.lowestFree (s : State) : Option Handle := firstPlace fun h => (s.record h).isNone

/-- R107: EXT_LOAD taken. -/
def loadExt (a : ExtLoadArgs) (s : State) : State × Answer :=
  match s.findNumber a.number with
  | none =>
    match s.lowestFree with
    | none => refuse .full s
    | some h =>
      okay [byteOf h] (s.setRecord h (some
        { number := a.number, credential := a.credential, cls := a.cls, group := a.group, scope := a.scope,
          state := .idle, failures := 0 }))
  | some h =>
    if (s.boundSlot h).isSome then refuse .busy s
    else
      okay [byteOf h] (s.updateRecord h fun r =>
        { r with credential := a.credential, cls := a.cls, group := a.group, scope := a.scope })

def extLoadRequest (body : List Byte) : State → State × Answer := withArgs (parseExtLoad body) loadExt

/-- EXT_LOAD (R107). -/
def execExtLoad (body : List Byte) (s : State) : Result := whenInService s (takeRequest 0x09 (extLoadRequest body))

/-! ### EXT_REMOVE (R108) -/

/-- R108: EXT_REMOVE taken. -/
def removeExt (h : Handle) (r : ExtRecord) (s : State) : State × Answer :=
  if r.state.slot?.isSome || !(s.chairedConfs h).isEmpty then refuse .busy s
  else okay [byteOf h] (s.setRecord h none)

def extRemoveRequest (body : List Byte) : State → State × Answer := withRecord (parseRef false body) removeExt

/-- EXT_REMOVE (R108). -/
def execExtRemove (body : List Byte) (s : State) : Result :=
  whenInService s (takeRequest 0x0A (extRemoveRequest body))

/-! ### EXT_READ (R109) -/

/-- R109: how many records the table holds. -/
def State.recordCount (s : State) : Nat := (placesWhere fun h => (s.record h).isSome).length

/-- R104: the nonce, in CHALLENGED and REFRESHING. -/
def Admission.nonce? : Admission → Option Half
  | .challenged _ n _ | .refreshing _ n _ => some n
  | _ => none

/-- R104: the answer timer, with the nonce. -/
def Admission.answer? : Admission → Option Nat
  | .challenged _ _ t | .refreshing _ _ t => some t
  | _ => none

/-- R104: the bar timer, in BARRED. -/
def Admission.bar? : Admission → Option Nat
  | .barred t => some t
  | _ => none

/-- R104: the refresh timer, in ADMITTED. -/
def Admission.refresh? : Admission → Option Nat
  | .admitted _ t => t
  | _ => none

/-- R109, section 12.7: the reply body for a record. The credential is never returned. -/
def ExtRecord.report (h : Handle) (count limit : Nat) (r : ExtRecord) : List Byte :=
  let a := r.state
  [byteOf h] ++ numberBytes r.number
  ++ [r.cls.value, byteOf r.group, r.scope.value, a.value, byteOf r.failures,
      presenceByte [a.slot?.isSome, a.nonce?.isSome, a.answer?.isSome, a.bar?.isSome, a.refresh?.isSome],
      (a.slot?.map fun k => byteOf k).getD 0]
  ++ bytes16 ((a.nonce?.map (·.toNat)).getD 0) ++ bytes16 (a.answer?.getD 0) ++ bytes32 (a.bar?.getD 0)
  ++ bytes32 (a.refresh?.getD 0) ++ bytes16 count ++ [byteOf limit]

/-- R109: EXT_READ taken; it changes nothing. -/
def readExt (h : Handle) (r : ExtRecord) (s : State) : State × Answer :=
  okay (r.report h s.recordCount s.params.failureLimit) s

def extReadRequest (body : List Byte) : State → State × Answer := withRecord (parseRef true body) readExt

/-- EXT_READ (R109). -/
def execExtRead (body : List Byte) (s : State) : Result := whenInService s (takeRequest 0x0B (extReadRequest body))

/-! ### EXT_SUSPEND, EXT_RESUME, EXT_UNBAR, EXT_REVOKE (R110 to R112) -/

/-- R110: EXT_SUSPEND taken; the effect depends on the state before. -/
def suspendExt (h : Handle) (r : ExtRecord) (s : State) : State × Answer :=
  let suspended := s.setAdmission h .suspended
  let s' := match r.state with
    | .idle | .challenged _ _ _ => suspended
    | .suspended => s
    | .admitted slot _ | .refreshing slot _ _ => suspended.faultAction h .suspended r.scope slot
    | .barred _ =>
      s.updateRecord h fun r => { r with state := .suspended, failures := s.params.failureLimit - 1 }
  okay [r.state.value] s'

def extSuspendRequest (body : List Byte) : State → State × Answer := withRecord (parseRef false body) suspendExt

/-- EXT_SUSPEND (R110). -/
def execExtSuspend (body : List Byte) (s : State) : Result :=
  whenInService s (takeRequest 0x0C (extSuspendRequest body))

/-- R111: EXT_RESUME taken. -/
def resumeExt (h : Handle) (r : ExtRecord) (s : State) : State × Answer :=
  match r.state with
  | .suspended => okay [] (s.setAdmission h .idle)
  | _ => refuse .state s

def extResumeRequest (body : List Byte) : State → State × Answer := withRecord (parseRef false body) resumeExt

/-- EXT_RESUME (R111). -/
def execExtResume (body : List Byte) (s : State) : Result :=
  whenInService s (takeRequest 0x0D (extResumeRequest body))

/-- R111: EXT_UNBAR taken; no BAR_ENDED is queued. -/
def unbarExt (h : Handle) (r : ExtRecord) (s : State) : State × Answer :=
  match r.state with
  | .barred _ => okay [] (s.updateRecord h fun r => { r with state := .idle, failures := 0 })
  | _ => refuse .state s

def extUnbarRequest (body : List Byte) : State → State × Answer := withRecord (parseRef false body) unbarExt

/-- EXT_UNBAR (R111). -/
def execExtUnbar (body : List Byte) (s : State) : Result := whenInService s (takeRequest 0x0E (extUnbarRequest body))

/-- R112: EXT_REVOKE taken. -/
def revokeExt (h : Handle) (r : ExtRecord) (s : State) : State × Answer :=
  let idle := s.setAdmission h .idle
  match r.state with
  | .admitted slot _ | .refreshing slot _ _ => okay [r.state.value] (idle.faultAction h .revoked r.scope slot)
  | .challenged _ _ _ => okay [r.state.value] idle
  | .idle | .barred _ | .suspended => refuse .state s

def extRevokeRequest (body : List Byte) : State → State × Answer := withRecord (parseRef false body) revokeExt

/-- EXT_REVOKE (R112). -/
def execExtRevoke (body : List Byte) (s : State) : Result :=
  whenInService s (takeRequest 0x0F (extRevokeRequest body))

/-! ### SLOT_MAP (R115) -/

/-- R115: the changes made in list order. -/
def ExtTable.applyChanges (t : ExtTable) (changes : List (Slot × Bool)) : ExtTable :=
  { t with listen := changes.foldl (fun m c => m.set c.1 c.2) t.listen }

/-- R115, section 12.7: the whole map and the two counters. -/
def ExtTable.report (t : ExtTable) : List Byte :=
  (t.listen.toList.drop 1).map bitByte ++ bytes16 t.ignoredCells ++ bytes16 t.badCells

/-- R115: SLOT_MAP taken. -/
def mapSlots (a : Bool × List (Slot × Bool)) (s : State) : State × Answer :=
  let t := s.ext.applyChanges a.2
  okay t.report { s with ext := if a.1 then { t with ignoredCells := 0, badCells := 0 } else t }

def slotMapRequest (body : List Byte) : State → State × Answer := withArgs (parseSlotMap body) mapSlots

/-- SLOT_MAP (R115). -/
def execSlotMap (body : List Byte) (s : State) : Result := whenInService s (takeRequest 0x10 (slotMapRequest body))

end Sys2Proof.Machine
end

