-- ==== Sys2Proof/Machine/Admissions.lean ====
section
/-! DEFINITION. Admission on the line side: cells on line slot 0, and the three timers (chapter 8). -/

namespace Sys2Proof.Machine

/-! ### HELLO (R122 to R125) -/

/-- R122, R123: a REFUSE queued if there is room, and ADMIT_REFUSED whether or not it was. -/
def State.refuseHello (s : State) (slot : Slot) (reason : RefuseReason) : State :=
  (s.queueCell (.refuse slot reason)).notify .admitRefused slot (reason.value.setWidth 16)

/-- R122: why a HELLO from a slot is refused at once, for the extension's state. -/
def helloRefusal (slot : Slot) : Admission → Option RefuseReason
  | .suspended => some .suspended
  | .barred _ => some .barred
  | .admitted k _ | .refreshing k _ _ => if k = slot then none else some .inUse
  | .idle | .challenged _ _ _ => none

/-- R124: the state a challenge puts an extension in. -/
def challengedState (slot : Slot) (nonce : Half) (timeout : Nat) : Admission → Admission
  | .admitted _ _ | .refreshing _ _ _ => .refreshing slot nonce timeout
  | _ => .challenged slot nonce timeout

/-- R123, R124: whether a challenge to the extension is out. -/
def Admission.inChallenge : Admission → Bool
  | .challenged _ _ _ | .refreshing _ _ _ => true
  | _ => false

/-- R124, R125: extension X challenged on a slot, or the HELLO not taken where the queue is full. -/
def State.challengeHello (s : State) (slot : Slot) (x : Handle) (r : ExtRecord) : State :=
  if s.admRoom then
    let s' := if r.state.inChallenge then s.notify .superseded x (BitVec.ofNat 16 slot) else s
    (s'.sendChallenge slot).setAdmission x (challengedState slot s.nextNonce s.params.answerTimeout r.state)
  else s.notify .admitRefused slot 8

/-- R123: another extension holds the slot: it is SLOT_BUSY if admitted, superseded if only challenged. -/
def State.claimSlot (s : State) (slot : Slot) (x : Handle) (r : ExtRecord) : State :=
  match s.boundTo slot with
  | none => s.challengeHello slot x r
  | some y =>
    if y = x then s.challengeHello slot x r
    else if s.admittedWith y (fun _ => true) then s.refuseHello slot .slotBusy
    else
      ((s.setAdmission y .idle).notify .superseded y (BitVec.ofNat 16 slot)).challengeHello slot x r

/-- R122 to R125: a HELLO taken. -/
def State.takeHello (s : State) (slot : Slot) (number : ExtNumber) : State :=
  match s.findNumber number with
  | none => s.refuseHello slot .unknown
  | some x =>
    match s.record x with
    | none => s
    | some r =>
      match helloRefusal slot r.state with
      | some reason => s.refuseHello slot reason
      | none => s.claimSlot slot x r

/-! ### ANSWER (R126 to R129) -/

/-- R127: the refresh timer of an entry into ADMITTED. -/
def Params.refreshTimer (p : Params) : Option Nat :=
  if p.refreshInterval = 0 then none else some (p.refreshInterval * Config.blocksPerSecond)

/-- R127: a matching ANSWER admits X. -/
def State.grant (s : State) (x : Handle) (r : ExtRecord) (slot : Slot) : State :=
  let s' := (s.setRecord x (some { r with state := .admitted slot s.params.refreshTimer, failures := 0 })).queueCell
    (.accept slot)
  s'.notify (if r.state.isAdmitted then .refreshed else .admitted) x (BitVec.ofNat 16 slot)

/-- R128, R129: a challenge to X on a slot failed, by a wrong answer or by its timer. -/
def State.failChallenge (s : State) (x : Handle) (r : ExtRecord) (slot : Slot) (reason : RefuseReason) : State :=
  let count := r.failures + 1
  let s' :=
    if count < s.params.failureLimit then
      ((s.setRecord x (some { r with state := .idle, failures := count })).queueCell (.refuse slot reason)).notify
        .admitFailed x (reason.value.setWidth 16)
    else
      ((s.setRecord x (some { r with state := .barred (s.params.barTime * Config.blocksPerSecond), failures := count })).queueCell
        (.refuse slot .barred)).notify .barred x (reason.value.setWidth 16)
  if r.state.isAdmitted then s'.faultAction x .refreshFailed r.scope slot else s'

/-- R126: a stray ANSWER. -/
def State.strayAnswer (s : State) (slot : Slot) (bound : Option Handle) : State :=
  s.notify .strayAnswer slot (match bound with | none => 0xFFFF | some h => BitVec.ofNat 16 h)

/-- R126: an ANSWER taken. -/
def State.takeAnswer (s : State) (slot : Slot) (word : WheelWord) : State :=
  match s.boundTo slot with
  | none => s.strayAnswer slot none
  | some x =>
    match s.record x with
    | none => s
    | some r =>
      match r.state with
      | .challenged _ nonce _ | .refreshing _ nonce _ =>
        if word = admissionWord r.credential nonce then s.grant x r slot else s.failChallenge x r slot .wrong
      | _ => s.strayAnswer slot (some x)

/-! ### BYE (R130) -/

/-- R130: a BYE taken. -/
def State.takeBye (s : State) (slot : Slot) : State :=
  match s.boundTo slot with
  | none => s
  | some x =>
    match s.record x with
    | none => s
    | some r =>
      let idle := s.setAdmission x .idle
      if r.state.isAdmitted then idle.faultAction x .bye r.scope slot else idle

/-! ### Arrival and departure (R119, R120) -/

/-- R119, R114: an admission cell judged, filtered by the slot map and acted on. -/
def State.takeAdmissionCell (s : State) (cell : Cell) : State :=
  let onListen (slot : Slot) (act : State → State) : State :=
    if s.ext.listen[slot] then act s
    else { s with ext := { s.ext with ignoredCells := bump s.ext.ignoredCells } }
  match judgeAdmissionCell cell with
  | .idle => s
  | .bad => { s with ext := { s.ext with badCells := bump s.ext.badCells } }
  | .hello slot number => onListen slot fun s => s.takeHello slot number
  | .answer slot word => onListen slot fun s => s.takeAnswer slot word
  | .bye slot => onListen slot fun s => s.takeBye slot

/-- R4, R120: the departure of a line block start. -/
def State.admissionDeparture (s : State) : State :=
  if s.line.cellDue then
    match s.admQueue with
    | [] => { s with line := { s.line with cellDue := false, cellOut := idleAdmissionCell } }
    | c :: rest => { s with line := { s.line with cellDue := false, cellOut := c }, admQueue := rest }
  else s

/-- R119: the arrival handed over by the Line Highway Port taken. Taken after the line block start that follows it, it
queues its cells behind that start's departure (R120), which is therefore taken first if it still is to be. -/
def State.admissionArrival (s : State) : State :=
  match s.line.arrival with
  | none => s
  | some cell =>
    let s := s.admissionDeparture
    State.takeAdmissionCell { s with line := { s.line with arrival := none } } cell

/-- ADMISSION_CELL_ARRIVAL (R119): where no cell has been handed over the event does not occur. -/
def execAdmissionCellArrival (s : State) : Result := whenInService s State.admissionArrival

/-- ADMISSION_CELL_DEPARTURE (R120): one departure at each line block start. -/
def execAdmissionCellDeparture (s : State) : Result := whenInService s State.admissionDeparture

/-! ### Timers (R105, R129, R131, R133) -/

/-- R105: a present timer falls by one at a line block start. -/
def Admission.countDown : Admission → Admission
  | .challenged k n t => .challenged k n (t - 1)
  | .refreshing k n t => .refreshing k n (t - 1)
  | .admitted k (some t) => .admitted k (some (t - 1))
  | .barred t => .barred (t - 1)
  | a => a

/-- R129: the answer timer of an extension at 0. -/
def State.answerExpiry (s : State) (h : Handle) : State :=
  match s.record h with
  | none => s
  | some r =>
    match r.state with
    | .challenged slot _ 0 | .refreshing slot _ 0 => s.failChallenge h r slot .timeout
    | _ => s

/-- ANSWER_TIMER_EXPIRY (R129): where the timer does not stand at 0 the event does not occur. -/
def execAnswerTimerExpiry (handle : Handle) (s : State) : Result := whenInService s fun s => s.answerExpiry handle

/-- R131: the bar timer of an extension at 0. -/
def State.barExpiry (s : State) (h : Handle) : State :=
  match s.record h with
  | none => s
  | some r =>
    match r.state with
    | .barred 0 => (s.setRecord h (some { r with state := .idle, failures := 0 })).notify .barEnded h 0
    | _ => s

/-- BAR_TIMER_EXPIRY (R131): where the timer does not stand at 0 the event does not occur. -/
def execBarTimerExpiry (handle : Handle) (s : State) : Result := whenInService s fun s => s.barExpiry handle

/-- R133: an extension is engaged: REFRESH in its class, and an open leg or a local membership. -/
def State.engaged (s : State) (h : Handle) (r : ExtRecord) : Bool :=
  r.cls.refresh && (!(s.openLegsOf h).isEmpty || (s.localConf h).isSome)

/-- R133: the refresh timer of an extension at 0. -/
def State.refreshExpiry (s : State) (h : Handle) : State :=
  match s.record h with
  | none => s
  | some r =>
    match r.state with
    | .admitted slot (some 0) =>
      if s.engaged h r then
        if s.admRoom then
          (s.sendChallenge slot).setAdmission h (.refreshing slot s.nextNonce s.params.answerTimeout)
        else s.setAdmission h (.admitted slot (some 1))
      else s.setAdmission h (.admitted slot s.params.refreshTimer)
    | _ => s

/-- Whether a refresh timer stands at 0. -/
def Admission.refreshDue : Admission → Bool
  | .admitted _ (some 0) => true
  | _ => false

/-- R133: the lowest handle whose refresh timer stands at 0. -/
def State.nextRefreshDue (s : State) : Option Handle :=
  firstPlace fun h => (s.record h).any fun r => r.state.refreshDue

/-- R133: refresh expiries are taken one after another in handle order. -/
def State.nextRefreshExpiry (s : State) : State :=
  match s.nextRefreshDue with
  | none => s
  | some h => s.refreshExpiry h

/-- REFRESH_TIMER_EXPIRY (R133): the expiry of the lowest handle then due. -/
def execRefreshTimerExpiry (s : State) : Result := whenInService s State.nextRefreshExpiry

end Sys2Proof.Machine
end

