-- ==== Sys2Proof/Machine/Legs.lean ====
section
/-! DEFINITION. The leg commands: LEG_BLOCK_SCRAMBLE and the requests of chapters 4 and 6. -/

namespace Sys2Proof.Machine

/-! ### The transmit side (R38, R39, R57, R97) -/

/-- R49: the transmit key becomes a key setting. -/
def KeySetting.forTransmit (k : KeySetting) : DirKey := { gen := k.gen, mode := k.mode, key := k.scramble }

/-- R49: the receive key becomes a key setting. -/
def KeySetting.forReceive (k : KeySetting) : DirKey := { gen := k.gen, mode := k.mode, key := k.descramble }

/-- R102: the pending key is removed once both directions hold its generation. -/
def Leg.settlePending (l : Leg) : Leg :=
  match l.pendingKey with
  | none => l
  | some p => if l.txKey.gen = p.gen && l.rxKey.gen = p.gen then { l with pendingKey := none } else l

/-- R97: the pending key a transmit switch is due to, at the block the transmit counters name. -/
def Leg.switchDue (l : Leg) : Option KeySetting :=
  if l.tx.index = 0 && l.switchEpoch == some l.tx.epoch then l.pendingKey else none

/-- R97: the transmit switch. -/
def Leg.transmitSwitch (l : Leg) (p : KeySetting) : Leg :=
  Leg.settlePending { l with txKey := p.forTransmit, switchEpoch := none }

/-- R39: the gathered block scrambled for emission; the transmit counters advance. -/
def Leg.scramble (epochLength : Nat) (b : Block) (l : Leg) : Leg :=
  let v := l.tx.nextValue l.txKey.key
  { l with
    gathered := none
    emission := some { epoch := l.tx.epoch, index := l.tx.index, gen := l.txKey.gen,
                       codes := scrambleBlock l.txKey.mode v b }
    tx := l.tx.take l.txKey.key epochLength }

/-- R57, R79: a leg asks for a SYNC. -/
def State.askSync (s : State) (n : LegNo) : State :=
  if s.cellQueue.contains { kind := .sync, leg := n } then s
  else if s.cellQueue.length < Config.cellQueueRoom then
    { s with cellQueue := s.cellQueue ++ [{ kind := .sync, leg := n }] }
  else
    { s with
      framer := { s.framer with skippedSyncs := bump s.framer.skippedSyncs }
      legs := s.legs.set n ((s.legs[n]).map fun l => { l with skippedSyncs := bump l.skippedSyncs }) }

/-- R39: a leg that holds a complete gathered block scrambles it. At a transmit epoch start the transmit switch
is made before and a SYNC is asked for. -/
def State.scrambleLeg (s : State) (n : LegNo) : State :=
  match s.legs[n] with
  | none => s
  | some l =>
    match l.gathered with
    | none => s
    | some b =>
      if l.state.isOpen then
        let len := s.params.epochLength
        match l.switchDue with
        | some p =>
          ((s.setLeg n (some ((l.transmitSwitch p).scramble len b))).notify .keyRolled n
            (BitVec.ofNat 16 p.gen.toNat)).askSync n
        | none =>
          let s' := s.setLeg n (some (l.scramble len b))
          if l.tx.index = 0 then s'.askSync n else s'
      else s

/-- LEG_BLOCK_SCRAMBLE (R39): the block-start scrambling of one leg; where the leg holds no complete gathered
block the event does not occur. -/
def execLegBlockScramble (leg : LegNo) (s : State) : Result := whenInService s fun s => s.scrambleLeg leg

/-! ### LEG_OPEN (R54 to R56) -/

/-- R50, R54 check 3: the trunk slot or the receive tag is another leg's. -/
def State.slotOrTagInUse (s : State) (slot : Slot) (tag : Byte) : Bool :=
  (firstPlace fun n => (s.legs[n]).any fun l => l.slot == slot || l.receiveTag == tag).isSome

/-- R55: the record of a leg newly opened. -/
def LegOpenArgs.record (a : LegOpenArgs) (owner : Handle) (endpoint : Endpoint) : Leg :=
  { state := .waiting, owner := owner, slot := a.slot, farTag := a.farTag, endpoint := endpoint,
    txKey := a.setting.forTransmit, rxKey := a.setting.forReceive, pendingKey := none, switchEpoch := none,
    announced := none, tx := { epoch := a.epoch, index := 0, wheel := 0 }, rx := { epoch := 0, index := 0, wheel := 0 },
    gain := a.gain, realigns := 0, mutedBlocks := 0, skippedSyncs := 0, wantsRoll := false, wantsClear := false,
    gathering := false, txAssembly := [], gathered := none, emission := none, rxAssembly := [], rxOutput := [] }

/-- A leg's endpoint set to PARKED (R52). -/
def State.parkEndpoint (s : State) : Option LegNo → State
  | none => s
  | some n => s.updateLeg n fun l => { l with endpoint := .parked }

/-- R54: the checks of LEG_OPEN after its range checks, in order; the owner's handle if all pass. -/
def State.checkLegOpen (s : State) (a : LegOpenArgs) : Except Status Handle :=
  if (s.legs[a.leg]).isSome then .error .busy
  else if s.slotOrTagInUse a.slot (a.farTag.getD (byteOf a.slot)) then .error .existing
  else match s.findNumber a.owner with
    | none => .error .notFound
    | some h =>
      if !s.admittedWith h (fun _ => true) then .error .notAdmitted
      else if !s.admittedWith h (·.mayScramble) then .error .notPermitted
      else .ok h

/-- R54 to R56: LEG_OPEN taken. -/
def openLeg (a : LegOpenArgs) (s : State) : State × Answer :=
  match s.checkLegOpen a with
  | .error e => refuse e s
  | .ok h =>
    if a.connect && (s.localConf h).isNone then
      let other := s.lineLegOf h
      let s' := (s.parkEndpoint other).setLeg a.leg (some (a.record h .line))
      okay [1, legByte other] { s' with line := s'.line.setSource (s.boundSlot h) (.leg a.leg) }
    else okay [0, 0xFF] (s.setLeg a.leg (some (a.record h .parked)))

def legOpenRequest (body : List Byte) : State → State × Answer := withArgs (parseLegOpen body) openLeg

/-- LEG_OPEN (R54 to R56). -/
def execLegOpen (body : List Byte) (s : State) : Result := whenInService s (takeRequest 0x01 (legOpenRequest body))

/-! ### LEG_CLOSE (R62, R63) -/

/-- R62, R63: LEG_CLOSE taken. -/
def closeLeg (n : LegNo) (s : State) : State × Answer :=
  match s.legs[n] with
  | none => refuse .state s
  | some l => if l.state.isOpen then okay [] (s.clearLeg n .host (s.boundSlot l.owner)) else okay [] s

def legCloseRequest (body : List Byte) : State → State × Answer := withArgs (parseLeg body) closeLeg

/-- LEG_CLOSE (R62, R63). -/
def execLegClose (body : List Byte) (s : State) : Result := whenInService s (takeRequest 0x02 (legCloseRequest body))

/-! ### Staging (R163) -/

/-- R163: while the hold is OPEN the request is staged, once its arguments are in range and the extension it
names exists; otherwise it is taken at once. -/
def stageOr (change : HeldChange) (named : State → Bool) (immediate : State → State × Answer) (s : State) :
    State × Answer :=
  match s.hold with
  | .closed => immediate s
  | .opened entries mark =>
    if !named s then refuse .notFound s
    else if entries.length < Config.heldRoom then
      ({ s with hold := .opened (entries ++ [change]) mark }, .now .staged [byteOf (entries.length + 1)])
    else refuse .full s

/-! ### LEG_CONNECT, LEG_PARK, LEG_LEVEL (R58 to R61) -/

/-- R58: LEG_CONNECT taken or applied. -/
def connectLeg (n : LegNo) (s : State) : State × Answer :=
  match s.legs[n] with
  | none => refuse .state s
  | some l =>
    if !l.state.isOpen then refuse .state s
    else match l.endpoint with
      | .conference _ => refuse .state s
      | .line => if (s.localConf l.owner).isSome then refuse .busy s else okay [0xFF] s
      | .parked =>
        if (s.localConf l.owner).isSome then refuse .busy s
        else
          let other := s.lineLegOf l.owner
          let s' := (s.parkEndpoint other).setLeg n (some { l with endpoint := .line })
          okay [legByte other] { s' with line := s'.line.setSource (s.boundSlot l.owner) (.leg n) }

def legConnectRequest (body : List Byte) : State → State × Answer :=
  withArgs (parseLeg body) fun n => stageOr (.connect n) (fun _ => true) (connectLeg n)

/-- LEG_CONNECT (R58, R61). -/
def execLegConnect (body : List Byte) (s : State) : Result :=
  whenInService s (takeRequest 0x03 (legConnectRequest body))

/-- R59: LEG_PARK taken or applied. -/
def parkLeg (n : LegNo) (s : State) : State × Answer :=
  match s.legs[n] with
  | none => refuse .state s
  | some l =>
    if !l.state.isOpen then refuse .state s
    else match l.endpoint with
      | .conference _ => refuse .state s
      | .parked => okay [] s
      | .line =>
        okay [] { s with
          line := s.line.release (s.boundSlot l.owner) (.leg n)
          legs := s.legs.set n (some { l with endpoint := .parked }) }

def legParkRequest (body : List Byte) : State → State × Answer :=
  withArgs (parseLeg body) fun n => stageOr (.park n) (fun _ => true) (parkLeg n)

/-- LEG_PARK (R59, R61). -/
def execLegPark (body : List Byte) (s : State) : Result := whenInService s (takeRequest 0x04 (legParkRequest body))

/-- R60: LEG_LEVEL taken or applied, with its gain code already clamped. -/
def levelLeg (n : LegNo) (gain : Int) (s : State) : State × Answer :=
  match s.legs[n] with
  | none => refuse .state s
  | some l =>
    if l.state.isOpen then okay [byteOfInt gain] (s.setLeg n (some { l with gain := gain })) else refuse .state s

def legLevelRequest (body : List Byte) : State → State × Answer :=
  withArgs (parseLegLevel body) fun (n, g) => stageOr (.level n g) (fun _ => true) (levelLeg n g)

/-- LEG_LEVEL (R60, R61). -/
def execLegLevel (body : List Byte) (s : State) : Result := whenInService s (takeRequest 0x05 (legLevelRequest body))

/-! ### LEG_REKEY (R95, R96) -/

/-- R95, R96: a ROLL asked for; nothing more is queued where one is already queued or wanted. The flag tells
whether the ROLL is waiting. -/
def State.askRoll (s : State) (n : LegNo) (l : Leg) : State × Bool :=
  if s.cellQueue.contains { kind := .roll, leg := n } then (s.setLeg n (some l), false)
  else if l.wantsRoll then (s.setLeg n (some l), true)
  else if s.cellQueue.length < Config.cellQueueRoom then
    ({ s with cellQueue := s.cellQueue ++ [{ kind := .roll, leg := n }], legs := s.legs.set n (some l) }, false)
  else (s.setLeg n (some { l with wantsRoll := true }), true)

/-- R95 check 4, R96: the leg is in HOLDING(KEY) for this generation. -/
def Leg.awaits (l : Leg) (gen : Byte) : Bool := l.state == .holding (.key gen)

/-- R95, R96: LEG_REKEY taken. -/
def rekeyLeg (a : LegNo × KeySetting) (s : State) : State × Answer :=
  match s.legs[a.1] with
  | none => refuse .state s
  | some l =>
    if !l.state.isOpen then refuse .state s
    else if a.2.gen = l.txKey.gen then refuse .badArgument s
    else if l.awaits a.2.gen then
      let (s', waits) := s.askRoll a.1 { l with pendingKey := some a.2, switchEpoch := none }
      okay [bitByte waits] s'
    else if l.pendingKey.isSome then refuse .busy s
    else
      let (s', waits) := s.askRoll a.1 { l with pendingKey := some a.2 }
      okay [bitByte waits] s'

def legRekeyRequest (body : List Byte) : State → State × Answer := withArgs (parseLegRekey body) rekeyLeg

/-- LEG_REKEY (R95, R96). -/
def execLegRekey (body : List Byte) (s : State) : Result := whenInService s (takeRequest 0x06 (legRekeyRequest body))

/-! ### LEG_READ (R69, R70) -/

/-- R69, section 12.7: the reply body for a leg that is not FREE. -/
def Leg.report (l : Leg) : List Byte :=
  let reason : Option HoldReason := match l.state with | .holding r => some r | _ => none
  let cause : Option CloseCause := match l.state with | .clearing c => some c | _ => none
  let awaited : Option Byte := match l.state with | .holding (.key g) => some g | _ => none
  let conf : Option ConfNo := match l.endpoint with | .conference c => some c | _ => none
  [l.state.value,
   presenceByte [reason.isSome, cause.isSome, awaited.isSome, l.farTag.isSome, conf.isSome, l.pendingKey.isSome,
     l.switchEpoch.isSome, l.announced.isSome],
   (reason.map (·.value)).getD 0, (cause.map (·.value)).getD 0, awaited.getD 0, byteOf l.owner, byteOf l.slot,
   l.farTag.getD 0, l.receiveTag, l.endpoint.value, (conf.map fun c => byteOf c).getD 0,
   l.txKey.gen, l.txKey.mode.value, l.rxKey.gen, l.rxKey.mode.value,
   (l.pendingKey.map (·.gen)).getD 0, (l.pendingKey.map (·.mode.value)).getD 0]
  ++ bytes16 ((l.switchEpoch.map (·.toNat)).getD 0)
  ++ [(l.announced.map (·.gen)).getD 0] ++ bytes16 ((l.announced.map (·.epoch.toNat)).getD 0)
  ++ bytes16 l.tx.epoch.toNat ++ bytes16 l.tx.index ++ bytes16 l.rx.epoch.toNat ++ bytes16 l.rx.index
  ++ [byteOfInt l.gain] ++ bytes16 l.realigns ++ bytes16 l.mutedBlocks ++ bytes16 l.skippedSyncs
  ++ [byteOf (l.wantsRoll.toNat + 2 * l.wantsClear.toNat)]

/-- R70: a leg's three counters set to 0. -/
def Leg.clearCounters (l : Leg) : Leg := { l with realigns := 0, mutedBlocks := 0, skippedSyncs := 0 }

/-- R69, R70: LEG_READ taken. -/
def readLeg (a : LegNo × Bool) (s : State) : State × Answer :=
  match s.legs[a.1] with
  | none => okay [0] s
  | some l => okay l.report (if a.2 then s.setLeg a.1 (some l.clearCounters) else s)

def legReadRequest (body : List Byte) : State → State × Answer := withArgs (parseLegRead body) readLeg

/-- LEG_READ (R69, R70). -/
def execLegRead (body : List Byte) (s : State) : Result := whenInService s (takeRequest 0x07 (legReadRequest body))

end Sys2Proof.Machine
end

