-- ==== Sys2Proof/Machine/Conferences.lean ====
section
/-! DEFINITION. The conference requests, the minus-one mix and the clip governor (chapter 10). -/

namespace Sys2Proof.Machine

/-! ### CONF_OPEN, CONF_CLOSE, CONF_READ (R147, R148, R160) -/

/-- R147: the record of a conference just opened. -/
def Conf.fresh (chair : Option Handle) : Conf :=
  { chair := chair, members := [], governor := 128, attenuation := 0, overload := false, clippedBlocks := 0,
    mixSet := none, clipMark := false, judged := none }

/-- R147: CONF_OPEN taken, after its range checks. -/
def openConf (a : ConfNo × Option ExtRef) (s : State) : State × Answer :=
  if (s.confs[a.1]).isSome then refuse .busy s
  else match a.2 with
    | none => okay [] (s.setConf a.1 (some (Conf.fresh none)))
    | some ref =>
      match s.lookup ref with
      | none => refuse .notFound s
      | some h =>
        if !s.admittedWith h (fun _ => true) then refuse .notAdmitted s
        else if !s.admittedWith h (·.mayConference) then refuse .notPermitted s
        else okay [] (s.setConf a.1 (some (Conf.fresh (some h))))

def confOpenRequest (body : List Byte) : State → State × Answer := withArgs (parseConfOpen body) openConf

/-- CONF_OPEN (R147). -/
def execConfOpen (body : List Byte) (s : State) : Result := whenInService s (takeRequest 0x11 (confOpenRequest body))

/-- R148: CONF_CLOSE taken. -/
def hostCloseConf (c : ConfNo) (s : State) : State × Answer :=
  if (s.confs[c]).isSome then okay [] (s.closeConf c .host) else refuse .state s

def confCloseRequest (body : List Byte) : State → State × Answer := withArgs (parseConf body) hostCloseConf

/-- CONF_CLOSE (R148). -/
def execConfClose (body : List Byte) (s : State) : Result :=
  whenInService s (takeRequest 0x14 (confCloseRequest body))

/-- Section 12.7: a member in a CONF_READ reply. -/
def Member.bytes : Member → List Byte
  | .leg n => [0, byteOf n]
  | .loc h => [1, byteOf h]

/-- R160, section 12.7: the reply body for an OPEN conference, after the free places. -/
def Conf.report (k : Conf) : List Byte :=
  [1, bitByte k.chair.isSome, (k.chair.map fun h => byteOf h).getD 0, byteOf k.members.length]
  ++ k.members.flatMap Member.bytes
  ++ [byteOf k.governor, byteOf k.attenuation, bitByte k.overload] ++ bytes16 k.clippedBlocks

/-- R160: CONF_READ taken. -/
def readConf (a : ConfNo × Bool) (s : State) : State × Answer :=
  match s.confs[a.1] with
  | none => okay [byteOf s.freePlaces, 0] s
  | some k =>
    okay (byteOf s.freePlaces :: k.report) (if a.2 then s.setConf a.1 (some { k with clippedBlocks := 0 }) else s)

def confReadRequest (body : List Byte) : State → State × Answer := withArgs (parseConfRead body) readConf

/-- CONF_READ (R160). -/
def execConfRead (body : List Byte) (s : State) : Result := whenInService s (takeRequest 0x15 (confReadRequest body))

/-! ### CONF_JOIN and CONF_LEAVE (R149 to R152) -/

/-- R149 check 7: the conference holds 8 members, or the pool has no free place. -/
def State.noPlace (s : State) (k : Conf) : Bool := Config.memberRoom ≤ k.members.length || s.freePlaces == 0

/-- R149: the list with a member appended at the tail. -/
def Conf.append (m : Member) (k : Conf) : Conf := { k with members := k.members ++ [m] }

/-- R149, R150: a leg joins. -/
def joinLeg (c : ConfNo) (k : Conf) (n : LegNo) (s : State) : State × Answer :=
  match s.legs[n] with
  | none => refuse .state s
  | some l =>
    if !l.state.isOpen then refuse .state s
    else match l.endpoint with
      | .conference _ => refuse .existing s
      | ep =>
        if !(s.record l.owner).any (·.cls.mayConference) then refuse .notPermitted s
        else if s.noPlace k then refuse .full s
        else
          okay [byteOf (k.members.length + 1), 0xFF] { s with
            confs := s.confs.set c (some (k.append (.leg n)))
            legs := s.legs.set n (some { l with endpoint := .conference c })
            line := if ep = .line then s.line.release (s.boundSlot l.owner) (.leg n) else s.line }

/-- R149, R151: a local handset joins; its LINE leg is parked and the map entry passes directly. -/
def joinLocal (c : ConfNo) (k : Conf) (h : Handle) (s : State) : State × Answer :=
  if !s.admittedWith h (fun _ => true) then refuse .notAdmitted s
  else if (s.localConf h).isSome then refuse .existing s
  else if !s.admittedWith h (·.mayConference) then refuse .notPermitted s
  else if s.noPlace k then refuse .full s
  else
    let other := s.lineLegOf h
    let s' := (s.parkEndpoint other).setConf c (some (k.append (.loc h)))
    okay [byteOf (k.members.length + 1), legByte other]
      { s' with line := s'.line.setSource (s.boundSlot h) (.conference c) }

/-- R149: CONF_JOIN taken or applied, after its range checks. -/
def joinConf (c : ConfNo) (m : MemberRef) (s : State) : State × Answer :=
  match s.confs[c] with
  | none => refuse .state s
  | some k =>
    match m with
    | .leg n => joinLeg c k n s
    | .loc ref =>
      match s.lookup ref with
      | none => refuse .notFound s
      | some h => joinLocal c k h s

/-- R163: at staging, the extension a CONF_JOIN or CONF_LEAVE names must exist. -/
def memberExists : MemberRef → State → Bool
  | .leg _, _ => true
  | .loc ref, s => (s.lookup ref).isSome

def confJoinRequest (body : List Byte) : State → State × Answer :=
  withArgs (parseConfMember body) fun (c, m) => stageOr (.join c m) (memberExists m) (joinConf c m)

/-- CONF_JOIN (R149 to R151). -/
def execConfJoin (body : List Byte) (s : State) : Result := whenInService s (takeRequest 0x12 (confJoinRequest body))

/-- R152: the member taken out of the conference, once it is in the list. -/
def leaveMember (c : ConfNo) (k : Conf) (m : Member) (s : State) : State × Answer :=
  if k.members.contains m then
    let s' := s.setConf c (some (k.remove m))
    match m with
    | .leg n => okay [] (s'.updateLeg n fun l => { l with endpoint := .parked })
    | .loc h => okay [] { s' with line := s'.line.release (s.boundSlot h) (.conference c) }
  else refuse .notFound s

/-- R152: CONF_LEAVE taken or applied, after its range checks. -/
def leaveConf (c : ConfNo) (m : MemberRef) (s : State) : State × Answer :=
  match s.confs[c] with
  | none => refuse .state s
  | some k =>
    match m with
    | .leg n => leaveMember c k (.leg n) s
    | .loc ref =>
      match s.lookup ref with
      | none => refuse .notFound s
      | some h => leaveMember c k (.loc h) s

def confLeaveRequest (body : List Byte) : State → State × Answer :=
  withArgs (parseConfMember body) fun (c, m) => stageOr (.leave c m) (memberExists m) (leaveConf c m)

/-- CONF_LEAVE (R152). -/
def execConfLeave (body : List Byte) (s : State) : Result :=
  whenInService s (takeRequest 0x13 (confLeaveRequest body))

/-! ### The minus-one mix (R155) -/

/-- R155: the results of a frame for a list of inputs: each member's code and clip mark. -/
def minusOne (attenuation : Nat) (inputs : List (Member × Int)) : List (Member × Code × Bool) :=
  let total := (inputs.map (·.2)).sum
  inputs.map fun (m, x) => (m, levelled (total - x) (multiplier (-(attenuation : Int))))

/-- R156: a member's mix result, the silence code while it is a pending member (R150, R151). -/
def resultOf (results : List (Member × Code × Bool)) (m : Member) : Code :=
  match results.find? (fun r => r.1 == m) with
  | none => silence
  | some r => r.2.1

/-! ### The clip governor (R157, R158) -/

/-- R157: the count after a block. -/
def governorMove (clipped : Bool) (count : Nat) : Nat := if clipped then count + 8 else count - 1

/-- R158: what the governor says of a change. -/
inductive GovernorNotice where
  | quiet | overload | relieved
  deriving DecidableEq, Repr

/-- R157, R158: the record after the governor has judged a block. -/
def Conf.govern (clipped : Bool) (k : Conf) : Conf × GovernorNotice :=
  let count := governorMove clipped k.governor
  let k := { k with judged := none, clippedBlocks := if clipped then bump k.clippedBlocks else k.clippedBlocks }
  if 192 ≤ count then
    let att := if k.attenuation < 6 then k.attenuation + 1 else 6
    ({ k with governor := 128, attenuation := att, overload := k.overload || att = 6 },
      if att = 6 && !k.overload then .overload else .quiet)
  else if count = 0 then
    let att := k.attenuation - 1
    ({ k with governor := 128, attenuation := att, overload := k.overload && att ≠ 0 },
      if att = 0 && k.overload then .relieved else .quiet)
  else ({ k with governor := count }, .quiet)

/-- R157: the governor of an OPEN conference that had a mixing set in the block just ended. -/
def State.governConf (s : State) (c : ConfNo) : State :=
  match s.confs[c] with
  | none => s
  | some k =>
    match k.judged with
    | none => s
    | some clipped =>
      let (k', n) := k.govern clipped
      let s' := s.setConf c (some k')
      match n with
      | .quiet => s'
      | .overload => s'.notify .confOverload c 6
      | .relieved => s'.notify .confRelieved c 0

/-- GOVERNOR_UPDATE (R157, R158): where no block of the conference waits for judgment the event does not
occur. -/
def execGovernorUpdate (conf : ConfNo) (s : State) : Result := whenInService s fun s => s.governConf conf

end Sys2Proof.Machine
end

