-- ==== Sys2Proof/Machine/Holds.lean ====
section
/-! DEFINITION. Held changes (chapter 11). -/

namespace Sys2Proof.Machine

/-- R163: HOLD_BEGIN taken. -/
def beginHold (_ : Unit) (s : State) : State × Answer :=
  match s.hold with
  | .closed => okay [] { s with hold := .opened [] .absent }
  | .opened _ _ => refuse .state s

def holdBeginRequest (body : List Byte) : State → State × Answer := withArgs (parseEmpty body) beginHold

/-- HOLD_BEGIN (R163). -/
def execHoldBegin (body : List Byte) (s : State) : Result :=
  whenInService s (takeRequest 0x16 (holdBeginRequest body))

/-- R165: HOLD_COMMIT taken; its reply is made when the list is applied. -/
def commitHold (_ : Unit) (s : State) : State × Answer :=
  match s.hold with
  | .closed => refuse .state s
  | .opened entries .absent => ({ s with hold := .opened entries .pending }, .later)
  | .opened _ _ => refuse .busy s

def holdCommitRequest (body : List Byte) : State → State × Answer := withArgs (parseEmpty body) commitHold

/-- HOLD_COMMIT (R165). -/
def execHoldCommit (body : List Byte) (s : State) : Result :=
  whenInService s (takeRequest 0x17 (holdCommitRequest body))

/-- R164: HOLD_CANCEL taken. -/
def cancelHold (_ : Unit) (s : State) : State × Answer :=
  match s.hold with
  | .closed => refuse .state s
  | .opened entries .absent => okay [byteOf entries.length] { s with hold := .closed }
  | .opened _ _ => refuse .busy s

def holdCancelRequest (body : List Byte) : State → State × Answer := withArgs (parseEmpty body) cancelHold

/-- HOLD_CANCEL (R164). -/
def execHoldCancel (body : List Byte) (s : State) : Result :=
  whenInService s (takeRequest 0x18 (holdCancelRequest body))

/-! ### The application (R166) -/

/-- R166: an entry checked in full and applied, exactly as its own request taken at that moment. -/
def applyChange (e : HeldChange) (s : State) : State × Answer :=
  match e with
  | .level n g => levelLeg n g s
  | .connect n => connectLeg n s
  | .park n => parkLeg n s
  | .join c m => joinConf c m s
  | .leave c m => leaveConf c m s

/-- Section 12.7: an entry's request code. -/
def HeldChange.code : HeldChange → Byte
  | .connect _ => 0x03 | .park _ => 0x04 | .level _ _ => 0x05 | .join _ _ => 0x12 | .leave _ _ => 0x13

/-- Section 12.7: the result byte and the leg-parked byte of an applied entry, from its own reply's body. -/
def HeldChange.resultBytes (e : HeldChange) (body : List Byte) : List Byte :=
  match e with
  | .level _ _ => [byteAt body 0, 0xFF]
  | .connect _ => [0, byteAt body 0]
  | .join _ _ => [byteAt body 0, byteAt body 1]
  | .park _ | .leave _ _ => [0, 0xFF]

/-- R166, section 12.7: an entry's line of the commit reply. A dropped entry carries its status and no result
(DEDUCED, log entry 20). -/
def HeldChange.line (e : HeldChange) (position : Nat) (a : Answer) : List Byte :=
  let head (st : Status) : List Byte := [byteOf position, e.code, st.value]
  match a with
  | .now .ok body => head .ok ++ e.resultBytes body
  | .now st _ => head st ++ [0, 0xFF]
  | .later => head .ok ++ [0, 0xFF]

/-- R166: the entries applied in list order from a position on, with their lines of the reply. -/
def applyEntries : Nat → List HeldChange → State → State × List Byte
  | _, [], s => (s, [])
  | i, e :: rest, s =>
    let (s', a) := applyChange e s
    let (s'', lines) := applyEntries (i + 1) rest s'
    (s'', e.line i a ++ lines)

/-- R166: the pending commit applied at the line block start; the hold closes and the commit's reply is made. -/
def State.applyCommit (s : State) : State :=
  match s.hold with
  | .opened entries .due =>
    let (s', lines) := applyEntries 1 entries s
    { s' with
      hold := .closed
      link := s'.link.resolve
        { code := replyCode 0x17, status := .ok, body := byteOf entries.length :: lines } }
  | _ => s

/-- HOLD_COMMIT_APPLY (R166): where no commit is due at this line block start the event does not occur. -/
def execHoldCommitApply (s : State) : Result := whenInService s State.applyCommit

end Sys2Proof.Machine
end

