-- ==== Sys2Proof/Machine/Trunk.lean ====
section
/-! DEFINITION. The trunk side: slips and the elastic store (chapter 1), the Control Slot Framer and the action
on received cells (chapter 5), the receive blocks of the legs (chapters 3 and 6), and TRUNK_CELL_DEPARTURE. -/

namespace Sys2Proof.Machine

/-! ### Slips (R13, R85, R86) -/

/-- R13: a slip's direction as a number. -/
def SlipDirection.value : SlipDirection → Int
  | .plus => 1 | .minus => -1

/-- R13: the net slip count, held at +32767 and -32767. -/
def clampSlips (n : Int) : Int := if 32767 < n then 32767 else if n < -32767 then -32767 else n

/-- R13: whether a slip is a change of direction. -/
def TrunkPort.reverses (t : TrunkPort) (d : SlipDirection) : Bool := t.lastDirection.any (· != d)

/-- R13: the slip record after a slip. -/
def TrunkPort.recordSlip (d : SlipDirection) (t : TrunkPort) : TrunkPort :=
  let changes := if t.reverses d then (if t.changes < 2 then t.changes + 1 else 2) else t.changes
  { t with netSlips := clampSlips (t.netSlips + d.value), lastDirection := some d, changes := changes,
           changeFlag := t.changeFlag || changes = 2 }

/-- R81, R82, R84: the framer back in HUNT with no phase and no slip mark. -/
def Framer.toHunt (f : Framer) : Framer :=
  { f with mode := .hunt, blockFrames := 0, blockLength := 8, blockEnded := false, slipMark := 0 }

/-- R85, R86: what a slip does to the framer. -/
def Framer.slip (d : SlipDirection) (f : Framer) : Framer :=
  match f.mode with
  | .hunt => f
  | .presync _ => f.toHunt
  | .sync p =>
    if f.slipMark = 0 then
      match d with
      | .plus => { f with mode := .sync (p + 7), slipMark := 1, blockLength := 7, blockEnded := 7 ≤ f.blockFrames }
      | .minus => { f with mode := .sync (p + 1), slipMark := 1, blockLength := 9 }
    else { f with slipMark := 2 }

/-- R82: the receive assemblies of all legs emptied. -/
def emptyAssemblies (legs : Vector (Option Leg) 32) : Vector (Option Leg) 32 :=
  Vector.ofFn fun n => (legs[n]).map fun l => { l with rxAssembly := [] }

/-- R10, R11, R13: a slip recorded, noticed, and handed to the framer and the legs' assemblies. -/
def State.handleSlip (s : State) (d : SlipDirection) : State :=
  let t := s.trunk.recordSlip d
  let s' := State.notify { s with trunk := t } .slip 0 (match d with | .plus => 1 | .minus => 0xFFFF)
  let s'' := if t.changeFlag && !s.trunk.changeFlag then s'.notify .wander 0 (halfOfInt t.netSlips) else s'
  { s'' with
    framer := s''.framer.slip d
    legs := (match s''.framer.mode with | .presync _ => emptyAssemblies s''.legs | _ => s''.legs) }

/-! ### Receive blocks (R41 to R45) -/

/-- R42: eight codes enter the receive output buffer; beyond 16 the oldest are discarded. -/
def pushOutput (buffer : List Code) (b : Block) : List Code :=
  let all := buffer ++ b.toList
  all.drop (all.length - Config.outputRoom)

/-- R41: a completed block put into the buffer; the assembly starts afresh. -/
def Leg.output (b : Block) (l : Leg) : Leg := { l with rxOutput := pushOutput l.rxOutput b, rxAssembly := [] }

/-- R49: the receive key becomes the pending key, which R102 may then remove. -/
def Leg.adopt (p : KeySetting) (l : Leg) : Leg := Leg.settlePending { l with rxKey := p.forReceive }

/-- The pending key if it has a generation. -/
def Leg.pendingWith (l : Leg) (g : Byte) : Option KeySetting := l.pendingKey.bind fun p => if p.gen = g then some p else none

/-- A leg and the notices (kind and detail) its part of a completion queues. -/
structure LegChange where
  leg : Leg
  notices : List (NoticeKind × Half)
  deriving DecidableEq, Repr

/-- KEY_ROLLED's detail for a receive switch (R97). -/
def receiveRolled (g : Byte) : Half := 256 + g.setWidth 16

/-- R41: RUNNING and HOLDING(KEY), the states in which a receive epoch start counts. -/
def LegState.counts : LegState → Bool
  | .running | .holding (.key _) => true
  | _ => false

/-- R99: the announced roll acted on at a receive epoch start, before the block is taken. Where the pending key and
the receive key both have the roll's generation, the first two rows of the table both hold; the model takes the first
(DESIGN CHOICE, log entry 8). -/
def Leg.receiveEpochStart (l : Leg) : LegChange :=
  match l.announced with
  | none => { leg := l, notices := [] }
  | some roll =>
    if l.state.counts && l.rx.index = 0 && roll.epoch = l.rx.epoch then
      let l := { l with announced := none }
      let g := roll.gen
      match l.pendingWith g with
      | some p => { leg := { l.adopt p with state := .running }, notices := [(.keyRolled, receiveRolled g)] }
      | none =>
        if g = l.rxKey.gen then
          match l.state with
          | .holding _ => { leg := { l with state := .running }, notices := [(.legSynced, l.rxKey.gen.setWidth 16)] }
          | _ => { leg := l, notices := [] }
        else
          { leg := { l with state := .holding (.key g) },
            notices := if l.awaits g then [] else [(.keyMissing, g.setWidth 16)] }
    else { leg := l, notices := [] }

/-- R101: the pending key a leg still in HOLDING(KEY) is waiting for. -/
def Leg.awaitedKey (l : Leg) : Option KeySetting :=
  match l.state with
  | .holding (.key g) => l.pendingWith g
  | _ => none

/-- R41, R43: the counters of a block taken by a leg whose counters run: advanced, unless a load was made. -/
def Leg.advanceRx (epochLength : Nat) (loaded : Bool) (l : Leg) : Leg :=
  if loaded then l else { l with rx := l.rx.take l.rxKey.key epochLength }

/-- R41: a leg takes its completed block in the row of the state it is in. `muted`: the block straddles a slip,
or a load or a catch-up adoption is made at this completion. -/
def Leg.takeRow (epochLength : Nat) (loaded muted : Bool) (l : Leg) : Leg :=
  match l.state with
  | .running =>
    if muted then
      Leg.output silentBlock { l.advanceRx epochLength loaded with mutedBlocks := bump l.mutedBlocks }
    else
      let v := l.rx.nextValue l.rxKey.key
      let codes := descrambleBlock l.rxKey.mode v (blockOf l.rxAssembly)
      Leg.output (Vector.ofFn fun i => applyGain l.gain codes[i]) (l.advanceRx epochLength loaded)
  | .holding (.key _) => Leg.output silentBlock (l.advanceRx epochLength loaded)
  | .waiting | .holding .hunt | .holding .farCleared => Leg.output silentBlock l
  | .clearing _ => l

/-- R44, R101: the awaited key adopted by catch-up from the counters as they stand; the block is muted. -/
def Leg.adoptByCatchUp (epochLength : Nat) (loaded : Bool) (p : KeySetting) (l : Leg) : Leg :=
  let counters := if loaded then l.rx else Counters.advance epochLength l.rx
  let l' := { l.adopt p with state := .running, rx := counters.catchUp p.descramble, mutedBlocks := bump l.mutedBlocks }
  l'.output silentBlock

/-- R41, R99, R101: a leg takes its completed block after the cell of the completion has been acted on: the
receive epoch start, then the awaited key, then the row of its state. The block of a load that left the leg out of
RUNNING is silence and counts no muted block, also where the epoch start returns the leg to RUNNING (R100 case 3, R68;
log entry 23). A straddled block at an epoch start that returns the leg from HOLDING(KEY) to RUNNING is taken in the row
"RUNNING, block muted", as R99 and R41 have it, and counted, where R68 wants the leg RUNNING after the cell (DESIGN
CHOICE, log entry 36). -/
def Leg.takeBlock (epochLength : Nat) (loaded straddles : Bool) (l : Leg) : LegChange :=
  let epochStart := l.state.counts && l.rx.index = 0
  let take (k : Leg) : Leg :=
    if loaded && l.state ≠ .running then k.output silentBlock else k.takeRow epochLength loaded (straddles || loaded)
  let c := l.receiveEpochStart
  match c.leg.awaitedKey with
  | some p =>
    let rolled := (NoticeKind.keyRolled, receiveRolled p.gen)
    if epochStart then { leg := take { c.leg.adopt p with state := .running }, notices := c.notices ++ [rolled] }
    else { leg := c.leg.adoptByCatchUp epochLength loaded p, notices := c.notices ++ [rolled] }
  | none => { leg := take c.leg, notices := c.notices }

/-- The notices of a leg queued in order. -/
def State.notifyAll (s : State) (subject : Nat) (ns : List (NoticeKind × Half)) : State :=
  ns.foldl (fun s n => s.notify n.1 subject n.2) s

/-- R41: every open leg takes its completed block, in leg-number order (log entry 6). `loadedLeg` is the leg
whose counters the completion's cell loaded. -/
def State.takeLegBlock (loadedLeg : Option LegNo) (straddles : Bool) (s : State) (n : LegNo) : State :=
  match s.legs[n] with
  | none => s
  | some l =>
    if l.state.isOpen then
      let c := l.takeBlock s.params.epochLength (loadedLeg == some n) straddles
      (s.setLeg n (some c.leg)).notifyAll n c.notices
    else s

/-- R41: the legs take their blocks. -/
def State.takeBlocks (loadedLeg : Option LegNo) (straddles : Bool) (s : State) : State :=
  (List.finRange 32).foldl (State.takeLegBlock loadedLeg straddles) s

/-! ### Acting on cells (R87 to R91, R100, R101) -/

/-- R87: the leg a tag selects. -/
def State.legByTag (s : State) (tag : Byte) : Option LegNo :=
  firstPlace fun n => (s.legs[n]).any fun l => l.state.isOpen && l.receiveTag == tag

/-- R43: a leg's receive counters loaded under its receive key in force. -/
def Leg.loadCounters (epochLength : Nat) (epoch : Half) (index : Nat) (l : Leg) : Leg :=
  { l with rx := l.rx.load l.rxKey.key epochLength epoch index }

/-- R98: an announced roll of the generation of a SYNC acted on removed. -/
def Leg.dropAnnounced (g : Byte) (l : Leg) : Leg :=
  if l.announced.any (·.gen == g) then { l with announced := none } else l

/-- R98 against R101: an announced roll of the receive generation, at the SYNC of that generation that returns a leg
from HOLDING(KEY) (log entry 7). -/
def Leg.dropOwnAnnounced (g : Byte) (l : Leg) : Leg :=
  if l.announced.any (·.gen == g) && Config.ownSyncEndsRoll then { l with announced := none } else l

/-- R88, R89, R100, R101: a SYNC acted on for an open leg; the flag tells that the counters were loaded. Of the
receive generation, it changes nothing where a RUNNING leg's counters agree with it (R89: an announced roll stays), and
removes an announced roll of its generation where it loads the counters (R98), but for R101's case (log entry 7). -/
def Leg.actOnSync (epochLength : Nat) (epoch : Half) (index : Nat) (g : Byte) (l : Leg) : LegChange × Bool :=
  let synced (l : Leg) : LegChange × Bool :=
    ({ leg := { l.loadCounters epochLength epoch index with state := .running },
       notices := [(.legSynced, l.rxKey.gen.setWidth 16)] }, true)
  if g = l.rxKey.gen then
    match l.state with
    | .running =>
      if l.rx.epoch = epoch && l.rx.index = index then ({ leg := l, notices := [] }, false)
      else
        ({ leg := { (l.dropAnnounced g).loadCounters epochLength epoch index with realigns := bump l.realigns },
           notices := [(.legRealigned, BitVec.ofNat 16 index)] }, true)
    | .waiting | .holding .hunt | .holding .farCleared => synced (l.dropAnnounced g)
    | .holding (.key _) => synced (l.dropOwnAnnounced g)
    | .clearing _ => ({ leg := l, notices := [] }, false)
  else
    let l := l.dropAnnounced g
    match l.pendingWith g with
    | some p =>
      ({ leg := { (Leg.loadCounters epochLength epoch index (l.adopt p)) with state := .running },
         notices := [(.keyRolled, receiveRolled g)] }, true)
    | none =>
      ({ leg := { l.loadCounters epochLength epoch index with state := .holding (.key g) },
         notices := if l.awaits g then [] else [(.keyMissing, g.setWidth 16)] }, true)

/-- R91: a CLEAR acted on for an open leg. For a leg already in HOLDING(FAR_CLEARED) it changes nothing (R91), so a
roll announced to the leg since then stays, where R98 would remove it at a CLEAR acted on (DESIGN CHOICE, log
entry 35). -/
def Leg.actOnClear (l : Leg) : LegChange :=
  match l.state with
  | .holding .farCleared => { leg := l, notices := [] }
  | st =>
    { leg := { l with state := .holding .farCleared, announced := none },
      notices := [(.farCleared, if st = .running then 1 else 0)] }

/-- R87: the leg a cell's tag selects acted on, or the unknown-tag counter. The second component is the leg
whose counters were loaded. -/
def State.onTaggedLeg (s : State) (tag : Byte) (act : Leg → LegChange × Bool) : State × Option LegNo :=
  match s.legByTag tag with
  | none => ({ s with framer := { s.framer with unknownTags := bump s.framer.unknownTags } }, none)
  | some n =>
    match s.legs[n] with
    | none => (s, none)
    | some l =>
      let (c, loaded) := act l
      ((s.setLeg n (some c.leg)).notifyAll n c.notices, if loaded then some n else none)

/-- R87: a valid cell acted on. -/
def State.actOnCell (s : State) : TrunkCell → State × Option LegNo
  | .idle => (s, none)
  | .sync tag epoch index gen =>
    s.onTaggedLeg tag fun l =>
      if gen = 0 || s.params.epochLength ≤ index.toNat then ({ leg := l, notices := [] }, false)
      else l.actOnSync s.params.epochLength epoch index.toNat gen
  | .roll tag gen epoch =>
    s.onTaggedLeg tag fun l =>
      if gen = 0 then ({ leg := l, notices := [] }, false)
      else ({ leg := { l with announced := some { gen := gen, epoch := epoch } }, notices := [] }, false)
  | .clear tag => s.onTaggedLeg tag fun l => (l.actOnClear, false)

/-! ### Completions (R82 to R86) -/

/-- R80: the next receive block begins. -/
def Framer.nextBlock (f : Framer) : Framer :=
  { f with blockFrames := 0, blockLength := 8, blockEnded := false, slipMark := 0 }

/-- R84 step 3: a leg in RUNNING or HOLDING(KEY) enters HOLDING(HUNT). -/
def Leg.hunt (l : Leg) : Leg := if l.state.counts then { l with state := .holding .hunt } else l

/-- R84 step 3 for every leg. -/
def huntLegs (legs : Vector (Option Leg) 32) : Vector (Option Leg) 32 := Vector.ofFn fun n => (legs[n]).map Leg.hunt

/-- R84: the framer enters HUNT from SYNC at phase p, before the legs take their blocks. -/
def State.enterHunt (s : State) (p : Position) : State :=
  let s' := { s with framer := { s.framer.toHunt with badRun := 0 }, legs := huntLegs s.legs }
  s'.notify .trunkHunt 0 (BitVec.ofNat 16 p)

/-- R83, R86: a bad cell counted; at the fourth in a row the framer enters HUNT. -/
def State.badCell (s : State) (p : Position) : State :=
  let s' := { s with framer := { s.framer with badRun := s.framer.badRun + 1, badCells := bump s.framer.badCells } }
  if 4 ≤ s'.framer.badRun then s'.enterHunt p else s'

/-- R83: a valid cell clears the run and is acted on; then the legs take their blocks. -/
def State.completeValid (s : State) (cell : TrunkCell) : State :=
  let (s', loaded) := State.actOnCell { s with framer := { s.framer with badRun := 0 } } cell
  s'.takeBlocks loaded false

/-- R82: the end of the block in PRESYNC at phase p. -/
def State.completePresync (s : State) (p : Position) : State :=
  match parseTrunkCell s.framer.window with
  | some cell =>
    let s' := State.notify { s with framer := { s.framer.nextBlock with mode := .sync p } } .trunkLocked 0 (BitVec.ofNat 16 p)
    s'.completeValid cell
  | none => { s with framer := s.framer.toHunt, legs := emptyAssemblies s.legs }

/-- R83, R85, R86: the end of a block in SYNC at phase p. -/
def State.completeSync (s : State) (p : Position) : State :=
  let mark := s.framer.slipMark
  let s' := { s with framer := s.framer.nextBlock }
  if mark = 0 then
    match parseTrunkCell s.framer.window with
    | some cell => s'.completeValid cell
    | none => (s'.badCell p).takeBlocks none false
  else if mark = 1 then s'.takeBlocks none true
  else (s'.badCell p).takeBlocks none true

/-- R82, R83: the completion of a receive block that has all its frames. -/
def State.completeBlock (s : State) : State :=
  if s.framer.blockEnded then
    match s.framer.mode with
    | .hunt => { s with framer := s.framer.nextBlock }
    | .presync p => s.completePresync p
    | .sync p => s.completeSync p
  else s

/-- TRUNK_RECEIVE_BLOCK_COMPLETION (R83): where no block has all its frames the event does not occur. -/
def execTrunkReceiveBlockCompletion (s : State) : Result := whenInService s State.completeBlock

/-! ### Trunk frame arrival (R10) -/

/-- R10: a frame appended to the elastic store. A completion already reached is taken first. -/
def State.trunkArrival (frame : Frame) (s : State) : State :=
  match s.params.timing with
  | .locked => s
  | .independent =>
    let s := s.completeBlock
    if s.trunk.store.length < Config.storeRoom then
      { s with trunk := { s.trunk with store := s.trunk.store ++ [frame], primed := true } }
    else
      State.handleSlip { s with trunk := { s.trunk with store := s.trunk.store.drop 1 ++ [frame], primed := true } } .plus

/-- TRUNK_FRAME_ARRIVAL (R10). In LOCKED mode the trunk receive clock and sync are ignored (R9). -/
def execTrunkFrameArrival (frame : Frame) (s : State) : Result := whenInService s (State.trunkArrival frame)

/-! ### Trunk cell departure (R75, R77 to R79, R64) -/

/-- R78: the epoch, block index and generation of the block a leg emits in the trunk transmit block that
starts. Where its scrambling is still to be taken, those it will use. -/
def Leg.emitted (l : Leg) : Half × Nat × Byte :=
  match l.gathered, l.emission with
  | none, some e => (e.epoch, e.index, e.gen)
  | _, _ => (l.tx.epoch, l.tx.index, match l.switchDue with | some p => p.gen | none => l.txKey.gen)

/-- R78, R64: the head of the queue made into a cell, with the departure's effect on its leg. -/
def State.sendRequest (s : State) (r : CellRequest) : State × Cell :=
  match s.legs[r.leg] with
  | none => (s, idleTrunkCell)
  | some l =>
    let tag := byteOf l.slot
    let (epoch, index, gen) := l.emitted
    match r.kind, l.state with
    | .sync, _ => (s, (TrunkCell.sync tag epoch (BitVec.ofNat 12 index) gen).build)
    | .roll, _ =>
      match l.pendingKey with
      | none => (s, idleTrunkCell)
      | some p =>
        (s.setLeg r.leg (some { l with switchEpoch := some (epoch + 2) }), (TrunkCell.roll tag p.gen (epoch + 2)).build)
    | .clear, .clearing cause =>
      ((s.setLeg r.leg none).notify .legClosed r.leg (cause.value.setWidth 16), (TrunkCell.clear tag).build)
    | .clear, _ => (s, idleTrunkCell)

/-- R79: one leg's wants flag served while the queue has room. -/
def State.serveWants (s : State) (n : LegNo) : State :=
  match s.legs[n] with
  | none => s
  | some l =>
    if s.cellQueue.length < Config.cellQueueRoom then
      if l.wantsClear then
        { s with cellQueue := s.cellQueue ++ [{ kind := .clear, leg := n }],
                 legs := s.legs.set n (some { l with wantsClear := false }) }
      else if l.wantsRoll then
        { s with cellQueue := s.cellQueue ++ [{ kind := .roll, leg := n }],
                 legs := s.legs.set n (some { l with wantsRoll := false }) }
      else s
    else s

/-- R77: the cell of a trunk transmit block start. -/
def State.departCell (s : State) : State :=
  match s.cellQueue with
  | [] => { s with trunk := { s.trunk with cellOut := idleTrunkCell } }
  | r :: rest =>
    let (s', cell) := State.sendRequest { s with cellQueue := rest } r
    { s' with trunk := { s'.trunk with cellOut := cell } }

/-- R77: one departure at a trunk transmit block start, then the wants flags in leg-number order (R79). -/
def State.trunkDeparture (s : State) : State :=
  if s.trunk.cellDue then
    let s' := { s with trunk := { s.trunk with cellDue := false } }
    (List.finRange 32).foldl State.serveWants s'.departCell
  else s

/-- TRUNK_CELL_DEPARTURE (R77): one departure at each trunk transmit block start. -/
def execTrunkCellDeparture (s : State) : Result := whenInService s State.trunkDeparture

/-! ### TRUNK_READ (R93, R14) -/

/-- R93, section 12.7: the reply body. -/
def State.trunkReport (s : State) : List Byte :=
  s.framer.mode.bytes
  ++ [byteOf s.framer.badRun, s.params.timing.value, byteOf s.cellQueue.length]
  ++ bytes16 (halfOfInt s.trunk.netSlips).toNat
  ++ [directionByte s.trunk.lastDirection, bitByte s.trunk.changeFlag]
  ++ bytes16 s.framer.badCells ++ bytes16 s.framer.unknownTags ++ bytes16 s.framer.skippedSyncs

/-- R93, R14: TRUNK_READ taken. -/
def readTrunk (clear : Bool) (s : State) : State × Answer :=
  okay s.trunkReport { s with
    trunk := { s.trunk with changeFlag := false, changes := 0,
                            netSlips := if clear then 0 else s.trunk.netSlips }
    framer := if clear then { s.framer with badCells := 0, unknownTags := 0, skippedSyncs := 0 } else s.framer }

def trunkReadRequest (body : List Byte) : State → State × Answer := withArgs (parseOpt body) readTrunk

/-- TRUNK_READ (R93). -/
def execTrunkRead (body : List Byte) (s : State) : Result := whenInService s (takeRequest 0x08 (trunkReadRequest body))

end Sys2Proof.Machine
end

