-- ==== Sys2Proof/Machine/LineHighway.lean ====
section
/-! DEFINITION. The line side's rhythm: LINE_BLOCK_START and LINE_FRAME (chapter 1, with the frame's work of
chapters 3, 5 and 10). -/

namespace Sys2Proof.Machine

/-! ### The line block start (R2) -/

/-- R38, R39: a leg at a line block start. The block of the line block just ended, if it is complete, waits to be
scrambled; gathering goes on, or begins for a leg just opened. -/
def Leg.blockStart (l : Leg) : Leg :=
  if l.state.isOpen then
    { l with
      gathered := if l.gathering && l.txAssembly.length = 8 then some (blockOf l.txAssembly) else none
      gathering := true, txAssembly := [], emission := none }
  else l

/-- R154, R157: a conference at a line block start. The block it had a mixing set in waits for the governor. -/
def Conf.blockStart (k : Conf) : Conf :=
  { k with judged := if k.mixSet.isSome then some k.clipMark else none, mixSet := none, clipMark := false }

/-- R165: a commit taken before the line block start is applied at it. -/
def Hold.blockStart : Hold → Hold
  | .opened entries .pending => .opened entries .due
  | h => h

/-- R2: the line block counter at a line block start. -/
def LinePort.blockStart (p : LinePort) : LinePort :=
  { p with blockCount := if p.startSeen then p.blockCount + 1 else p.blockCount, startSeen := true, startTaken := true,
           cellDue := true }

/-- R105: every timer counts at a line block start. -/
def ExtTable.countDown (t : ExtTable) : ExtTable :=
  { t with records := Vector.ofFn fun h => (t.records[h]).map fun r => { r with state := r.state.countDown } }

/-- R2: the line block start. It is due once, when the next line frame has position 0. A completion already
reached belongs to the block that ends and is taken first. -/
def State.blockStart (s : State) : State :=
  if s.line.framePos = 0 && !s.line.startTaken then
    let s := s.completeBlock
    { s with
      line := s.line.blockStart
      trunk := { s.trunk with cellDue := true }
      ext := s.ext.countDown
      legs := Vector.ofFn fun n => (s.legs[n]).map Leg.blockStart
      confs := Vector.ofFn fun c => (s.confs[c]).map Conf.blockStart
      hold := s.hold.blockStart }
  else s

/-- LINE_BLOCK_START (R2): where no line block start is due the event does not occur. -/
def execLineBlockStart (s : State) : Result := whenInService s State.blockStart

/-! ### Work still to be taken before a line frame -/

/-- The work of a line block start still to be taken, in the order of the opcode table, but with the admission
departure before an arrival taken after the start (R120; log entry 4). Each part of it that has been taken already is
left alone. -/
def State.blockStartWork (s : State) : State :=
  let s := (List.finRange 32).foldl State.scrambleLeg s
  let s := s.trunkDeparture
  let s := s.admissionDeparture
  let s := s.admissionArrival
  let s := (List.finRange 256).foldl State.answerExpiry s
  let s := (List.finRange 256).foldl State.barExpiry s
  let s := (List.finRange 256).foldl State.refreshExpiry s
  let s := (List.finRange 8).foldl State.governConf s
  s.applyCommit

/-- Before a line frame: the completion already reached (R42), and at position 0 the line block start and its
work (R2: it is taken before the slots of that frame). -/
def State.settle (s : State) : State :=
  let s := s.completeBlock
  if s.line.framePos = 0 then s.blockStart.blockStartWork else s

/-! ### The delivered frame (R9, R11) -/

/-- R9, R11: the frame delivered at this line frame, with the slip of a read from an empty primed store. -/
def State.deliver (trunkIn : Frame) (s : State) : State :=
  match s.params.timing with
  | .locked => { s with trunk := { s.trunk with lastDelivered := trunkIn } }
  | .independent =>
    match s.trunk.store with
    | f :: rest => { s with trunk := { s.trunk with store := rest, lastDelivered := f } }
    | [] => if s.trunk.primed then s.handleSlip .minus else s

/-- R80: a byte joins the window; beyond 8 the oldest is removed. -/
def windowPush (w : List Byte) (b : Byte) : List Byte :=
  let all := w ++ [b]
  all.drop (all.length - 8)

/-- R80, R81: the framer at a delivered frame at a line frame position. -/
def Framer.deliver (pos : Position) (b : Byte) (f : Framer) : Framer :=
  let w := windowPush f.window b
  match f.mode with
  | .hunt =>
    if (parseTrunkCell w).isSome then
      { f with window := w, mode := .presync (pos + 1), blockFrames := 0, blockLength := 8, blockEnded := false,
               slipMark := 0 }
    else { f with window := w }
  | .presync _ | .sync _ =>
    { f with window := w, blockFrames := f.blockFrames + 1, blockEnded := f.blockLength ≤ f.blockFrames + 1 }

/-- R40: an open leg gathers the code of its trunk slot from a delivered frame. -/
def Leg.gatherReceive (frame : Frame) (l : Leg) : Leg :=
  if l.state.isOpen then { l with rxAssembly := l.rxAssembly ++ [frame[l.slot]] } else l

/-- R40, R80, R81: the delivered frame handed inward. -/
def State.handInward (pos : Position) (s : State) : State :=
  let frame := s.trunk.lastDelivered
  let gathers := s.framer.mode ≠ .hunt
  { s with
    framer := s.framer.deliver pos frame[0]
    legs := if gathers then Vector.ofFn fun n => (s.legs[n]).map (Leg.gatherReceive frame) else s.legs }

/-! ### The voice of a frame (R5, R6, R8, R38, R42, R154, R155) -/

/-- R42: a leg's receive output for the frame. -/
def Leg.nextOutput (l : Leg) : Code := l.rxOutput.headD silence

/-- R53: the receive output of a leg by number. -/
def State.outputOf (s : State) (n : LegNo) : Code :=
  match s.legs[n] with
  | none => silence
  | some l => l.nextOutput

/-- R155: a member's input to the mix. -/
def State.inputOf (s : State) (lineIn : Frame) : Member → Int
  | .leg n => expand (s.outputOf n)
  | .loc h =>
    match s.boundSlot h with
    | none => 0
    | some k => expand lineIn[k]

/-- R154, R155: the results a conference forms in this frame for its mixing set. -/
def State.mixOf (s : State) (lineIn : Frame) (k : Conf) : List (Member × Code × Bool) :=
  match k.mixSet with
  | none => []
  | some ms => minusOne k.attenuation (ms.map fun m => (m, s.inputOf lineIn m))

/-- R154: at the first line frame of a block each OPEN conference fixes its mixing set. -/
def State.fixMixingSets (s : State) : State :=
  if s.line.framePos = 0 then
    { s with confs := Vector.ofFn fun c => (s.confs[c]).map fun k => { k with mixSet := some k.members } }
  else s

/-- The results of every conference in a frame, by conference number. -/
abbrev FrameMix := Vector (List (Member × Code × Bool)) 8

/-- R155: one conference's results in this frame, none when it is FREE. -/
def State.resultsOf (s : State) (lineIn : Frame) (c : ConfNo) : List (Member × Code × Bool) :=
  match s.confs[c] with
  | none => []
  | some k => s.mixOf lineIn k

/-- R155: every conference's results in this frame. -/
def State.frameMix (s : State) (lineIn : Frame) : FrameMix := Vector.ofFn fun c => s.resultsOf lineIn c

/-- R38: the code a leg's transmit assembly takes in this frame. -/
def State.transmitSource (s : State) (lineIn : Frame) (mix : FrameMix) (n : LegNo) (l : Leg) : Code :=
  match l.endpoint with
  | .parked => silence
  | .line =>
    match s.boundSlot l.owner with
    | none => silence
    | some k => lineIn[k]
  | .conference c => resultOf mix[c] (.leg n)

/-- R38, R42: a leg after a line frame: one code gathered, one code of receive output removed. -/
def Leg.frame (source : Code) (l : Leg) : Leg :=
  { l with
    txAssembly := if l.state.isOpen && l.gathering then l.txAssembly ++ [source] else l.txAssembly
    rxOutput := l.rxOutput.drop 1 }

/-- R6: the local member of a conference that is bound to a slot. -/
def State.localAt (s : State) (c : ConfNo) (k : Slot) : Option Handle :=
  match s.boundTo k with
  | none => none
  | some h => if (s.membersOf c).contains (.loc h) then some h else none

/-- R6: the code driven into a line voice slot, none where it is left undriven. -/
def State.lineDrive (s : State) (mix : FrameMix) (k : Slot) : Option Code :=
  match s.line.outMap[k] with
  | .vacant => none
  | .leg n => some (s.outputOf n)
  | .conference c =>
    match s.localAt c k with
    | none => some silence
    | some h => some (resultOf mix[c] (.loc h))

/-- R8: the code an open leg gives its trunk slot at a frame position. -/
def Leg.trunkCode (pos : Position) (l : Leg) : Code :=
  match l.emission with
  | none => silence
  | some e => e.codes[pos]

/-- R8: the open leg whose trunk slot this is. -/
def State.transmittingOn (s : State) (k : Slot) : Option LegNo :=
  firstPlace fun n => (s.legs[n]).any fun l => l.state.isOpen && l.slot == k

/-- R8: the code driven into a trunk voice slot, none where it is left undriven. -/
def State.trunkDrive (s : State) (pos : Position) (k : Slot) : Option Code :=
  match s.transmittingOn k with
  | none => none
  | some n => (s.legs[n]).map (Leg.trunkCode pos)

/-- R4: the slot 0 byte taken at a frame position; with the byte of position 7 the cell is handed over. -/
def LinePort.takeSlot0 (b : Byte) (p : LinePort) : LinePort :=
  let bytes := p.cellIn ++ [b]
  if p.framePos = 7 then
    { p with cellIn := [], arrival := some (Vector.ofFn fun i => bytes.getD i.val 0) }
  else { p with cellIn := bytes }

/-- R2: the next frame has the next position; after position 7 a line block start is due. -/
def LinePort.nextFrame (p : LinePort) : LinePort :=
  { p with framePos := p.framePos + 1, startTaken := if p.framePos = 7 then false else p.startTaken }

/-- R1 to R11, R38, R42, R154 to R156: the slots of a line frame taken and given. -/
def State.frameSlots (lineIn : Frame) (s : State) : State :=
  let s := s.fixMixingSets
  let pos := s.line.framePos
  let mix := s.frameMix lineIn
  { s with
    line := (LinePort.takeSlot0 lineIn[0]
      { s.line with out := Vector.ofFn fun k => if k = 0 then some s.line.cellOut[pos] else s.lineDrive mix k }).nextFrame
    trunk := { s.trunk with
      out := Vector.ofFn fun k => if k = 0 then some s.trunk.cellOut[pos] else s.trunkDrive pos k }
    legs := Vector.ofFn fun n => (s.legs[n]).map fun l => l.frame (s.transmitSource lineIn mix n l)
    confs := Vector.ofFn fun c => (s.confs[c]).map fun k => { k with clipMark := k.clipMark || mix[c].any (·.2.2) } }

/-- R1: a line frame, after the work that must be taken before it. The codes of the frame's trunk side are
handed inward at the frame's own position. -/
def State.lineFrame (lineIn trunkIn : Frame) (s : State) : State :=
  let s := s.settle
  let pos := s.line.framePos
  ((s.frameSlots lineIn).deliver trunkIn).handInward pos

/-- LINE_FRAME (R1). -/
def execLineFrame (lineIn trunkIn : Frame) (s : State) : Result := whenInService s (State.lineFrame lineIn trunkIn)

end Sys2Proof.Machine
end

