-- ==== Sys2Proof/Machine/LinkControl.lean ====
section
/-! DEFINITION. The Link Controller: parameters, notices, RESTART, the host frames and the reset line
(chapter 12). -/

namespace Sys2Proof.Machine

/-! ### PARAM_SET and PARAM_READ (R172, R173) -/

/-- R172: the value in force of a parameter, as 16 bits. -/
def Params.value (p : Params) : ParamId → Nat
  | .epochLength => p.epochLength
  | .timing => p.timing.value.toNat
  | .answerTimeout => p.answerTimeout
  | .barTime => p.barTime
  | .refreshInterval => p.refreshInterval
  | .failureLimit => p.failureLimit
  | .seed => p.seed.toNat
  | .stride => p.stride.toNat

/-- R132, R172: the refresh interval a value gives. -/
def refreshRange (v : Nat) : Nat := if v = 0 then 0 else if v < 10 then 10 else if 3600 < v then 3600 else v

/-- R36, R12: no leg stands in the way of a structural change. -/
def State.allLegsFree (s : State) : Bool := (placesWhere fun n => (s.legs[n]).isSome).isEmpty

/-- R12: a change of trunk timing mode. Either way the store is left empty and unprimed. -/
def State.setTiming (s : State) (t : TrunkTiming) : State :=
  { s with params := { s.params with timing := t }, trunk := { s.trunk with store := [], primed := false } }

/-- R113: a record brought into line with a failure limit. -/
def ExtRecord.reclamp (limit : Nat) (r : ExtRecord) : ExtRecord :=
  match r.state with
  | .barred _ => { r with failures := limit }
  | _ => if limit ≤ r.failures then { r with failures := limit - 1 } else r

/-- R132: a running refresh timer removed. -/
def Admission.refreshOff : Admission → Admission
  | .admitted k _ => .admitted k none
  | a => a

/-- Every extension record changed. -/
def ExtTable.mapRecords (f : ExtRecord → ExtRecord) (t : ExtTable) : ExtTable :=
  { t with records := Vector.ofFn fun h => (t.records[h]).map f }

/-- R172: an OK reply with the value now in force. -/
def answerParam (id : ParamId) (s : State) : State × Answer := okay (bytes16 (s.params.value id)) s

/-- R172: PARAM_SET taken. -/
def setParam (a : ParamId × Nat) (s : State) : State × Answer :=
  let v := a.2
  match a.1 with
  | .epochLength =>
    let len := clampNat 64 4096 v
    if len = s.params.epochLength then answerParam .epochLength s
    else if !s.allLegsFree then refuse .busy s
    else answerParam .epochLength { s with params := { s.params with epochLength := len } }
  | .timing =>
    let change (t : TrunkTiming) : State × Answer :=
      if t = s.params.timing then answerParam .timing s
      else if !s.allLegsFree then refuse .busy s
      else answerParam .timing (s.setTiming t)
    if v = 0 then change .locked else if v = 1 then change .independent else refuse .badArgument s
  | .answerTimeout =>
    answerParam .answerTimeout { s with params := { s.params with answerTimeout := clampNat 100 10000 v } }
  | .barTime => answerParam .barTime { s with params := { s.params with barTime := clampNat 1 3600 v } }
  | .refreshInterval =>
    let i := refreshRange v
    answerParam .refreshInterval
      { s with
        params := { s.params with refreshInterval := i }
        ext := if i = 0 then s.ext.mapRecords fun r => { r with state := r.state.refreshOff } else s.ext }
  | .failureLimit =>
    let limit := clampNat 1 15 v
    if limit = s.params.failureLimit then answerParam .failureLimit s
    else
      answerParam .failureLimit
        { s with params := { s.params with failureLimit := limit }, ext := s.ext.mapRecords (ExtRecord.reclamp limit) }
  | .seed =>
    answerParam .seed
      { s with params := { s.params with seed := BitVec.ofNat 16 v }
               ext := { s.ext with generator := BitVec.ofNat 16 v } }
  | .stride => answerParam .stride { s with params := { s.params with stride := BitVec.ofNat 16 v ||| 1 } }

def paramSetRequest (body : List Byte) : State → State × Answer := withArgs (parseParamSet body) setParam

/-- PARAM_SET (R172). -/
def execParamSet (body : List Byte) (s : State) : Result := whenInService s (takeRequest 0x19 (paramSetRequest body))

/-- R173: the eight parameters in identifier order. -/
def Params.report (p : Params) : List Byte :=
  [ParamId.epochLength, .timing, .answerTimeout, .barTime, .refreshInterval, .failureLimit, .seed, .stride].flatMap
    fun id => bytes16 (p.value id)

/-- R173: PARAM_READ taken. -/
def readParams (_ : Unit) (s : State) : State × Answer := okay s.params.report s

def paramReadRequest (body : List Byte) : State → State × Answer := withArgs (parseEmpty body) readParams

/-- PARAM_READ (R173). -/
def execParamRead (body : List Byte) (s : State) : Result :=
  whenInService s (takeRequest 0x1A (paramReadRequest body))

/-! ### NOTICE_FETCH and NOTICE_MASK (R175, R176) -/

/-- R175: the notice queue after up to n of the oldest entries are removed. -/
def NoticeUnit.fetch (n : Nat) (u : NoticeUnit) : NoticeUnit :=
  { u with queue := u.queue.drop n, overrun := false, attention := !(u.queue.drop n).isEmpty }

/-- R175, section 12.7: NOTICE_FETCH taken. -/
def fetchNotices (n : Nat) (s : State) : State × Answer :=
  let taken := s.notices.queue.take n
  okay ([bitByte s.notices.overrun, byteOf (s.notices.queue.drop n).length, byteOf taken.length]
      ++ taken.flatMap Notice.bytes)
    { s with notices := s.notices.fetch n }

def noticeFetchRequest (body : List Byte) : State → State × Answer := withArgs (parseFetch body) fetchNotices

/-- NOTICE_FETCH (R175). -/
def execNoticeFetch (body : List Byte) (s : State) : Result :=
  whenInService s (takeRequest 0x1B (noticeFetchRequest body))

/-- R176: NOTICE_MASK taken. -/
def maskNotices (a : Option (BitVec 32)) (s : State) : State × Answer :=
  let mask := a.getD s.notices.mask
  okay (bytes32 mask.toNat) { s with notices := { s.notices with mask := mask } }

def noticeMaskRequest (body : List Byte) : State → State × Answer := withArgs (parseNoticeMask body) maskNotices

/-- NOTICE_MASK (R176). -/
def execNoticeMask (body : List Byte) (s : State) : Result :=
  whenInService s (takeRequest 0x1C (noticeMaskRequest body))

/-! ### RESTART (R177) -/

/-- R117: a record's admission state after RESTART. -/
def Admission.restarted : Admission → Admission
  | .barred t => .barred t
  | .suspended => .suspended
  | _ => .idle

/-- R168: a pending commit's reply, ahead of RESTART's own. -/
def Link.endCommit (h : Hold) (l : Link) : Link :=
  match h with
  | .opened _ .absent | .closed => l
  | .opened _ _ => l.resolve { code := replyCode 0x17, status := .state, body := [] }

/-- R177: the notice queue after RESTART holds RESTARTED alone; the mask is kept. -/
def NoticeUnit.restart (stamp : Half) (u : NoticeUnit) : NoticeUnit :=
  { u with queue := [{ kind := .restarted, subject := 0, detail := 0, stamp := stamp }], overrun := false,
           attention := true }

/-- R15: the trunk port after RESTART: the slip record is cleared, the rest kept. -/
def TrunkPort.restart (t : TrunkPort) : TrunkPort :=
  { t with netSlips := 0, lastDirection := none, changes := 0, changeFlag := false }

/-- R177: RESTART's effects on every block. -/
def State.restart (s : State) : State :=
  { s with
    line := { s.line with outMap := Vector.replicate 64 .vacant }
    trunk := s.trunk.restart
    framer := Framer.reset
    cellQueue := []
    legs := Vector.replicate 32 none
    ext := { s.ext.mapRecords (fun r => { r with state := r.state.restarted }) with ignoredCells := 0, badCells := 0 }
    admQueue := []
    confs := Vector.replicate 8 none
    hold := .closed
    link := s.link.endCommit s.hold
    notices := s.notices.restart s.line.blockCount }

/-- R177: RESTART taken. -/
def restartPart (_ : Unit) (s : State) : State × Answer := okay [] s.restart

def restartRequest (body : List Byte) : State → State × Answer := withArgs (parseEmpty body) restartPart

/-- RESTART (R177). -/
def execRestart (body : List Byte) (s : State) : Result := whenInService s (takeRequest 0x1D (restartRequest body))

/-! ### Frames (R169 to R171) -/

/-- R169, R171: the reply to a frame whose check fails, in its turn; discarded while 16 replies wait. -/
def State.answerBadFrame (s : State) : State :=
  if s.link.waiting < Config.replyRoom then
    { s with link := s.link.push (some { code := 0xFF, status := .badFrame, body := [] }) }
  else s

/-- R170: the taking of a frame with a good check and a code not in the index. -/
def State.takeUnknown (code : Byte) (s : State) : State := takeRequest code (refuse .unknownRequest) s

/-- R170: a request decoded by its message code and taken. -/
def State.takeFrame (code : Byte) (body : List Byte) (s : State) : State :=
  match code.toNat with
  | 0x01 => takeRequest code (legOpenRequest body) s
  | 0x02 => takeRequest code (legCloseRequest body) s
  | 0x03 => takeRequest code (legConnectRequest body) s
  | 0x04 => takeRequest code (legParkRequest body) s
  | 0x05 => takeRequest code (legLevelRequest body) s
  | 0x06 => takeRequest code (legRekeyRequest body) s
  | 0x07 => takeRequest code (legReadRequest body) s
  | 0x08 => takeRequest code (trunkReadRequest body) s
  | 0x09 => takeRequest code (extLoadRequest body) s
  | 0x0A => takeRequest code (extRemoveRequest body) s
  | 0x0B => takeRequest code (extReadRequest body) s
  | 0x0C => takeRequest code (extSuspendRequest body) s
  | 0x0D => takeRequest code (extResumeRequest body) s
  | 0x0E => takeRequest code (extUnbarRequest body) s
  | 0x0F => takeRequest code (extRevokeRequest body) s
  | 0x10 => takeRequest code (slotMapRequest body) s
  | 0x11 => takeRequest code (confOpenRequest body) s
  | 0x12 => takeRequest code (confJoinRequest body) s
  | 0x13 => takeRequest code (confLeaveRequest body) s
  | 0x14 => takeRequest code (confCloseRequest body) s
  | 0x15 => takeRequest code (confReadRequest body) s
  | 0x16 => takeRequest code (holdBeginRequest body) s
  | 0x17 => takeRequest code (holdCommitRequest body) s
  | 0x18 => takeRequest code (holdCancelRequest body) s
  | 0x19 => takeRequest code (paramSetRequest body) s
  | 0x1A => takeRequest code (paramReadRequest body) s
  | 0x1B => takeRequest code (noticeFetchRequest body) s
  | 0x1C => takeRequest code (noticeMaskRequest body) s
  | 0x1D => takeRequest code (restartRequest body) s
  | _ => s.takeUnknown code

/-- R169: the link's assembly set. -/
def State.setAssembly (s : State) (a : Assembly) : State := { s with link := { s.link with assembly := a } }

/-- R169: a frame with its last check byte: the check over the length, code and body as received. -/
def State.endFrame (length : Byte) (bytes : List Byte) (s : State) : State :=
  let content := bytes.take length.toNat
  let check : Half := byteAt bytes length.toNat ++ byteAt bytes (length.toNat + 1)
  if crc16 (length :: content) = check then s.takeFrame (byteAt content 0) (content.drop 1) else s.answerBadFrame

/-- R169: a byte on the host link. -/
def State.linkByte (b : Byte) (s : State) : State :=
  match s.link.assembly with
  | .searching => if b = startByte then s.setAssembly .awaitLength else s
  | .awaitLength => if lengthDiscards b then s.setAssembly .searching else s.setAssembly (.collecting b [])
  | .collecting length bytes =>
    let bytes := bytes ++ [b]
    if bytes.length < length.toNat + 2 then s.setAssembly (.collecting length bytes)
    else (s.setAssembly .searching).endFrame length bytes

/-- LINK_BYTE_RECEIVED (R169). -/
def execLinkByteReceived (byte : Byte) (s : State) : Result := whenInService s (State.linkByte byte)

/-- UNKNOWN_REQUEST (R170): a code of the request index is not this event's. -/
def execUnknownRequest (code : Byte) (s : State) : Result :=
  whenInService s fun s => if knownRequest code then s else s.takeUnknown code

/-- BAD_FRAME (R169): a frame ends and its check fails. -/
def execBadFrame (s : State) : Result := whenInService s fun s => (s.setAssembly .searching).answerBadFrame

/-- FRAME_LENGTH_DISCARD (R169): the length byte awaited discards the start byte; elsewhere the event does not
occur. -/
def execFrameLengthDiscard (length : Byte) (s : State) : Result :=
  whenInService s fun s =>
    if s.link.assembly = .awaitLength && lengthDiscards length then s.setAssembly .searching else s

/-- FRAME_GAP_TIMEOUT (R169): more than 5 ms between two bytes of a frame being assembled. -/
def execFrameGapTimeout (s : State) : Result := whenInService s fun s => s.setAssembly .searching

/-- FRAME_DISCARDED (R171): a frame completes while 16 replies wait; it is not taken and has no reply. -/
def execFrameDiscarded (s : State) : Result :=
  whenInService s fun s => if s.link.waiting < Config.replyRoom then s else s.setAssembly .searching

/-- R171: a reply has left; the next one in the list is sent. -/
def Link.depart (l : Link) : Link := Link.send { l with leaving := none }

/-- REPLY_DEPARTURE (R171). -/
def execReplyDeparture (s : State) : Result := whenInService s fun s => { s with link := s.link.depart }

/-! ### The reset line (R178) -/

/-- RESET_ASSERT (R178): no slot is driven, nothing is sent on the link, attention is deasserted. -/
def execResetAssert (s : State) : Result :=
  .next { s with
    resetAsserted := true
    line := { s.line with out := Vector.replicate 64 none }
    trunk := { s.trunk with out := Vector.replicate 64 none }
    link := { s.link with leaving := none }
    notices := { s.notices with attention := false } }

/-- RESET_RELEASE (R178): every block takes its reset-pin values. -/
def execResetRelease (s : State) : Result := .next { State.reset with pending := s.pending }

end Sys2Proof.Machine
end

