-- ==== Sys2Proof/Machine/Dispatch.lean ====
section
/-! DEFINITION. One arm for each command: the meaning that gives it its effect. -/

namespace Sys2Proof.Machine

def exec (i : Instr) (s : State) : Host.Outcome State Fault Refusal :=
  match i with
  | .lineFrame lineIn trunkIn => Sys2Proof.Machine.execLineFrame lineIn trunkIn s
  | .lineBlockStart => Sys2Proof.Machine.execLineBlockStart s
  | .trunkFrameArrival frame => Sys2Proof.Machine.execTrunkFrameArrival frame s
  | .trunkReceiveBlockCompletion => Sys2Proof.Machine.execTrunkReceiveBlockCompletion s
  | .legBlockScramble leg => Sys2Proof.Machine.execLegBlockScramble leg s
  | .trunkCellDeparture => Sys2Proof.Machine.execTrunkCellDeparture s
  | .admissionCellArrival => Sys2Proof.Machine.execAdmissionCellArrival s
  | .admissionCellDeparture => Sys2Proof.Machine.execAdmissionCellDeparture s
  | .answerTimerExpiry handle => Sys2Proof.Machine.execAnswerTimerExpiry handle s
  | .barTimerExpiry handle => Sys2Proof.Machine.execBarTimerExpiry handle s
  | .refreshTimerExpiry => Sys2Proof.Machine.execRefreshTimerExpiry s
  | .governorUpdate conf => Sys2Proof.Machine.execGovernorUpdate conf s
  | .holdCommitApply => Sys2Proof.Machine.execHoldCommitApply s
  | .legOpen body => Sys2Proof.Machine.execLegOpen body s
  | .legClose body => Sys2Proof.Machine.execLegClose body s
  | .legConnect body => Sys2Proof.Machine.execLegConnect body s
  | .legPark body => Sys2Proof.Machine.execLegPark body s
  | .legLevel body => Sys2Proof.Machine.execLegLevel body s
  | .legRekey body => Sys2Proof.Machine.execLegRekey body s
  | .legRead body => Sys2Proof.Machine.execLegRead body s
  | .trunkRead body => Sys2Proof.Machine.execTrunkRead body s
  | .extLoad body => Sys2Proof.Machine.execExtLoad body s
  | .extRemove body => Sys2Proof.Machine.execExtRemove body s
  | .extRead body => Sys2Proof.Machine.execExtRead body s
  | .extSuspend body => Sys2Proof.Machine.execExtSuspend body s
  | .extResume body => Sys2Proof.Machine.execExtResume body s
  | .extUnbar body => Sys2Proof.Machine.execExtUnbar body s
  | .extRevoke body => Sys2Proof.Machine.execExtRevoke body s
  | .slotMap body => Sys2Proof.Machine.execSlotMap body s
  | .confOpen body => Sys2Proof.Machine.execConfOpen body s
  | .confJoin body => Sys2Proof.Machine.execConfJoin body s
  | .confLeave body => Sys2Proof.Machine.execConfLeave body s
  | .confClose body => Sys2Proof.Machine.execConfClose body s
  | .confRead body => Sys2Proof.Machine.execConfRead body s
  | .holdBegin body => Sys2Proof.Machine.execHoldBegin body s
  | .holdCommit body => Sys2Proof.Machine.execHoldCommit body s
  | .holdCancel body => Sys2Proof.Machine.execHoldCancel body s
  | .paramSet body => Sys2Proof.Machine.execParamSet body s
  | .paramRead body => Sys2Proof.Machine.execParamRead body s
  | .noticeFetch body => Sys2Proof.Machine.execNoticeFetch body s
  | .noticeMask body => Sys2Proof.Machine.execNoticeMask body s
  | .restart body => Sys2Proof.Machine.execRestart body s
  | .unknownRequest code => Sys2Proof.Machine.execUnknownRequest code s
  | .badFrame => Sys2Proof.Machine.execBadFrame s
  | .frameLengthDiscard length => Sys2Proof.Machine.execFrameLengthDiscard length s
  | .frameGapTimeout => Sys2Proof.Machine.execFrameGapTimeout s
  | .frameDiscarded => Sys2Proof.Machine.execFrameDiscarded s
  | .replyDeparture => Sys2Proof.Machine.execReplyDeparture s
  | .resetAssert => Sys2Proof.Machine.execResetAssert s
  | .resetRelease => Sys2Proof.Machine.execResetRelease s
  | .linkByteReceived byte => Sys2Proof.Machine.execLinkByteReceived byte s

end Sys2Proof.Machine
end

