-- ==== Sys2Proof/Requests.lean ====
section
/-! DEFINITION. The bodies of the host requests, written from their arguments by the layouts of section 12.7: the
sender's side of what `Machine/Operands.lean` reads. -/

namespace Sys2Proof.Machine

/-- R106: a number is a sequence of 2 to 6 decimal digits. -/
def validNumber (n : ExtNumber) : Bool := 2 ≤ n.length && n.length ≤ 6 && n.all fun d => d.toNat ≤ 9

/-- R169: a 24-bit key half, most significant byte first. -/
def wheelWordField (w : WheelWord) : List Byte := [byteOf (w.toNat / 65536), byteOf (w.toNat / 256), byteOf w.toNat]

/-- Section 12.7: a 48-bit key, the high half first. -/
def keyField (k : Key) : List Byte := wheelWordField k.hi ++ wheelWordField k.lo

/-- Section 12.7: a key setting. -/
def settingField (k : KeySetting) : List Byte := [k.gen, k.mode.value] ++ keyField k.scramble ++ keyField k.descramble

/-- Section 12.7: an extension reference; the ignored bytes of a handle are sent as 0. -/
def refField : ExtRef → List Byte
  | .number n => 0 :: numberBytes n
  | .handle h => [1, byteOf h, 0, 0, 0]
  | .nextAt h => [2, byteOf h, 0, 0, 0]

/-- Whether a reference's number, if it names one, is well formed. -/
def validRef : ExtRef → Bool
  | .number n => validNumber n
  | .handle _ | .nextAt _ => true

/-- LEG_OPEN's body. -/
def LegOpenArgs.body (a : LegOpenArgs) : List Byte :=
  [byteOf a.leg] ++ numberBytes a.owner ++ [byteOf a.slot, bitByte a.farTag.isSome, a.farTag.getD 0]
  ++ settingField a.setting ++ bytes16 a.epoch.toNat ++ [byteOfInt a.gain, bitByte a.connect]

/-- R54 check 1: LEG_OPEN's arguments in range. The gain is not among them: it is clamped. -/
def LegOpenArgs.valid (a : LegOpenArgs) : Bool :=
  validNumber a.owner && a.slot != 0 && a.farTag != some 0 && a.setting.gen != 0 && -6 ≤ a.gain && a.gain ≤ 6

/-- LEG_REKEY's body. -/
def rekeyBody (n : LegNo) (k : KeySetting) : List Byte := byteOf n :: settingField k

/-- EXT_LOAD's body. -/
def ExtLoadArgs.body (a : ExtLoadArgs) : List Byte :=
  numberBytes a.number ++ keyField a.credential ++ [a.cls.value, byteOf a.group, a.scope.value]

/-- SLOT_MAP's body. -/
def slotMapBody (clear : Bool) (changes : List (Slot × Bool)) : List Byte :=
  [bitByte clear, byteOf changes.length] ++ changes.flatMap fun c => [byteOf c.1, bitByte c.2]

/-- CONF_OPEN's body; the reference of an absent chair is sent as 0. -/
def confOpenBody (c : ConfNo) (chair : Option ExtRef) : List Byte :=
  [byteOf c, bitByte chair.isSome] ++ (match chair with | none => [0, 0, 0, 0, 0] | some r => refField r)

/-- The body of CONF_JOIN and CONF_LEAVE; the field of the kind not named is sent as 0. -/
def confMemberBody (c : ConfNo) : MemberRef → List Byte
  | .leg n => [byteOf c, 0, byteOf n, 0, 0, 0, 0, 0]
  | .loc r => [byteOf c, 1, 0] ++ refField r

/-- PARAM_SET's identifier (R172). -/
def ParamId.value : ParamId → Byte
  | .epochLength => 1 | .timing => 2 | .answerTimeout => 3 | .barTime => 4 | .refreshInterval => 5
  | .failureLimit => 6 | .seed => 7 | .stride => 8

/-- PARAM_SET's body. -/
def paramBody (p : ParamId) (v : Half) : List Byte := p.value :: bytes16 v.toNat

end Sys2Proof.Machine
end

