-- ==== Sys2Proof/WellFormed.lean ====
section
/-! DEFINITION. When a command is one the part can be given: the checks on its operands that their types do
not already make. -/

namespace Sys2Proof

/-- R169, section 12.7: the length byte is 1..250 and counts the code and the body. -/
def bodyFits (body : List Byte) : Bool := body.length ≤ 249

/-- The operands of a command are ones the link or the highway can bring. -/
def Instr.wellFormed : Instr → Bool
  | .legOpen body | .legClose body | .legConnect body | .legPark body | .legLevel body | .legRekey body
  | .legRead body | .trunkRead body | .extLoad body | .extRemove body | .extRead body | .extSuspend body
  | .extResume body | .extUnbar body | .extRevoke body | .slotMap body | .confOpen body | .confJoin body
  | .confLeave body | .confClose body | .confRead body | .holdBegin body | .holdCommit body | .holdCancel body
  | .paramSet body | .paramRead body | .noticeFetch body | .noticeMask body | .restart body => bodyFits body
  | .unknownRequest code => !Machine.knownRequest code
  | .frameLengthDiscard length => Machine.lengthDiscards length
  | .lineFrame _ _ | .lineBlockStart | .trunkFrameArrival _ | .trunkReceiveBlockCompletion | .legBlockScramble _
  | .trunkCellDeparture | .admissionCellArrival | .admissionCellDeparture | .answerTimerExpiry _ | .barTimerExpiry _
  | .refreshTimerExpiry | .governorUpdate _ | .holdCommitApply | .badFrame | .frameGapTimeout | .frameDiscarded
  | .replyDeparture | .resetAssert | .resetRelease | .linkByteReceived _ => true

end Sys2Proof
end

