-- ==== Sys2Proof/Safety.lean ====
section
/-! DEFINITION. The terms the claims are stated in: when a request is taken and how it is answered, runs of
commands, and the laws the part keeps at every taking. -/

namespace Sys2Proof.Machine

/-! ### Requests and their answers -/

/-- R170, R171, R178: a request whose frame completes now is taken: the reset line is released and fewer than 16
replies wait. -/
abbrev State.ready (s : State) : Prop := s.resetAsserted = false ∧ s.link.waiting < Config.replyRoom

/-- R170: the state with the reply of a request joined to the reply list. -/
def State.answered (s : State) (code : Byte) (status : Status) (body : List Byte) : State :=
  { s with link := s.link.push (some { code := replyCode code, status := status, body := body }) }

/-- R170, section 12.7: the message code and the body of a command that is a host request. -/
def requestOf : Instr → Option (Byte × List Byte)
  | .legOpen b => some (0x01, b) | .legClose b => some (0x02, b) | .legConnect b => some (0x03, b)
  | .legPark b => some (0x04, b) | .legLevel b => some (0x05, b) | .legRekey b => some (0x06, b)
  | .legRead b => some (0x07, b) | .trunkRead b => some (0x08, b) | .extLoad b => some (0x09, b)
  | .extRemove b => some (0x0A, b) | .extRead b => some (0x0B, b) | .extSuspend b => some (0x0C, b)
  | .extResume b => some (0x0D, b) | .extUnbar b => some (0x0E, b) | .extRevoke b => some (0x0F, b)
  | .slotMap b => some (0x10, b) | .confOpen b => some (0x11, b) | .confJoin b => some (0x12, b)
  | .confLeave b => some (0x13, b) | .confClose b => some (0x14, b) | .confRead b => some (0x15, b)
  | .holdBegin b => some (0x16, b) | .holdCommit b => some (0x17, b) | .holdCancel b => some (0x18, b)
  | .paramSet b => some (0x19, b) | .paramRead b => some (0x1A, b) | .noticeFetch b => some (0x1B, b)
  | .noticeMask b => some (0x1C, b) | .restart b => some (0x1D, b)
  | .lineFrame _ _ | .lineBlockStart | .trunkFrameArrival _ | .trunkReceiveBlockCompletion | .legBlockScramble _
  | .trunkCellDeparture | .admissionCellArrival | .admissionCellDeparture | .answerTimerExpiry _ | .barTimerExpiry _
  | .refreshTimerExpiry | .governorUpdate _ | .holdCommitApply | .unknownRequest _ | .badFrame
  | .frameLengthDiscard _ | .frameGapTimeout | .frameDiscarded | .replyDeparture | .resetAssert | .resetRelease
  | .linkByteReceived _ => none

/-- Section 12.7, R170: the length a request's body must have. -/
def requestLength (code : Byte) (body : List Byte) : Nat :=
  match code.toNat with
  | 0x01 => 26 | 0x05 => 2 | 0x06 => 15 | 0x07 => 2 | 0x09 => 13
  | 0x02 | 0x03 | 0x04 | 0x08 | 0x14 | 0x1B => 1
  | 0x0A | 0x0B | 0x0C | 0x0D | 0x0E | 0x0F | 0x1C => 5
  | 0x10 => 2 + 2 * (byteAt body 1).toNat
  | 0x11 => 7 | 0x12 | 0x13 => 8 | 0x15 => 2 | 0x19 => 3
  | _ => 0

/-- Section 12.7: digit place j of the four bytes of a number, two to a byte, the first in bits 7..4. -/
def digitPlace (bytes : List Byte) (j : Nat) : BitVec 4 :=
  (byteAt bytes (1 + j / 2)).extractLsb' (if j % 2 = 0 then 4 else 0) 4

/-- R106, R119: a number in range: a count of 2..6, and as many decimal digits. -/
def NumberFits (bytes : List Byte) : Prop :=
  2 ≤ (byteAt bytes 0).toNat ∧ (byteAt bytes 0).toNat ≤ 6 ∧
    ∀ j < (byteAt bytes 0).toNat, (digitPlace bytes j).toNat ≤ 9

/-- R106, R170: an extension reference in range; form 2 is EXT_READ's alone. -/
def RefFits (nextAllowed : Bool) (bytes : List Byte) : Prop :=
  (byteAt bytes 0 = 0 ∧ NumberFits (bytes.drop 1)) ∨ byteAt bytes 0 = 1 ∨ (byteAt bytes 0 = 2 ∧ nextAllowed = true)

/-- R170 with each request's own range checks: the arguments of a body are in range. -/
def ArgumentsFit (code : Byte) (body : List Byte) : Prop :=
  let v (i : Nat) : Nat := (byteAt body i).toNat
  match code.toNat with
  | 0x01 => v 0 < 32 ∧ NumberFits (body.drop 1) ∧ 0 < v 5 ∧ v 5 < 64 ∧ v 6 < 2 ∧ (v 6 = 1 → v 7 ≠ 0) ∧ v 8 ≠ 0 ∧
      v 9 < 3 ∧ v 25 < 2
  | 0x02 | 0x03 | 0x04 | 0x05 => v 0 < 32
  | 0x06 => v 0 < 32 ∧ v 1 ≠ 0 ∧ v 2 < 3
  | 0x07 => v 0 < 32 ∧ v 1 < 2
  | 0x08 => v 0 < 2
  | 0x09 => NumberFits body ∧ v 10 < 8 ∧ v 11 < 16 ∧ v 12 < 3
  | 0x0A | 0x0C | 0x0D | 0x0E | 0x0F => RefFits false body
  | 0x0B => RefFits true body
  | 0x10 => v 0 < 2 ∧ v 1 < 64 ∧ ∀ j < v 1, 0 < v (2 + 2 * j) ∧ v (2 + 2 * j) < 64 ∧ v (3 + 2 * j) < 2
  | 0x11 => v 0 < 8 ∧ v 1 < 2 ∧ (v 1 = 1 → RefFits false (body.drop 2))
  | 0x12 | 0x13 => v 0 < 8 ∧ ((v 1 = 0 ∧ v 2 < 32) ∨ (v 1 = 1 ∧ RefFits false (body.drop 3)))
  | 0x14 => v 0 < 8
  | 0x15 => v 0 < 8 ∧ v 1 < 2
  | 0x19 => 0 < v 0 ∧ v 0 ≤ 8 ∧ (v 0 = 2 → v 1 = 0 ∧ v 2 < 2)
  | 0x1B => 0 < v 0 ∧ v 0 ≤ 8
  | 0x1C => v 0 < 2 ∧ v 1 = 0 ∧ v 2 < 64
  | _ => True

/-- R2: a line block start and the work that falls at it, in the order the model takes what is outstanding of it
before a line frame (log entry 4). -/
def blockStartCommands : List Instr :=
  [.lineBlockStart] ++ (List.finRange 32).map .legBlockScramble ++
  [.trunkCellDeparture, .admissionCellDeparture, .admissionCellArrival] ++
  (List.finRange 256).map .answerTimerExpiry ++ (List.finRange 256).map .barTimerExpiry ++
  List.replicate 256 .refreshTimerExpiry ++ (List.finRange 8).map .governorUpdate ++ [.holdCommitApply]

/-- The commands of a list taken one after another. -/
def takeAll : List Instr → State → Result
  | [], s => .next s
  | c :: rest, s =>
    match exec c s with
    | .next t => takeAll rest t
    | .fault r => .fault r
    | .refused r => .refused r

/-! ### Secrets -/

/-- R69, R104, R109: what no reply may disclose of a leg: its keys and its wheel values. -/
def Leg.withoutSecrets (l : Leg) : Leg :=
  { l with
    txKey := { l.txKey with key := ⟨0, 0⟩ }, rxKey := { l.rxKey with key := ⟨0, 0⟩ }
    pendingKey := l.pendingKey.map fun p => { p with scramble := ⟨0, 0⟩, descramble := ⟨0, 0⟩ }
    tx := { l.tx with wheel := 0 }, rx := { l.rx with wheel := 0 } }

/-- The state with every key, wheel value and credential put out of sight. -/
def State.withoutSecrets (s : State) : State :=
  { s with
    legs := Vector.ofFn fun n => (s.legs[n]).map Leg.withoutSecrets
    ext := s.ext.mapRecords fun r => { r with credential := ⟨0, 0⟩ } }

/-! ### Numbers and lists within their ranges -/

/-- R42, R60, R67, R68: a leg's buffer, gain code and counters. -/
structure Leg.Bounded (l : Leg) : Prop where
  output : l.rxOutput.length ≤ Config.outputRoom
  gain : -6 ≤ l.gain ∧ l.gain ≤ 6
  realigns : l.realigns ≤ 65535
  mutedBlocks : l.mutedBlocks ≤ 65535
  skippedSyncs : l.skippedSyncs ≤ 65535

/-- R145, R146: a conference's members, governor and counter. -/
structure Conf.Bounded (k : Conf) : Prop where
  members : k.members.length ≤ Config.memberRoom
  governor : 1 ≤ k.governor ∧ k.governor ≤ 191
  attenuation : k.attenuation ≤ 6
  clippedBlocks : k.clippedBlocks ≤ 65535

/-- R172: the parameters within their ranges. -/
structure Params.Bounded (p : Params) : Prop where
  epochLength : 64 ≤ p.epochLength ∧ p.epochLength ≤ 4096
  answerTimeout : 100 ≤ p.answerTimeout ∧ p.answerTimeout ≤ 10000
  barTime : 1 ≤ p.barTime ∧ p.barTime ≤ 3600
  refreshInterval : p.refreshInterval = 0 ∨ (10 ≤ p.refreshInterval ∧ p.refreshInterval ≤ 3600)
  failureLimit : 1 ≤ p.failureLimit ∧ p.failureLimit ≤ 15
  stride : p.stride.getLsbD 0 = true

/-- R162: the entries of the held-change list, none while the hold is CLOSED. -/
def Hold.entries : Hold → List HeldChange
  | .closed => []
  | .opened entries _ => entries

/-- R162: the commit-pending mark. -/
def Hold.mark : Hold → CommitMark
  | .closed => .absent
  | .opened _ mark => mark

/-- R165, R171: an outstanding commit reply holds its place in the reply list exactly while a commit is pending. -/
def Link.outstanding (l : Link) : Nat := (l.replies.filter (·.isNone)).length

/-- Every queue, list and counter of the part within the range the spec gives it (R4, R10, R13, R42, R76, R80,
R92, R114, R120, R145, R162, R172, R174), and the attention line following the notice queue (R174). -/
structure State.Bounded (s : State) : Prop where
  cellQueue : s.cellQueue.length ≤ Config.cellQueueRoom
  admQueue : s.admQueue.length ≤ Config.admQueueRoom
  notices : s.notices.queue.length ≤ Config.noticeRoom
  attention : s.resetAsserted = false → s.notices.attention = !s.notices.queue.isEmpty
  store : s.trunk.store.length ≤ Config.storeRoom
  netSlips : -32767 ≤ s.trunk.netSlips ∧ s.trunk.netSlips ≤ 32767
  changes : s.trunk.changes ≤ 2
  cellIn : s.line.cellIn.length = s.line.framePos
  window : s.framer.window.length ≤ 8
  badRun : s.framer.badRun ≤ 3
  framerCounters : s.framer.badCells ≤ 65535 ∧ s.framer.unknownTags ≤ 65535 ∧ s.framer.skippedSyncs ≤ 65535
  extCounters : s.ext.ignoredCells ≤ 65535 ∧ s.ext.badCells ≤ 65535
  held : s.hold.entries.length ≤ Config.heldRoom
  heldGains : ∀ n g, .level n g ∈ s.hold.entries → -6 ≤ g ∧ g ≤ 6
  legs : ∀ n l, s.legs[(n : LegNo)] = some l → l.Bounded
  confs : ∀ c k, s.confs[(c : ConfNo)] = some k → k.Bounded
  params : s.params.Bounded

/-- R171: the reply list holds at most 16 replies with at most one place more for an outstanding commit reply,
which is there exactly while a commit is pending. -/
structure State.RepliesInOrder (s : State) : Prop where
  room : s.link.replies.length ≤ Config.replyRoom + 1
  outstanding : s.link.outstanding = if s.hold.mark = .absent then 0 else 1
  leaving : s.link.leaving = none → s.resetAsserted = false → ∀ r rest, s.link.replies = r :: rest → r = none

/-! ### The laws of the tables -/

/-- R50: among the legs that are not FREE no two share a trunk slot and no two share a receive tag. -/
def State.LegsDistinct (s : State) : Prop :=
  ∀ (n m : LegNo) (l k : Leg), s.legs[n] = some l → s.legs[m] = some k → n ≠ m →
    l.slot ≠ k.slot ∧ l.receiveTag ≠ k.receiveTag

/-- R105: a line slot is bound to at most one extension. R106: no two records hold the same number. -/
structure State.RecordsDistinct (s : State) : Prop where
  slots : ∀ (h k : Handle) (slot : Slot), s.boundSlot h = some slot → s.boundSlot k = some slot → h = k
  numbers : ∀ (h k : Handle) (r q : ExtRecord), s.record h = some r → s.record k = some q → r.number = q.number → h = k

/-- R104: whether a record is BARRED. -/
def Admission.isBarred : Admission → Bool
  | .barred _ => true
  | _ => false

/-- R113: an extension's failure count is below the failure limit, except in BARRED, where it equals the limit. -/
def State.FailureLaw (s : State) : Prop :=
  ∀ (h : Handle) (r : ExtRecord), s.record h = some r →
    if r.state.isBarred then r.failures = s.params.failureLimit else r.failures < s.params.failureLimit

/-- R51: every leg in WAITING, RUNNING or HOLDING has an owner in ADMITTED or REFRESHING whose class includes
MAY_SCRAMBLE. -/
def State.OwnersAdmitted (s : State) : Prop :=
  ∀ (n : LegNo) (l : Leg), s.legs[n] = some l → l.state.isOpen = true → s.admittedWith l.owner (·.mayScramble) = true

/-- R48, R51: whether a leg is in CLEARING. -/
def LegState.isClearing : LegState → Bool
  | .clearing _ => true
  | _ => false

/-- R76, R66, R79: the Trunk Cell Queue holds no request twice; a CLEAR request belongs to a leg in CLEARING, a
SYNC or ROLL request to an open leg; a wants flag stands only for a request that is not queued; and a leg in
CLEARING always has its CLEAR queued or wanted. -/
structure State.CellQueueLaws (s : State) : Prop where
  once : s.cellQueue.Nodup
  owners : ∀ r ∈ s.cellQueue, ∃ l, s.legs[r.leg] = some l ∧ l.state.isClearing = (r.kind == .clear)
  wantsClear : ∀ (n : LegNo) (l : Leg), s.legs[n] = some l → l.wantsClear = true →
    l.state.isClearing = true ∧ { kind := .clear, leg := n } ∉ s.cellQueue
  wantsRoll : ∀ (n : LegNo) (l : Leg), s.legs[n] = some l → l.wantsRoll = true →
    l.state.isOpen = true ∧ { kind := .roll, leg := n } ∉ s.cellQueue
  cleared : ∀ (n : LegNo) (l : Leg), s.legs[n] = some l → l.state.isClearing = true →
    l.wantsClear = true ∨ { kind := .clear, leg := n } ∈ s.cellQueue

/-! ### Keys and counters -/

/-- R36, section 6.1: a leg's counters name a block of the epoch; while it is open, its two keys differ in
generation only while a pending key is present; a switch epoch stands only for a pending key of another generation
than the transmit key's (R97, R102); and the generation awaited in HOLDING(KEY) is not the receive generation. -/
structure Leg.KeyLaws (epochLength : Nat) (l : Leg) : Prop where
  txIndex : l.tx.index < epochLength
  rxIndex : l.rx.index < epochLength
  pending : l.state.isOpen = true → l.txKey.gen ≠ l.rxKey.gen → l.pendingKey.isSome = true
  switching : l.switchEpoch.isSome = true → ∃ p, l.pendingKey = some p ∧ p.gen ≠ l.txKey.gen
  awaited : ∀ g, l.state = .holding (.key g) → g ≠ l.rxKey.gen

/-- Every leg keeps the key laws, and a ROLL that is queued or wanted has a pending key to announce whose switch
epoch is not yet fixed (R95 to R97). -/
structure State.KeyLaws (s : State) : Prop where
  epochLength : 64 ≤ s.params.epochLength ∧ s.params.epochLength ≤ 4096
  legs : ∀ (n : LegNo) (l : Leg), s.legs[n] = some l → l.KeyLaws s.params.epochLength
  rolls : ∀ (n : LegNo) (l : Leg), s.legs[n] = some l →
    l.wantsRoll = true ∨ { kind := .roll, leg := n } ∈ s.cellQueue →
    l.switchEpoch = none ∧ ∃ p, l.pendingKey = some p ∧ p.gen ≠ l.txKey.gen

/-! ### The receive side -/

/-- R80, R81, R85: the framer's block in progress. In PRESYNC and SYNC the window is full, the next delivered frame
falls at the place in the block that the phase gives it, the block has ended exactly when it holds its length, and
the length is 8, or 7 or 9 while the slip mark is present. -/
structure Framer.Aligned (framePos : Position) (p : Position) (f : Framer) : Prop where
  window : f.window.length = 8
  position : (p.val + f.blockFrames + 16 - f.blockLength) % 8 = framePos.val
  frames : f.blockFrames ≤ f.blockLength
  ended : f.blockEnded = decide (f.blockFrames = f.blockLength)
  length : (f.slipMark = 0 ∧ f.blockLength = 8) ∨
    ((f.slipMark = 1 ∨ f.slipMark = 2) ∧ (f.blockLength = 7 ∨ f.blockLength = 9))

/-- R80, R82, R84: the framer aligned with the line frames; a leg in RUNNING or HOLDING(KEY) only while the framer
is in SYNC; and such a leg holds one code of each frame of the block in progress (R40). -/
structure State.ReceiveLaws (s : State) : Prop where
  hunt : s.framer.mode = .hunt → s.framer.blockEnded = false ∧ s.framer.slipMark = 0
  presync : ∀ p, s.framer.mode = .presync p → s.framer.Aligned s.line.framePos p ∧ s.framer.slipMark = 0
  sync : ∀ p, s.framer.mode = .sync p → s.framer.Aligned s.line.framePos p
  counting : ∀ (n : LegNo) (l : Leg), s.legs[n] = some l → l.state.counts = true →
    (∃ p, s.framer.mode = .sync p) ∧ l.rxAssembly.length = s.framer.blockFrames

/-! ### Conferences and the line slot output map -/

/-- R146: the laws of the member lists. -/
structure State.MemberLaws (s : State) : Prop where
  pool : ((List.finRange 8).map fun c => (s.membersOf c).length).sum ≤ Config.poolRoom
  room : ∀ c, (s.membersOf c).length ≤ Config.memberRoom
  once : ∀ c, (s.membersOf c).Nodup
  onlyOnce : ∀ c d m, m ∈ s.membersOf c → m ∈ s.membersOf d → c = d
  legs : ∀ c n, .leg n ∈ s.membersOf c ↔ ∃ l, s.legs[n] = some l ∧ l.state.isOpen = true ∧ l.endpoint = .conference c
  locals : ∀ c h, .loc h ∈ s.membersOf c → s.admittedWith h (·.mayConference) = true
  chairs : ∀ (c : ConfNo) (k : Conf) (h : Handle), s.confs[c] = some k → k.chair = some h →
    s.admittedWith h (·.mayConference) = true

/-- R7, R52: each entry of the line slot output map names exactly the source that has it: the LINE leg whose owner
is bound to the slot, or the local membership of the extension bound to it. -/
structure State.MapLaws (s : State) : Prop where
  legs : ∀ (k : Slot) (n : LegNo), s.line.outMap[k] = .leg n ↔
    ∃ l, s.legs[n] = some l ∧ l.state.isOpen = true ∧ l.endpoint = .line ∧ s.boundSlot l.owner = some k
  conferences : ∀ (k : Slot) (c : ConfNo), s.line.outMap[k] = .conference c ↔
    ∃ h, .loc h ∈ s.membersOf c ∧ s.boundSlot h = some k

/-- R7, R51, R105, R146: admission, legs, conferences and the map in accord. -/
structure State.LineLaws (s : State) : Prop where
  records : s.RecordsDistinct
  owners : s.OwnersAdmitted
  members : s.MemberLaws
  map : s.MapLaws
  parked : ∀ (n : LegNo) (l : Leg), s.legs[n] = some l → l.state.isClearing = true → l.endpoint = .parked

end Sys2Proof.Machine
end

