-- ==== Sys2Proof/Certificates/Slice0/Obligations.lean ====
section
/-! DEFINITION. What is claimed of the model: one statement for each obligation of OBLIGATIONS.json. -/

open Sys2Proof Sys2Proof.Machine


/-! ### The part as a whole -/

/-- The step takes the command at the front of the queue and runs it with the queue's rest; on an empty queue the
part idles (log entries 1 and 2: the queue is the model's). -/
def Obligations.StepTakesTheFrontCommand : Prop :=
  (∀ (s : State) (c : Instr) (rest : List Instr), s.pending = c :: rest → step s = exec c { s with pending := rest }) ∧
  (∀ s : State, s.pending = [] → step s = .next s)

/-- Every command has an effect in every state (no fault, no refusal), and none touches the queue of commands. That an
event without its occasion does nothing is log entry 3, that nothing stops the part log entry 34, and the queue is the
model's own (log entry 1). -/
def Obligations.EveryCommandAnswersAndKeepsTheQueue : Prop :=
  ∀ (c : Instr) (s : State), ∃ t, exec c s = .next t ∧ t.pending = s.pending

/-- R178: asserting the reset line undrives both highways, silences the link and the attention line; its release gives
every block its reset-pin values. The model's own: that nothing is taken while the line is asserted, that the blocks
then keep what they hold, and what a release does that no assertion preceded (log entry 13); and, in `State.reset`, the
codes last driven and the cells being sent (log entry 16). -/
def Obligations.ResetLineStopsThePart : Prop :=
  (∀ (c : Instr) (s : State), s.resetAsserted = true → c ≠ .resetAssert → c ≠ .resetRelease → exec c s = .next s) ∧
  (∀ s : State, ∃ t, exec .resetAssert s = .next t ∧ t.resetAsserted = true ∧
    (∀ k : Slot, t.line.out[k] = none ∧ t.trunk.out[k] = none) ∧ t.link.leaving = none ∧ t.notices.attention = false ∧
    t = { s with resetAsserted := true, line := { s.line with out := t.line.out }, trunk := { s.trunk with out := t.trunk.out },
                 link := { s.link with leaving := none }, notices := { s.notices with attention := false } }) ∧
  (∀ s : State, exec .resetRelease s = .next { State.reset with pending := s.pending })

/-- What the rules R2, R7, R15, R36, R71, R94, R113, R116, R121, R134, R161, R162, R169, R171, R172 and R174 give the
part after the reset pin. -/
def Obligations.ResetPinValues : Prop :=
  State.reset.line.framePos = 0 ∧ State.reset.line.blockCount = 0 ∧ State.reset.line.arrival = none ∧
  (∀ k : Slot, State.reset.line.outMap[k] = .vacant) ∧
  State.reset.trunk.store = [] ∧ State.reset.trunk.primed = false ∧
  (∀ k : Slot, State.reset.trunk.lastDelivered[k] = silence) ∧ State.reset.trunk.netSlips = 0 ∧
  State.reset.trunk.lastDirection = none ∧ State.reset.trunk.changes = 0 ∧ State.reset.trunk.changeFlag = false ∧
  State.reset.framer.mode = .hunt ∧ State.reset.framer.window = [] ∧ State.reset.framer.slipMark = 0 ∧
  State.reset.framer.badRun = 0 ∧ State.reset.framer.badCells = 0 ∧ State.reset.framer.unknownTags = 0 ∧
  State.reset.framer.skippedSyncs = 0 ∧ State.reset.cellQueue = [] ∧ (∀ n : LegNo, State.reset.legs[n] = none) ∧
  (∀ h : Handle, State.reset.record h = none) ∧ (∀ k : Slot, State.reset.ext.listen[k] = false) ∧
  State.reset.ext.ignoredCells = 0 ∧ State.reset.ext.badCells = 0 ∧ State.reset.ext.generator = 0x5A3C ∧
  State.reset.admQueue = [] ∧ (∀ c : ConfNo, State.reset.confs[c] = none) ∧ State.reset.freePlaces = 32 ∧
  State.reset.hold = .closed ∧ State.reset.link.assembly = .searching ∧ State.reset.link.replies = [] ∧
  State.reset.notices.queue = [] ∧ State.reset.notices.overrun = false ∧ State.reset.notices.attention = false ∧
  (∀ k : NoticeKind, State.reset.notices.enabled k = true) ∧
  State.reset.params = ⟨256, .locked, 2000, 60, 0, 3, 0x5A3C, 0x2F1B⟩

/-! ### The sample code and its arithmetic (chapter 2) -/

/-- R17: expansion, for every code by its sign, segment and step. -/
def Obligations.ExpansionOfEveryCode : Prop :=
  (∀ seg < 8, ∀ step < 16,
    expand (BitVec.ofNat 8 (128 + 16 * seg + step)) = ((step + 16) * 2 ^ seg : Nat) - 16 ∧
    expand (BitVec.ofNat 8 (16 * seg + step)) = -(((step + 16) * 2 ^ seg : Nat) - 16 : Int)) ∧
  (∀ c : Code, -3952 ≤ expand c ∧ expand c ≤ 3952) ∧ expand 0x80 = 0 ∧ expand 0x00 = 0 ∧
  expand (makeCode true 3 5) = 152 ∧ expand (makeCode false 7 15) = -3952

/-- R18: compression takes the largest segment that fits, truncates to the step at or below and never rounds up, and what
is compressed has been saturated. R19: compressing the expansion of a code gives the code back, but for negative zero.
R23: what saturation makes of a value, and its clip mark. -/
def Obligations.CompressionTruncatesAndRestores : Prop :=
  (∀ x : Int, x.natAbs ≤ 3952 → ∃ seg ≤ 7, 16 * 2 ^ seg ≤ x.natAbs + 16 ∧
     (∀ k ≤ 7, 16 * 2 ^ k ≤ x.natAbs + 16 → k ≤ seg) ∧
     16 ≤ (x.natAbs + 16) / 2 ^ seg ∧ (x.natAbs + 16) / 2 ^ seg - 16 ≤ 15 ∧
     compress x = makeCode (decide (0 ≤ x)) seg ((x.natAbs + 16) / 2 ^ seg - 16) ∧
     codePositive (compress x) = decide (0 ≤ x) ∧ magnitude (compress x) ≤ x.natAbs ∧
     x.natAbs - magnitude (compress x) ≤ 2 ^ seg ∧ (x = 0 → compress x = silence) ∧
     ∀ y : Int, (saturate y).1.natAbs ≤ 3952) ∧
  (∀ c : Code, compress (expand c) = if c = 0x00 then silence else c) ∧
  (∀ y : Int, (3952 < y → (saturate y).1 = 3952) ∧ (y < -3952 → (saturate y).1 = -3952) ∧
    (y.natAbs ≤ 3952 → (saturate y).1 = y) ∧ ((saturate y).2 = true ↔ 3952 < y.natAbs))

/-- R22: scaling rounds the magnitude to the nearest whole number, an exact half up; a value and its negative scale
to a result and its negative; unity changes nothing; and no gain takes a non-zero value to 0. R21: the multipliers of
the gain codes -6..+6. -/
def Obligations.ScalingRoundsHalfAwayFromZero : Prop :=
  (∀ (x : Int) (m : Nat), scale x m = (if 0 < x then 1 else if x < 0 then -1 else 0) * ((x.natAbs * m + 2048) / 4096 : Nat)) ∧
  (∀ (x : Int) (m : Nat), x ≠ 0 → (scale x m).natAbs * 4096 ≤ x.natAbs * m + 2048 ∧
    x.natAbs * m + 2048 < ((scale x m).natAbs + 1) * 4096) ∧
  (∀ (x : Int) (m : Nat), (0 ≤ x → 0 ≤ scale x m) ∧ (x ≤ 0 → scale x m ≤ 0) ∧ scale (-x) m = -scale x m) ∧
  (∀ x : Int, scale x 4096 = x) ∧
  (List.range 13).map (fun i => multiplier ((i : Int) - 6)) =
    [2053, 2303, 2584, 2900, 3254, 3651, 4096, 4596, 5157, 5786, 6492, 7284, 8173] ∧
  (∀ g : Int, -6 ≤ g → g ≤ 6 → 2048 < multiplier g) ∧
  (∀ (x g : Int), -6 ≤ g → g ≤ 6 → x ≠ 0 → scale x (multiplier g) ≠ 0) ∧ scale 1 (multiplier (-6)) = 1

/-- R27: sign inversion changes the sign field alone. -/
def Obligations.SignInversionTwiceRestores : Prop :=
  ∀ c : Code, codePositive (invertSign c) = !codePositive c ∧ codeSegment (invertSign c) = codeSegment c ∧
    codeStep (invertSign c) = codeStep c ∧ magnitude (invertSign c) = magnitude c ∧
    expand (invertSign c) = -expand c ∧ invertSign (invertSign c) = c ∧ invertSign silence = 0x00 ∧
    invertSign 0x00 = silence

/-- R155: each member's result is the compressed, saturated and scaled sum of the other members' inputs, marked as
clipped when the scaled sum passes 3952 either way; a lone member gets silence. -/
def Obligations.MinusOneMixOmitsTheMember : Prop :=
  ∀ (att : Nat) (before rest : List (Member × Int)) (m : Member) (x : Int),
    let others := ((before ++ rest).map (·.2)).sum
    (minusOne att (before ++ (m, x) :: rest))[before.length]? =
      some (m, compress (saturate (scale others (multiplier (-(att : Int))))).1,
        decide (3952 < (scale others (multiplier (-(att : Int)))).natAbs)) ∧
    (before = [] → rest = [] → minusOne att [(m, x)] = [(m, silence, false)])

/-! ### The key wheel and the block scrambler (chapter 3) -/

/-- R29: the epoch seed. R30: one step of the wheel, and the block values of an epoch. -/
def Obligations.WheelStepsThroughTheEpoch : Prop :=
  (∀ (k : Key) (e : Half), (epochSeed k e).toNat = k.hi.toNat ^^^ (e.toNat * 257 % 2 ^ 24)) ∧
  (∀ (k : Key) (v : WheelWord), (wheelStep k v).toNat = (v.toNat * 5 + (k.lo.toNat ||| 1)) % 2 ^ 24) ∧
  (∀ (k : Key) (e : Half), blockValue k e 0 = wheelStep k (epochSeed k e)) ∧
  (∀ (k : Key) (e : Half) (b : Nat), blockValue k e (b + 1) = wheelStep k (blockValue k e b)) ∧
  (∀ (k : Key) (e : Half) (b : Nat), blockValue k e b = (wheelStep k)^[b + 1] (epochSeed k e))

/-- The block whose codes are their own arrival places. -/
abbrev arrivalOrder : Block := #v[0, 1, 2, 3, 4, 5, 6, 7]

/-- R32: the seven swaps; each of the 40,320 values gives a different arrangement, every arrangement is reached, and
only 40,319 gives the arrival order. -/
def Obligations.PermutationNumbersAndArrangements : Prop :=
  (∀ (p : Nat) (b : Block), arrange p b =
    swapCodes (swapCodes (swapCodes (swapCodes (swapCodes (swapCodes (swapCodes b (7, Fin.ofNat 8 (p % 8)))
      (6, Fin.ofNat 8 (p / 8 % 7))) (5, Fin.ofNat 8 (p / 56 % 6))) (4, Fin.ofNat 8 (p / 336 % 5)))
      (3, Fin.ofNat 8 (p / 1680 % 4))) (2, Fin.ofNat 8 (p / 6720 % 3))) (1, Fin.ofNat 8 (p / 20160 % 2))) ∧
  (∀ (b : Block) (i j : Position), (swapCodes b (i, j))[i] = b[j] ∧ (swapCodes b (i, j))[j] = b[i] ∧
    ∀ k : Position, k ≠ i → k ≠ j → (swapCodes b (i, j))[k] = b[k]) ∧
  (∀ p q : Nat, p < 40320 → q < 40320 → arrange p arrivalOrder = arrange q arrivalOrder → p = q) ∧
  (∀ b : Block, b.toList.Perm arrivalOrder.toList → ∃ p < 40320, arrange p arrivalOrder = b) ∧
  (∀ p < 40320, arrange p arrivalOrder = arrivalOrder ↔ p = 40319)

/-- R31, R33, R35: what each mode makes of a block, with the permutation number and the sign mask of its block value.
R34, R35: descrambling with the same block value and mode gives the block back, in every mode, and the other way
round. -/
def Obligations.DescramblingUndoesScrambling : Prop :=
  (∀ (mode : ScrambleMode) (v : WheelWord) (b : Block),
    descrambleBlock mode v (scrambleBlock mode v b) = b ∧ scrambleBlock mode v (descrambleBlock mode v b) = b) ∧
  ∀ (v : WheelWord) (b : Block),
    let word : Nat := v.toNat ^^^ (v.toNat / 512)
    let inverted (block : Block) (i : Position) : Code :=
      if (word / 40320 % 256).testBit i then invertSign block[i] else block[i]
    scrambleBlock .pass v b = b ∧
    (∀ i : Position, (scrambleBlock .invert v b)[i] = inverted b i) ∧
    (∀ i : Position, (scrambleBlock .shuffle v b)[i] = inverted (arrange (word % 40320) b) i)

/-- R37, R43, R44: after a counter load the counters name the block after the completed one, the value found for it
is its block value, and so is the value of every later block, through every epoch boundary. -/
def Obligations.CatchUpFindsTheNextBlock : Prop :=
  ∀ (k : Key) (len : Nat) (e : Half) (b : Nat) (c : Counters), b < len →
    let c' := c.load k len e b
    c'.index < len ∧ (b + 1 < len → c'.epoch = e ∧ c'.index = b + 1) ∧ (b + 1 = len → c'.epoch = e + 1 ∧ c'.index = 0) ∧
    ∀ n : Nat, let d := (Counters.take k len)^[n] c'
      d.index < len ∧ d.nextValue k = blockValue k d.epoch d.index ∧
      d.epoch.toNat * len + d.index = ((e.toNat * len + b + 1 + n) % (65536 * len))

/-- R73, R75, section 12.7: the bytes of each kind of cell, its check byte making their sum 0xA5. R74: a cell built from
its contents is valid and reads back as those contents; which eight bytes are valid, and what is read of them. -/
def Obligations.TrunkCellsReadBack : Prop :=
  let sum (bytes : List Byte) : Byte := bytes.foldl (· + ·) 0
  (parseTrunkCell TrunkCell.idle.build.toList = some .idle ∧ TrunkCell.idle.build = idleTrunkCell ∧
   ∀ tag : Byte, tag ≠ 0 →
    (∀ (e : Half) (i : BitVec 12) (g : Byte), parseTrunkCell (TrunkCell.sync tag e i g).build.toList = some (.sync tag e i g)) ∧
    (∀ (g : Byte) (e : Half), parseTrunkCell (TrunkCell.roll tag g e).build.toList = some (.roll tag g e)) ∧
    parseTrunkCell (TrunkCell.clear tag).build.toList = some (.clear tag)) ∧
  (∀ (tag : Byte) (e : Half) (i : BitVec 12) (g : Byte),
    let field (w : BitVec 40) : List Byte := [32, 24, 16, 8, 0].map fun low => w.extractLsb' low 8
    (TrunkCell.sync tag e i g).build.toList.take 7 = [0xC1, tag] ++ field (e ++ i ++ g ++ (0 : BitVec 4)) ∧
    (TrunkCell.roll tag g e).build.toList.take 7 = [0xC2, tag] ++ field (g ++ e ++ (0 : BitVec 16)) ∧
    (TrunkCell.clear tag).build.toList.take 7 = [0xC3, tag] ++ field 0) ∧
  (∀ cell : TrunkCell, sum cell.build.toList = 0xA5) ∧
  (∀ bytes : List Byte, bytes.length ≠ 8 ∨ sum bytes ≠ 0xA5 → parseTrunkCell bytes = none) ∧
  ∀ kind tag b2 b3 b4 b5 b6 check : Byte,
    let read := parseTrunkCell [kind, tag, b2, b3, b4, b5, b6, check]
    sum [kind, tag, b2, b3, b4, b5, b6, check] = 0xA5 →
    (kind = 0xC0 → read = if tag = 0 then some .idle else none) ∧
    (kind ≠ 0xC0 → tag = 0 → read = none) ∧
    (kind ≠ 0xC0 → kind ≠ 0xC1 → kind ≠ 0xC2 → kind ≠ 0xC3 → read = none) ∧
    (tag ≠ 0 →
      (kind = 0xC1 → read = some (.sync tag (b2 ++ b3) ((b4 ++ b5).extractLsb' 4 12) ((b5 ++ b6).extractLsb' 4 8))) ∧
      (kind = 0xC2 → read = some (.roll tag b2 (b3 ++ b4))) ∧
      (kind = 0xC3 → read = some (.clear tag)))

/-! ### The host link (chapter 12) -/

/-- Section 12.7: the body of every request, written from its arguments, is read back as those arguments. (Of the body
of CONF_JOIN and CONF_LEAVE only the field of the kind named is read: log entry 9.) -/
def Obligations.RequestBodiesReadBack : Prop :=
  (∀ a : LegOpenArgs, a.valid = true → parseLegOpen a.body = some a) ∧
  (∀ n : LegNo, parseLeg [byteOf n] = some n) ∧
  (∀ (n : LegNo) (g : Byte), parseLegLevel [byteOf n, g] = some (n, clampGain g.toInt)) ∧
  (∀ (n : LegNo) (k : KeySetting), k.gen ≠ 0 → parseLegRekey (rekeyBody n k) = some (n, k)) ∧
  (∀ (n : LegNo) (o : Bool), parseLegRead [byteOf n, bitByte o] = some (n, o)) ∧
  (∀ o : Bool, parseOpt [bitByte o] = some o) ∧ parseEmpty [] = some () ∧
  (∀ a : ExtLoadArgs, validNumber a.number = true → parseExtLoad a.body = some a) ∧
  (∀ r : ExtRef, validRef r = true → parseRef true (refField r) = some r) ∧
  (∀ r : ExtRef, validRef r = true → (∀ h, r ≠ .nextAt h) → parseRef false (refField r) = some r) ∧
  (∀ (o : Bool) (changes : List (Slot × Bool)), changes.length ≤ 63 → (∀ c ∈ changes, c.1 ≠ 0) →
    parseSlotMap (slotMapBody o changes) = some (o, changes)) ∧
  (∀ (c : ConfNo) (chair : Option ExtRef), (∀ r, chair = some r → validRef r = true ∧ ∀ h, r ≠ .nextAt h) →
    parseConfOpen (confOpenBody c chair) = some (c, chair)) ∧
  (∀ (c : ConfNo) (n : LegNo), parseConfMember (confMemberBody c (.leg n)) = some (c, .leg n)) ∧
  (∀ (c : ConfNo) (r : ExtRef), validRef r = true → (∀ h, r ≠ .nextAt h) →
    parseConfMember (confMemberBody c (.loc r)) = some (c, .loc r)) ∧
  (∀ c : ConfNo, parseConf [byteOf c] = some c) ∧
  (∀ (c : ConfNo) (o : Bool), parseConfRead [byteOf c, bitByte o] = some (c, o)) ∧
  (∀ (p : ParamId) (v : Half), parseParamSet (paramBody p v) = some (p, v.toNat)) ∧
  (∀ n : Nat, 1 ≤ n → n ≤ 8 → parseFetch [byteOf n] = some n) ∧
  (∀ m : BitVec 32, m.toNat < 2 ^ 22 → parseNoticeMask (1 :: bytes32 m.toNat) = some (some m) ∧
    parseNoticeMask (0 :: bytes32 m.toNat) = some none)

/-- R169, R170: the bytes of a good frame, taken one after another, are the taking of the request they spell, an
unknown code's taking, or, when the check is wrong, a bad frame. (That a request command stands for the taking of its
frame is log entry 10.) The check: initial value 0xFFFF, and for each byte, most significant bit first, the polynomial
0x1021, with no final inversion; and the bytes of a request's frame (section 12.7). -/
def Obligations.LinkBytesAreTheRequest : Prop :=
  (let carry (r : Half) : Half :=
     if 2 ^ 15 ≤ r.toNat then BitVec.ofNat 16 (2 * r.toNat) ^^^ 0x1021 else BitVec.ofNat 16 (2 * r.toNat)
   crc16 [] = 0xFFFF ∧
   ∀ (bytes : List Byte) (b : Byte), crc16 (bytes ++ [b]) = carry^[8] (crc16 bytes ^^^ (b ++ (0 : Byte)))) ∧
  (∀ (code : Byte) (body : List Byte),
    let length : Byte := byteOf (body.length + 1)
    let check : Half := crc16 ([length, code] ++ body)
    requestFrame code body = [0xA7, length, code] ++ body ++ [check.extractLsb' 8 8, check.extractLsb' 0 8]) ∧
  (∀ (c : Instr) (code : Byte) (body : List Byte) (s : State), requestOf c = some (code, body) → bodyFits body = true →
    s.resetAsserted = false → s.link.assembly = .searching →
    takeAll ((requestFrame code body).map .linkByteReceived) s = exec c s) ∧
  (∀ (code : Byte) (body : List Byte) (s : State), knownRequest code = false → bodyFits body = true →
    s.resetAsserted = false → s.link.assembly = .searching →
    takeAll ((requestFrame code body).map .linkByteReceived) s = exec (.unknownRequest code) s) ∧
  (∀ (code c1 c2 : Byte) (body : List Byte) (s : State), bodyFits body = true →
    c1 ++ c2 ≠ crc16 (byteOf (body.length + 1) :: code :: body) →
    s.resetAsserted = false → s.link.assembly = .searching →
    takeAll ((startByte :: byteOf (body.length + 1) :: code :: body ++ [c1, c2]).map .linkByteReceived) s =
      exec .badFrame s)

/-- R170, with R54, R58, R62, R69, R95, R106, R107, R109, R115, R147 to R149, R152, R160, R172, R175 and R176: a body of
any other length than the index gives, and one with an argument out of range, is refused with BAD_ARGUMENT before any
other check and changes nothing. -/
def Obligations.WrongBodyLengthIsBadArgument : Prop :=
  ∀ (c : Instr) (code : Byte) (body : List Byte) (s : State), requestOf c = some (code, body) → s.ready →
    (body.length ≠ requestLength code body → exec c s = .next (s.answered code .badArgument [])) ∧
    (¬ArgumentsFit code body → exec c s = .next (s.answered code .badArgument []))

/-- R169, R170: the link's events: bytes by the state of the assembly, a bad length, a gap, a bad check, an unknown
code. -/
def Obligations.LinkEventsDriveTheAssembly : Prop :=
  ∀ s : State, s.resetAsserted = false →
    (s.link.assembly = .searching → exec (.linkByteReceived 0xA7) s = .next (s.setAssembly .awaitLength)) ∧
    (∀ b, s.link.assembly = .searching → b ≠ 0xA7 → exec (.linkByteReceived b) s = .next s) ∧
    (∀ b, s.link.assembly = .awaitLength → 1 ≤ b.toNat → b.toNat ≤ 250 →
      exec (.linkByteReceived b) s = .next (s.setAssembly (.collecting b []))) ∧
    (∀ b, s.link.assembly = .awaitLength → b.toNat = 0 ∨ 250 < b.toNat →
      exec (.linkByteReceived b) s = .next (s.setAssembly .searching) ∧
      exec (.frameLengthDiscard b) s = .next (s.setAssembly .searching)) ∧
    (∀ len bytes b, s.link.assembly = .collecting len bytes → bytes.length + 1 < len.toNat + 2 →
      exec (.linkByteReceived b) s = .next (s.setAssembly (.collecting len (bytes ++ [b])))) ∧
    exec .frameGapTimeout s = .next (s.setAssembly .searching) ∧
    (s.link.waiting < Config.replyRoom →
      exec .badFrame s = .next ((s.setAssembly .searching).answered 0xFF .badFrame []) ∧
      (∀ code, knownRequest code = false → exec (.unknownRequest code) s = .next (s.answered code .unknownRequest []))) ∧
    replyCode 0xFF = 0xFF ∧ (∀ code : Byte, code.toNat < 128 → (replyCode code).toNat = code.toNat + 128) ∧
    (∀ code : Byte, 128 ≤ code.toNat → replyCode code = 0xFF)

/-- R171: when a reply has left, the next reply made leaves in its order; an outstanding commit reply holds back those
behind it; and a frame that completes while 16 replies wait is discarded: it is not taken and has no reply. R170, section
12.7: the bytes of a reply's frame, and the status codes. (A reply is one item of State, its bytes fixed when it is made:
log entry 28.) -/
def Obligations.RepliesLeaveInOrderAndFramesAreDiscarded : Prop :=
  (∀ status : Status, status.value = match status with
    | .ok => 0 | .staged => 1 | .badFrame => 2 | .unknownRequest => 3 | .badArgument => 4 | .notFound => 5
    | .existing => 6 | .full => 7 | .busy => 8 | .state => 9 | .notAdmitted => 10 | .notPermitted => 11) ∧
  (∀ (code : Byte) (status : Status) (body : List Byte),
    let length : Byte := byteOf (body.length + 2)
    let check : Half := crc16 ([length, code, status.value] ++ body)
    Reply.frame ⟨code, status, body⟩ =
      [0xA7, length, code, status.value] ++ body ++ [check.extractLsb' 8 8, check.extractLsb' 0 8]) ∧
  (∀ s : State, s.resetAsserted = false →
     (∀ r rest, s.link.replies = some r :: rest →
       exec .replyDeparture s = .next { s with link := { s.link with leaving := some r, replies := rest } }) ∧
     (s.link.replies = [] ∨ (∃ rest, s.link.replies = none :: rest) →
       exec .replyDeparture s = .next { s with link := { s.link with leaving := none } }) ∧
     (∀ code st body, s.link.leaving.isSome = true ∨ (∃ rest, s.link.replies = none :: rest) →
       (s.answered code st body).link.replies = s.link.replies ++ [some ⟨replyCode code, st, body⟩] ∧
       (s.answered code st body).link.leaving = s.link.leaving)) ∧
  (∀ s : State, s.resetAsserted = false → Config.replyRoom ≤ s.link.waiting →
     (∀ c, (requestOf c).isSome = true → exec c s = .next s) ∧ (∀ code, exec (.unknownRequest code) s = .next s) ∧
     exec .frameDiscarded s = .next { s with link := { s.link with assembly := .searching } } ∧
     exec .badFrame s = .next { s with link := { s.link with assembly := .searching } })

/-- R174: an enabled notice joins the queue with the line block's stamp, pushing the oldest out at 64 entries; a
disabled one leaves no trace. R176, section 12.7: the bit of the mask that enables each kind; RESTARTED is not subject to
the mask. -/
def Obligations.NoticesJoinTheQueue : Prop :=
  (∀ (u : NoticeUnit) (kind : NoticeKind),
    let bit (index : Nat) : Bool := u.mask.getLsbD index
    u.enabled kind = match kind with
      | .admitted => bit 0 | .refreshed => bit 1 | .admitFailed => bit 2 | .barred => bit 3 | .barEnded => bit 4
      | .admitRefused => bit 5 | .superseded => bit 6 | .strayAnswer => bit 7 | .admissionLost => bit 8
      | .legSynced => bit 9 | .legRealigned => bit 10 | .keyRolled => bit 11 | .keyMissing => bit 12
      | .farCleared => bit 13 | .legClosed => bit 14 | .trunkLocked => bit 15 | .trunkHunt => bit 16 | .slip => bit 17
      | .wander => bit 18 | .confClosed => bit 19 | .confOverload => bit 20 | .confRelieved => bit 21
      | .restarted => true) ∧
  ∀ (s : State) (kind : NoticeKind) (subject : Nat) (detail : Half),
    let e : Notice := { kind := kind, subject := byteOf subject, detail := detail, stamp := s.line.blockCount }
    (s.notices.enabled kind = false → s.notify kind subject detail = s) ∧
    (s.notices.enabled kind = true → s.notices.queue.length < 64 → s.notify kind subject detail =
      { s with notices := { s.notices with queue := s.notices.queue ++ [e], attention := true } }) ∧
    (s.notices.enabled kind = true → s.notices.queue.length = 64 →
      ∃ oldest kept, s.notices.queue = oldest :: kept ∧ s.notify kind subject detail =
        { s with notices := { s.notices with queue := kept ++ [e], overrun := true, attention := true } }) ∧
    s.notices.enabled .restarted = true

/-- R175: NOTICE_FETCH removes and returns up to n of the oldest entries, tells the overrun flag and how many remain,
and clears the flag. R176: NOTICE_MASK with the set option sets the mask; without it nothing changes; a mask with any
of bits 22..31 is refused either way. Section 12.7: the six bytes of an entry, with the code of each kind. -/
def Obligations.NoticeFetchAndMask : Prop :=
  (∀ e : Notice,
    let code : Byte := match e.kind with
      | .admitted => 0x01 | .refreshed => 0x02 | .admitFailed => 0x03 | .barred => 0x04 | .barEnded => 0x05
      | .admitRefused => 0x06 | .superseded => 0x07 | .strayAnswer => 0x08 | .admissionLost => 0x09
      | .legSynced => 0x10 | .legRealigned => 0x11 | .keyRolled => 0x12 | .keyMissing => 0x13 | .farCleared => 0x14
      | .legClosed => 0x15 | .trunkLocked => 0x20 | .trunkHunt => 0x21 | .slip => 0x22 | .wander => 0x23
      | .confClosed => 0x30 | .confOverload => 0x31 | .confRelieved => 0x32 | .restarted => 0x3F
    e.bytes = [code, e.subject, e.detail.extractLsb' 8 8, e.detail.extractLsb' 0 8, e.stamp.extractLsb' 8 8,
      e.stamp.extractLsb' 0 8]) ∧
  ∀ s : State, s.ready →
    (∀ n, 1 ≤ n → n ≤ 8 → exec (.noticeFetch [byteOf n]) s =
      .next (State.answered
        { s with notices := { s.notices with queue := s.notices.queue.drop n, overrun := false,
                                             attention := !(s.notices.queue.drop n).isEmpty } }
        0x1B .ok ([bitByte s.notices.overrun, byteOf (s.notices.queue.length - n),
                   byteOf (min n s.notices.queue.length)] ++ (s.notices.queue.take n).flatMap Notice.bytes))) ∧
    (∀ b, b = 0 ∨ 8 < b.toNat → exec (.noticeFetch [b]) s = .next (s.answered 0x1B .badArgument [])) ∧
    (∀ m : BitVec 32, m.toNat < 2 ^ 22 → exec (.noticeMask (1 :: bytes32 m.toNat)) s =
      .next (State.answered { s with notices := { s.notices with mask := m } } 0x1C .ok (bytes32 m.toNat))) ∧
    (∀ (o : Bool) (m : BitVec 32), 2 ^ 22 ≤ m.toNat → exec (.noticeMask (bitByte o :: bytes32 m.toNat)) s =
      .next (s.answered 0x1C .badArgument [])) ∧
    (∀ m : BitVec 32, m.toNat < 2 ^ 22 → exec (.noticeMask (0 :: bytes32 m.toNat)) s =
      .next (s.answered 0x1C .ok (bytes32 s.notices.mask.toNat)))

/-- R172: each parameter takes its value brought into range, with its owner's effects, and the reply tells the value
in force; a structural parameter is not changed while a leg is not FREE. -/
def Obligations.ParamSetTakesTheValueInRange : Prop :=
  ∀ (s : State) (v : Half), s.ready →
    (∀ len, len = clampNat 64 4096 v.toNat → len = s.params.epochLength ∨ (∀ n : LegNo, s.legs[n] = none) →
      exec (.paramSet (paramBody .epochLength v)) s = .next
        (State.answered { s with params := { s.params with epochLength := len } } 0x19 .ok (bytes16 len))) ∧
    (∀ n : LegNo, s.legs[n] ≠ none → clampNat 64 4096 v.toNat ≠ s.params.epochLength →
      exec (.paramSet (paramBody .epochLength v)) s = .next (s.answered 0x19 .busy [])) ∧
    (∀ m : TrunkTiming, v.toNat = m.value.toNat → s.params.timing = m →
      exec (.paramSet (paramBody .timing v)) s = .next (s.answered 0x19 .ok [0, m.value])) ∧
    (∀ m : TrunkTiming, v.toNat = m.value.toNat → s.params.timing ≠ m → (∀ n : LegNo, s.legs[n] = none) →
      exec (.paramSet (paramBody .timing v)) s = .next (State.answered
        { s with params := { s.params with timing := m }, trunk := { s.trunk with store := [], primed := false } }
        0x19 .ok [0, m.value])) ∧
    (∀ (m : TrunkTiming) (n : LegNo), v.toNat = m.value.toNat → s.params.timing ≠ m → s.legs[n] ≠ none →
      exec (.paramSet (paramBody .timing v)) s = .next (s.answered 0x19 .busy [])) ∧
    (2 ≤ v.toNat → exec (.paramSet (paramBody .timing v)) s = .next (s.answered 0x19 .badArgument [])) ∧
    exec (.paramSet (paramBody .answerTimeout v)) s = .next (State.answered
      { s with params := { s.params with answerTimeout := clampNat 100 10000 v.toNat } }
      0x19 .ok (bytes16 (clampNat 100 10000 v.toNat))) ∧
    exec (.paramSet (paramBody .barTime v)) s = .next (State.answered
      { s with params := { s.params with barTime := clampNat 1 3600 v.toNat } }
      0x19 .ok (bytes16 (clampNat 1 3600 v.toNat))) ∧
    exec (.paramSet (paramBody .seed v)) s = .next (State.answered
      { s with params := { s.params with seed := v }, ext := { s.ext with generator := v } } 0x19 .ok (bytes16 v.toNat)) ∧
    exec (.paramSet (paramBody .stride v)) s = .next (State.answered
      { s with params := { s.params with stride := v ||| 1 } } 0x19 .ok (bytes16 (v ||| 1).toNat)) ∧
    (∃ t, exec (.paramSet (paramBody .refreshInterval v)) s = .next
        (State.answered t 0x19 .ok (bytes16 t.params.refreshInterval)) ∧
      t.params = { s.params with refreshInterval := t.params.refreshInterval } ∧
      t.params.refreshInterval = (if v.toNat = 0 then 0 else clampNat 10 3600 v.toNat) ∧
      t = { s with params := t.params, ext := { s.ext with records := t.ext.records } } ∧
      ∀ h, t.record h = (s.record h).map fun r =>
        { r with state := match r.state with
                          | .admitted k x => .admitted k (if v.toNat = 0 then none else x)
                          | a => a }) ∧
    (∃ t, exec (.paramSet (paramBody .failureLimit v)) s = .next
        (State.answered t 0x19 .ok (bytes16 t.params.failureLimit)) ∧
      t.params = { s.params with failureLimit := clampNat 1 15 v.toNat } ∧
      t = { s with params := t.params, ext := { s.ext with records := t.ext.records } } ∧
      ∀ h, t.record h =
        if clampNat 1 15 v.toNat = s.params.failureLimit then s.record h
        else (s.record h).map fun r =>
          { r with failures := if r.state.isBarred then clampNat 1 15 v.toNat
                               else min r.failures (clampNat 1 15 v.toNat - 1) }) ∧
    (∀ id : Byte, id = 0 ∨ 8 < id.toNat →
      exec (.paramSet (id :: bytes16 v.toNat)) s = .next (s.answered 0x19 .badArgument []))

/-- R173: PARAM_READ answers the eight parameters in identifier order and changes nothing. -/
def Obligations.ParamReadReportsAllEight : Prop :=
  ∀ s : State, s.ready → exec (.paramRead []) s = .next (s.answered 0x1A .ok
    (bytes16 s.params.epochLength ++ bytes16 (match s.params.timing with | .locked => 0 | .independent => 1) ++
     bytes16 s.params.answerTimeout ++ bytes16 s.params.barTime ++ bytes16 s.params.refreshInterval ++
     bytes16 s.params.failureLimit ++ bytes16 s.params.seed.toNat ++ bytes16 s.params.stride.toNat))

/-- R177, with R15, R72, R94, R117, R134, R161 and R168: what RESTART clears and keeps. (That an arrival not yet taken,
the departures due and the cells being sent are kept is log entry 29.) -/
def Obligations.RestartClearsAndKeeps : Prop :=
  ∀ s : State, s.ready → ∃ t, exec (.restart []) s = .next t ∧
    (∀ n : LegNo, t.legs[n] = none) ∧ t.framer = Framer.reset ∧ t.cellQueue = [] ∧ t.admQueue = [] ∧
    (∀ c : ConfNo, t.confs[c] = none) ∧ t.hold = .closed ∧
    t.line = { s.line with outMap := t.line.outMap } ∧ (∀ k : Slot, t.line.outMap[k] = .vacant) ∧
    t.trunk = { s.trunk with netSlips := 0, lastDirection := none, changes := 0, changeFlag := false } ∧
    t.ext.listen = s.ext.listen ∧ t.ext.ignoredCells = 0 ∧ t.ext.badCells = 0 ∧ t.ext.generator = s.ext.generator ∧
    (∀ h, t.record h = (s.record h).map fun r =>
      { r with state := match r.state with
                        | .barred timer => .barred timer
                        | .suspended => .suspended
                        | _ => .idle }) ∧
    t.notices = { s.notices with queue := [⟨.restarted, 0, 0, s.line.blockCount⟩], overrun := false, attention := true } ∧
    t.params = s.params ∧ t.resetAsserted = false ∧ t.pending = s.pending ∧ t.link.assembly = s.link.assembly ∧
    (s.hold.mark = .absent → t.link = (s.answered 0x1D .ok []).link) ∧
    (s.hold.mark ≠ .absent → ∀ before rest, s.link.leaving.isSome = true → s.link.replies = before ++ none :: rest →
      (∀ r ∈ before, r.isSome = true) →
      t.link.replies = before ++ some ⟨0x97, .state, []⟩ :: rest ++ [some ⟨0x9D, .ok, []⟩] ∧
      t.link.leaving = s.link.leaving) ∧
    (s.hold.mark ≠ .absent → ∀ rest, s.link.leaving = none → s.link.replies = none :: rest →
      t.link.leaving = some ⟨0x97, .state, []⟩ ∧ t.link.replies = rest ++ [some ⟨0x9D, .ok, []⟩])


/-! ### Call legs (chapters 4 and 6) -/

/-- R54 to R56: the checks of LEG_OPEN in their order, the first that fails deciding the reply and changing nothing; and,
with every check passed, the leg opened WAITING with the record of R55, LINE where it is asked for and the owner is in
no conference, the map entry passing directly from the leg parked to make way. -/
def Obligations.LegOpenChecksThenOpens : Prop :=
  (∀ (s : State) (body : List Byte), s.ready →
     (body.length = 26 →
       32 ≤ (byteAt body 0).toNat ∨ numberAt body 1 = none ∨ byteAt body 5 = 0 ∨ 63 < (byteAt body 5).toNat ∨
       1 < (byteAt body 6).toNat ∨ (byteAt body 6 = 1 ∧ byteAt body 7 = 0) ∨ byteAt body 8 = 0 ∨
       2 < (byteAt body 9).toNat ∨ 1 < (byteAt body 25).toNat →
       exec (.legOpen body) s = .next (s.answered 0x01 .badArgument [])) ∧
     ∀ a : LegOpenArgs, parseLegOpen body = some a →
       let tag := a.farTag.getD (byteOf a.slot)
       let clash := ∃ (m : LegNo) (k : Leg), s.legs[m] = some k ∧ (k.slot = a.slot ∨ k.receiveTag = tag)
       (s.legs[a.leg] ≠ none → exec (.legOpen body) s = .next (s.answered 0x01 .busy [])) ∧
       (s.legs[a.leg] = none → clash → exec (.legOpen body) s = .next (s.answered 0x01 .existing [])) ∧
       (s.legs[a.leg] = none → ¬clash → s.findNumber a.owner = none →
         exec (.legOpen body) s = .next (s.answered 0x01 .notFound [])) ∧
       (∀ h, s.legs[a.leg] = none → ¬clash → s.findNumber a.owner = some h →
         s.admittedWith h (fun _ => true) = false → exec (.legOpen body) s = .next (s.answered 0x01 .notAdmitted [])) ∧
       (∀ h, s.legs[a.leg] = none → ¬clash → s.findNumber a.owner = some h →
         s.admittedWith h (fun _ => true) = true → s.admittedWith h (·.mayScramble) = false →
         exec (.legOpen body) s = .next (s.answered 0x01 .notPermitted []))) ∧
  (∀ (s : State) (body : List Byte) (a : LegOpenArgs) (h : Handle), s.ready → parseLegOpen body = some a →
     s.legs[a.leg] = none →
     (∀ (m : LegNo) (k : Leg), s.legs[m] = some k → k.slot ≠ a.slot ∧ k.receiveTag ≠ a.farTag.getD (byteOf a.slot)) →
     s.findNumber a.owner = some h → s.admittedWith h (·.mayScramble) = true →
     (a.connect = false ∨ (s.localConf h).isSome = true → exec (.legOpen body) s = .next (State.answered
       { s with legs := s.legs.set a.leg (some (a.record h .parked)) } 0x01 .ok [0, 0xFF])) ∧
     (∀ slot, a.connect = true → s.localConf h = none → s.boundSlot h = some slot → s.lineLegOf h = none →
       exec (.legOpen body) s = .next (State.answered
         { s with legs := s.legs.set a.leg (some (a.record h .line))
                  line := { s.line with outMap := s.line.outMap.set slot (.leg a.leg) } } 0x01 .ok [1, 0xFF])) ∧
     (∀ slot m k, a.connect = true → s.localConf h = none → s.boundSlot h = some slot → s.lineLegOf h = some m →
       s.legs[m] = some k → exec (.legOpen body) s = .next (State.answered
         { s with legs := (s.legs.set m (some { k with endpoint := .parked })).set a.leg (some (a.record h .line))
                  line := { s.line with outMap := s.line.outMap.set slot (.leg a.leg) } } 0x01 .ok [1, byteOf m])) ∧
     (∀ ep, a.record h ep =
       { state := .waiting, owner := h, slot := a.slot, farTag := a.farTag, endpoint := ep
         txKey := ⟨a.setting.gen, a.setting.mode, a.setting.scramble⟩
         rxKey := ⟨a.setting.gen, a.setting.mode, a.setting.descramble⟩
         pendingKey := none, switchEpoch := none, announced := none
         tx := ⟨a.epoch, 0, 0⟩, rx := ⟨0, 0, 0⟩, gain := a.gain, realigns := 0, mutedBlocks := 0, skippedSyncs := 0
         wantsRoll := false, wantsClear := false, gathering := false, txAssembly := [], gathered := none
         emission := none, rxAssembly := [], rxOutput := [] }))

/-- R62, R63: LEG_CLOSE puts an open leg into CLEARING by the six steps, and changes nothing of a leg in CLEARING. -/
def Obligations.LegCloseClearsTheLeg : Prop :=
  ∀ (s : State) (body : List Byte) (n : LegNo), s.ready → parseLeg body = some n →
    (s.legs[n] = none → exec (.legClose body) s = .next (s.answered 0x02 .state [])) ∧
    (∀ l c, s.legs[n] = some l → l.state = .clearing c → exec (.legClose body) s = .next (s.answered 0x02 .ok [])) ∧
    (∀ l, s.legs[n] = some l → l.state.isOpen = true →
      let kept := s.cellQueue.filter fun r => decide (r.leg ≠ n ∨ r.kind = .clear)
      ∃ t : State, exec (.legClose body) s = .next (t.answered 0x02 .ok []) ∧
        t.legs = s.legs.set n (some { l with
          state := .clearing .host, endpoint := .parked, pendingKey := none, switchEpoch := none, announced := none
          wantsRoll := false, wantsClear := decide (16 ≤ kept.length), gathering := false, txAssembly := []
          gathered := none, emission := none, rxAssembly := [] }) ∧
        t.cellQueue = (if kept.length < 16 then kept ++ [⟨.clear, n⟩] else kept) ∧
        (l.endpoint = .parked → t.line = s.line ∧ t.confs = s.confs) ∧
        (∀ k, l.endpoint = .line → s.boundSlot l.owner = some k → s.line.outMap[k] = .leg n →
          t.line = { s.line with outMap := s.line.outMap.set k .vacant } ∧ t.confs = s.confs) ∧
        (∀ c k, l.endpoint = .conference c → s.confs[c] = some k →
          t.line = s.line ∧ t.confs = s.confs.set c (some
            { k with members := k.members.erase (.leg n), mixSet := k.mixSet.map (·.erase (.leg n)) })) ∧
        t = { s with legs := t.legs, cellQueue := t.cellQueue, line := t.line, confs := t.confs })

/-- R58: LEG_CONNECT, taken while the hold is CLOSED. -/
def Obligations.LegConnectTakesTheOwnersSlot : Prop :=
  ∀ (s : State) (body : List Byte) (n : LegNo), s.ready → s.hold = .closed → parseLeg body = some n →
    (s.legs[n] = none ∨ (∃ l, s.legs[n] = some l ∧ (l.state.isOpen = false ∨ ∃ c, l.endpoint = .conference c)) →
      exec (.legConnect body) s = .next (s.answered 0x03 .state [])) ∧
    (∀ l, s.legs[n] = some l → l.state.isOpen = true → (∀ c, l.endpoint ≠ .conference c) →
      (s.localConf l.owner).isSome = true → exec (.legConnect body) s = .next (s.answered 0x03 .busy [])) ∧
    (∀ l, s.legs[n] = some l → l.state.isOpen = true → l.endpoint = .line → s.localConf l.owner = none →
      exec (.legConnect body) s = .next (s.answered 0x03 .ok [0xFF])) ∧
    (∀ l slot, s.legs[n] = some l → l.state.isOpen = true → l.endpoint = .parked → s.localConf l.owner = none →
      s.boundSlot l.owner = some slot →
      (s.lineLegOf l.owner = none → exec (.legConnect body) s = .next (State.answered
        { s with legs := s.legs.set n (some { l with endpoint := .line })
                 line := { s.line with outMap := s.line.outMap.set slot (.leg n) } } 0x03 .ok [0xFF])) ∧
      (∀ m k, s.lineLegOf l.owner = some m → s.legs[m] = some k → exec (.legConnect body) s = .next (State.answered
        { s with legs := (s.legs.set m (some { k with endpoint := .parked })).set n (some { l with endpoint := .line })
                 line := { s.line with outMap := s.line.outMap.set slot (.leg n) } } 0x03 .ok [byteOf m])))

/-- R59, R60: LEG_PARK and LEG_LEVEL, taken while the hold is CLOSED. -/
def Obligations.LegParkAndLevelChangeTheLeg : Prop :=
  ∀ (s : State), s.ready → s.hold = .closed →
    (∀ body n, parseLeg body = some n →
      (s.legs[n] = none ∨ (∃ l, s.legs[n] = some l ∧ (l.state.isOpen = false ∨ ∃ c, l.endpoint = .conference c)) →
        exec (.legPark body) s = .next (s.answered 0x04 .state [])) ∧
      (∀ l, s.legs[n] = some l → l.state.isOpen = true → l.endpoint = .parked →
        exec (.legPark body) s = .next (s.answered 0x04 .ok [])) ∧
      (∀ l k, s.legs[n] = some l → l.state.isOpen = true → l.endpoint = .line → s.boundSlot l.owner = some k →
        s.line.outMap[k] = .leg n → exec (.legPark body) s = .next (State.answered
          { s with legs := s.legs.set n (some { l with endpoint := .parked })
                   line := { s.line with outMap := s.line.outMap.set k .vacant } } 0x04 .ok []))) ∧
    (∀ body n g, parseLegLevel body = some (n, g) →
      (s.legs[n] = none ∨ (∃ l, s.legs[n] = some l ∧ l.state.isOpen = false) →
        exec (.legLevel body) s = .next (s.answered 0x05 .state [])) ∧
      (∀ l, s.legs[n] = some l → l.state.isOpen = true → -6 ≤ g ∧ g ≤ 6 ∧
        exec (.legLevel body) s = .next (State.answered
          { s with legs := s.legs.set n (some { l with gain := g }) } 0x05 .ok [byteOfInt g])))

/-- R95, R96: LEG_REKEY makes the setting the pending key and asks for a ROLL, or is refused by its checks in order. -/
def Obligations.LegRekeySetsThePendingKey : Prop :=
  ∀ (s : State) (body : List Byte) (n : LegNo) (k : KeySetting), s.ready → parseLegRekey body = some (n, k) →
    (s.legs[n] = none ∨ (∃ l, s.legs[n] = some l ∧ l.state.isOpen = false) →
      exec (.legRekey body) s = .next (s.answered 0x06 .state [])) ∧
    (∀ l, s.legs[n] = some l → l.state.isOpen = true → k.gen = l.txKey.gen →
      exec (.legRekey body) s = .next (s.answered 0x06 .badArgument [])) ∧
    (∀ l, s.legs[n] = some l → l.state.isOpen = true → k.gen ≠ l.txKey.gen → l.pendingKey.isSome = true →
      l.state ≠ .holding (.key k.gen) → exec (.legRekey body) s = .next (s.answered 0x06 .busy [])) ∧
    (∀ l, s.legs[n] = some l → l.state.isOpen = true → k.gen ≠ l.txKey.gen →
      l.pendingKey = none ∨ l.state = .holding (.key k.gen) →
      let given := { l with pendingKey := some k,
                            switchEpoch := if l.state = .holding (.key k.gen) then none else l.switchEpoch }
      (⟨.roll, n⟩ ∈ s.cellQueue → exec (.legRekey body) s =
        .next (State.answered { s with legs := s.legs.set n (some given) } 0x06 .ok [0])) ∧
      (⟨.roll, n⟩ ∉ s.cellQueue → l.wantsRoll = true → exec (.legRekey body) s =
        .next (State.answered { s with legs := s.legs.set n (some given) } 0x06 .ok [1])) ∧
      (⟨.roll, n⟩ ∉ s.cellQueue → l.wantsRoll = false → s.cellQueue.length < 16 → exec (.legRekey body) s =
        .next (State.answered { s with legs := s.legs.set n (some given), cellQueue := s.cellQueue ++ [⟨.roll, n⟩] }
          0x06 .ok [0])) ∧
      (⟨.roll, n⟩ ∉ s.cellQueue → l.wantsRoll = false → 16 ≤ s.cellQueue.length → exec (.legRekey body) s =
        .next (State.answered { s with legs := s.legs.set n (some { given with wantsRoll := true }) } 0x06 .ok [1])))

/-- R69, R70, R93, R14, R109, R160, section 12.7: the reads answer every field of the record as it stands, in its place
in the reply, an absent one as 0, and clear what their option names. -/
def Obligations.ReadsReportAndClear : Prop :=
  let bits (present : List Bool) : Byte :=
    byteOf ((present.zipIdx.map fun p => if p.1 then 2 ^ p.2 else 0).sum)
  let legBody (l : Leg) : List Byte :=
    let held : Option HoldReason := match l.state with | .holding r => some r | _ => none
    let closing : Option CloseCause := match l.state with | .clearing c => some c | _ => none
    let awaited : Option Byte := match l.state with | .holding (.key g) => some g | _ => none
    let conf : Option ConfNo := match l.endpoint with | .conference c => some c | _ => none
    let modeByte : ScrambleMode → Byte := fun | .pass => 0 | .invert => 1 | .shuffle => 2
    [match l.state with | .waiting => 1 | .running => 2 | .holding _ => 3 | .clearing _ => 4,
     bits [held.isSome, closing.isSome, awaited.isSome, l.farTag.isSome, conf.isSome, l.pendingKey.isSome,
       l.switchEpoch.isSome, l.announced.isSome],
     match held with | some (.key _) => 1 | some .farCleared => 2 | _ => 0,
     match closing with | some .fault => 1 | _ => 0,
     awaited.getD 0, byteOf l.owner, byteOf l.slot, l.farTag.getD 0, l.farTag.getD (byteOf l.slot),
     match l.endpoint with | .parked => 0 | .line => 1 | .conference _ => 2,
     match conf with | some c => byteOf c | none => 0,
     l.txKey.gen, modeByte l.txKey.mode, l.rxKey.gen, modeByte l.rxKey.mode,
     match l.pendingKey with | some p => p.gen | none => 0,
     match l.pendingKey with | some p => modeByte p.mode | none => 0] ++
    bytes16 (l.switchEpoch.getD 0).toNat ++
    (match l.announced with | some r => r.gen :: bytes16 r.epoch.toNat | none => [0, 0, 0]) ++
    bytes16 l.tx.epoch.toNat ++ bytes16 l.tx.index ++ bytes16 l.rx.epoch.toNat ++ bytes16 l.rx.index ++
    [BitVec.ofInt 8 l.gain] ++ bytes16 l.realigns ++ bytes16 l.mutedBlocks ++ bytes16 l.skippedSyncs ++
    [bits [l.wantsRoll, l.wantsClear]]
  let extBody (h : Handle) (r : ExtRecord) (count limit : Nat) : List Byte :=
    let digit (i : Nat) : BitVec 4 := r.number.getD i 0xF
    let slot : Option Slot := r.state.slot?
    let challenge : Option (Half × Nat) :=
      match r.state with | .challenged _ n x => some (n, x) | .refreshing _ n x => some (n, x) | _ => none
    let bar : Option Nat := match r.state with | .barred x => some x | _ => none
    let refresh : Option Nat := match r.state with | .admitted _ x => x | _ => none
    [byteOf h, byteOf r.number.length, digit 0 ++ digit 1, digit 2 ++ digit 3, digit 4 ++ digit 5,
     bits [r.cls.mayScramble, r.cls.mayConference, r.cls.refresh], byteOf r.group,
     match r.scope with | .leg => 0 | .call => 1 | .group => 2,
     match r.state with
       | .idle => 0 | .challenged _ _ _ => 1 | .admitted _ _ => 2 | .refreshing _ _ _ => 3 | .barred _ => 4 | .suspended => 5,
     byteOf r.failures, bits [slot.isSome, challenge.isSome, challenge.isSome, bar.isSome, refresh.isSome],
     match slot with | some k => byteOf k | none => 0] ++
    (match challenge with | some (n, x) => bytes16 n.toNat ++ bytes16 x | none => [0, 0, 0, 0]) ++
    bytes32 (bar.getD 0) ++ bytes32 (refresh.getD 0) ++ bytes16 count ++ [byteOf limit]
  let confBody (k : Conf) : List Byte :=
    [1] ++ (match k.chair with | some h => [1, byteOf h] | none => [0, 0]) ++ [byteOf k.members.length] ++
    k.members.flatMap (fun | .leg n => [0, byteOf n] | .loc h => [1, byteOf h]) ++
    [byteOf k.governor, byteOf k.attenuation, bitByte k.overload] ++ bytes16 k.clippedBlocks
  (∀ a : Admission, a.slot? =
    match a with | .challenged k _ _ => some k | .admitted k _ => some k | .refreshing k _ _ => some k | _ => none) ∧
  ∀ s : State, s.ready →
    let records : Nat := ((List.finRange 256).filter fun h => (s.record h).isSome).length
    let free : Nat := 32 - ((List.finRange 8).map fun c => match s.confs[c] with | some k => k.members.length | none => 0).sum
    (∀ body n o, parseLegRead body = some (n, o) → s.legs[n] = none →
      exec (.legRead body) s = .next (s.answered 0x07 .ok [0])) ∧
    (∀ body n o l, parseLegRead body = some (n, o) → s.legs[n] = some l → exec (.legRead body) s =
      .next (State.answered
        { s with legs := if o then s.legs.set n (some { l with realigns := 0, mutedBlocks := 0, skippedSyncs := 0 })
                         else s.legs } 0x07 .ok (legBody l))) ∧
    (∀ o : Bool, exec (.trunkRead [bitByte o]) s = .next (State.answered
      { s with trunk := { s.trunk with changeFlag := false, changes := 0, netSlips := if o then 0 else s.trunk.netSlips }
               framer := if o then { s.framer with badCells := 0, unknownTags := 0, skippedSyncs := 0 } else s.framer }
      0x08 .ok
      ((match s.framer.mode with | .hunt => [0, 0xFF] | .presync p => [1, byteOf p] | .sync p => [2, byteOf p]) ++
       [byteOf s.framer.badRun, (match s.params.timing with | .locked => 0 | .independent => 1),
        byteOf s.cellQueue.length] ++ bytes16 (BitVec.ofInt 16 s.trunk.netSlips).toNat ++
       [(match s.trunk.lastDirection with | none => 0 | some .plus => 1 | some .minus => 0xFF),
        bitByte s.trunk.changeFlag] ++ bytes16 s.framer.badCells ++ bytes16 s.framer.unknownTags ++
       bytes16 s.framer.skippedSyncs))) ∧
    (∀ body ref h r, parseRef true body = some ref → s.lookup ref = some h → s.record h = some r →
      exec (.extRead body) s = .next (s.answered 0x0B .ok (extBody h r records s.params.failureLimit))) ∧
    (∀ body ref, parseRef true body = some ref → s.lookup ref = none →
      exec (.extRead body) s = .next (s.answered 0x0B .notFound [])) ∧
    (∀ (h k : Handle) (r : ExtRecord), s.record h = some r → k ≤ h → (∀ j : Handle, k ≤ j → j < h → s.record j = none) →
      s.lookup (.nextAt k) = some h) ∧
    (∀ body c o, parseConfRead body = some (c, o) → s.confs[c] = none →
      exec (.confRead body) s = .next (s.answered 0x15 .ok [byteOf free, 0])) ∧
    (∀ body c o k, parseConfRead body = some (c, o) → s.confs[c] = some k → exec (.confRead body) s =
      .next (State.answered { s with confs := if o then s.confs.set c (some { k with clippedBlocks := 0 }) else s.confs }
        0x15 .ok (byteOf free :: confBody k)))

/-- R69, R104, R109: no reply to any host request depends on a key, a wheel value or a credential: a part that differs
only in those answers every request alike and stays alike. -/
def Obligations.NoReplyDependsOnASecret : Prop :=
  ∀ (c : Instr) (s t : State), (requestOf c).isSome = true → exec c s = .next t →
    ∃ u, exec c s.withoutSecrets = .next u ∧ u.link = t.link ∧ u.withoutSecrets = t.withoutSecrets

/-! ### Scrambling and the trunk (chapters 1, 3, 5 and 6) -/

/-- R39, R37, R57, R97, R79: a leg that holds a complete gathered block scrambles it, makes the transmit switch that is
due, and asks for a SYNC at a transmit epoch start, which is skipped where the queue is full. (A leg without a gathered
block: log entry 3; a matching switch epoch without a pending key: log entry 32.) -/
def Obligations.LegBlockScrambled : Prop :=
  ∀ (s : State) (n : LegNo) (l : Leg), s.resetAsserted = false → s.legs[n] = some l →
    (l.gathered = none ∨ l.state.isOpen = false → exec (.legBlockScramble n) s = .next s) ∧
    (∀ b, l.gathered = some b → l.state.isOpen = true →
      let sent (key : DirKey) (v : WheelWord) (l : Leg) : Leg :=
        { l with gathered := none
                 emission := some ⟨l.tx.epoch, l.tx.index, key.gen, scrambleBlock key.mode v b⟩
                 tx := Counters.advance s.params.epochLength { l.tx with wheel := v } }
      (l.tx.index ≠ 0 → exec (.legBlockScramble n) s =
        .next { s with legs := s.legs.set n (some (sent l.txKey (wheelStep l.txKey.key l.tx.wheel) l)) }) ∧
      (l.tx.index = 0 → l.switchEpoch ≠ some l.tx.epoch ∨ l.pendingKey = none →
        let l' := sent l.txKey (wheelStep l.txKey.key (epochSeed l.txKey.key l.tx.epoch)) l
        (⟨.sync, n⟩ ∈ s.cellQueue →
          exec (.legBlockScramble n) s = .next { s with legs := s.legs.set n (some l') }) ∧
        (⟨.sync, n⟩ ∉ s.cellQueue → s.cellQueue.length < 16 → exec (.legBlockScramble n) s =
          .next { s with legs := s.legs.set n (some l'), cellQueue := s.cellQueue ++ [⟨.sync, n⟩] }) ∧
        (⟨.sync, n⟩ ∉ s.cellQueue → 16 ≤ s.cellQueue.length → exec (.legBlockScramble n) s =
          .next { s with legs := s.legs.set n (some { l' with skippedSyncs := bump l.skippedSyncs })
                         framer := { s.framer with skippedSyncs := bump s.framer.skippedSyncs } })) ∧
      (∀ p, l.tx.index = 0 → l.switchEpoch = some l.tx.epoch → l.pendingKey = some p →
        let key : DirKey := ⟨p.gen, p.mode, p.scramble⟩
        let l' := sent key (wheelStep p.scramble (epochSeed p.scramble l.tx.epoch))
          { l with txKey := key, switchEpoch := none
                   pendingKey := if l.rxKey.gen = p.gen then none else some p }
        let rolled (u : State) : State := u.notify .keyRolled n (p.gen.setWidth 16)
        (⟨.sync, n⟩ ∈ s.cellQueue →
          exec (.legBlockScramble n) s = .next (rolled { s with legs := s.legs.set n (some l') })) ∧
        (⟨.sync, n⟩ ∉ s.cellQueue → s.cellQueue.length < 16 → exec (.legBlockScramble n) s =
          .next (rolled { s with legs := s.legs.set n (some l'), cellQueue := s.cellQueue ++ [⟨.sync, n⟩] })) ∧
        (⟨.sync, n⟩ ∉ s.cellQueue → 16 ≤ s.cellQueue.length → exec (.legBlockScramble n) s =
          .next (rolled { s with legs := s.legs.set n (some { l' with skippedSyncs := bump l.skippedSyncs })
                                 framer := { s.framer with skippedSyncs := bump s.framer.skippedSyncs } }))))

/-- R75, R77, R78, R64: the departure at a trunk transmit block start, while no leg wants to queue. (The generation sent
where a switch epoch stands without a pending key: log entry 32.) -/
def Obligations.TrunkCellDeparts : Prop :=
  ∀ s : State, s.resetAsserted = false → s.trunk.cellDue = true →
    (∀ (n : LegNo) (l : Leg), s.legs[n] = some l → l.wantsRoll = false ∧ l.wantsClear = false) →
    let sending (cell : Cell) (t : State) : State := { t with trunk := { t.trunk with cellDue := false, cellOut := cell } }
    (s.cellQueue = [] → exec .trunkCellDeparture s = .next (sending idleTrunkCell s)) ∧
    (∀ n l e rest, s.cellQueue = ⟨.sync, n⟩ :: rest → s.legs[n] = some l → l.gathered = none → l.emission = some e →
      exec .trunkCellDeparture s = .next (sending
        (TrunkCell.sync (byteOf l.slot) e.epoch (BitVec.ofNat 12 e.index) e.gen).build { s with cellQueue := rest })) ∧
    (∀ n l b rest, s.cellQueue = ⟨.sync, n⟩ :: rest → s.legs[n] = some l → l.gathered = some b →
      exec .trunkCellDeparture s = .next (sending
        (TrunkCell.sync (byteOf l.slot) l.tx.epoch (BitVec.ofNat 12 l.tx.index)
          (if l.tx.index = 0 ∧ l.switchEpoch = some l.tx.epoch then (l.pendingKey.map (·.gen)).getD l.txKey.gen
           else l.txKey.gen)).build { s with cellQueue := rest })) ∧
    (∀ n l p e rest, s.cellQueue = ⟨.roll, n⟩ :: rest → s.legs[n] = some l → l.pendingKey = some p →
      l.gathered = none → l.emission = some e ∨ (l.emission = none ∧ e = ⟨l.tx.epoch, l.tx.index, l.txKey.gen, silentBlock⟩) →
      exec .trunkCellDeparture s = .next (sending (TrunkCell.roll (byteOf l.slot) p.gen (e.epoch + 2)).build
        { s with cellQueue := rest, legs := s.legs.set n (some { l with switchEpoch := some (e.epoch + 2) }) })) ∧
    (∀ n l p b rest, s.cellQueue = ⟨.roll, n⟩ :: rest → s.legs[n] = some l → l.pendingKey = some p → l.gathered = some b →
      exec .trunkCellDeparture s = .next (sending (TrunkCell.roll (byteOf l.slot) p.gen (l.tx.epoch + 2)).build
        { s with cellQueue := rest, legs := s.legs.set n (some { l with switchEpoch := some (l.tx.epoch + 2) }) })) ∧
    (∀ n l cause rest, s.cellQueue = ⟨.clear, n⟩ :: rest → s.legs[n] = some l → l.state = .clearing cause →
      exec .trunkCellDeparture s = .next (sending (TrunkCell.clear (byteOf l.slot)).build
        (State.notify { s with cellQueue := rest, legs := s.legs.set n none } .legClosed n
          (match cause with | .host => 0 | .fault => 1))))

/-- R79: after a departure the legs that wait are served in leg-number order while the queue has room: the legs served
are the lowest-numbered of those that wait, each for the request its flag stands for, and their flags are cleared; the
others keep theirs, and only where the queue is full again. (A leg that the departure itself makes FREE, R64, does not
wait.) -/
def Obligations.WaitingLegsAreServed : Prop :=
  ∀ s : State, s.resetAsserted = false → s.trunk.cellDue = true → s.cellQueue.length ≤ 16 →
    (∀ (n : LegNo) (l : Leg), s.legs[n] = some l → ¬(l.wantsRoll = true ∧ l.wantsClear = true)) →
    let freed (n : LegNo) : Prop :=
      s.cellQueue.head? = some ⟨.clear, n⟩ ∧ ∃ l c, s.legs[n] = some l ∧ l.state = .clearing c
    let waits (n : LegNo) (kind : RequestKind) : Prop := ¬freed n ∧ ∃ l, s.legs[n] = some l ∧
      ((kind = .clear ∧ l.wantsClear = true) ∨ (kind = .roll ∧ l.wantsRoll = true))
    ∃ t, exec .trunkCellDeparture s = .next t ∧ t.cellQueue.length ≤ 16 ∧
      (∀ (n : LegNo) (l : Leg), t.legs[n] = some l → l.wantsRoll = true ∨ l.wantsClear = true → t.cellQueue.length = 16) ∧
      ∃ served : List CellRequest, t.cellQueue = s.cellQueue.drop 1 ++ served ∧
        (served.map (·.leg.val)).Pairwise (· < ·) ∧
        (∀ r ∈ served, waits r.leg r.kind ∧ ∃ l, t.legs[r.leg] = some l ∧ l.wantsRoll = false ∧ l.wantsClear = false) ∧
        (∀ (n : LegNo) (kind : RequestKind), waits n kind → ⟨kind, n⟩ ∉ served →
          t.cellQueue.length = 16 ∧ ∀ r ∈ served, r.leg < n) ∧
        (∀ n : LegNo, (freed n ∨ s.legs[n] = none → t.legs[n] = none) ∧
          (∀ l, s.legs[n] = some l → ¬freed n → (∀ r ∈ served, r.leg ≠ n) →
            ∃ k, t.legs[n] = some k ∧ k.wantsRoll = l.wantsRoll ∧ k.wantsClear = l.wantsClear))

/-- R13: what every slip records and queues. R85, R86: a slip in SYNC moves the phase once, towards a block of 7 or 9
frames, and a second slip only marks it; in PRESYNC it returns the framer to HUNT and empties the legs' receive assemblies
(R82), and in HUNT it changes nothing. -/
def Obligations.SlipsAreRecordedAndMoveThePhaseOnce : Prop :=
  (∀ (s : State) (d : SlipDirection), -32767 ≤ s.trunk.netSlips → s.trunk.netSlips ≤ 32767 → s.trunk.changes ≤ 2 →
     let t := s.handleSlip d
     let step : Int := match d with | .plus => 1 | .minus => -1
     let turned := s.trunk.lastDirection = some (match d with | .plus => .minus | .minus => .plus)
     let noticed := s.notify .slip 0 (match d with | .plus => 1 | .minus => 0xFFFF)
     t.trunk.netSlips = max (-32767) (min 32767 (s.trunk.netSlips + step)) ∧ t.trunk.lastDirection = some d ∧
     (turned → t.trunk.changes = min 2 (s.trunk.changes + 1)) ∧ (¬turned → t.trunk.changes = s.trunk.changes) ∧
     t.trunk.changeFlag = (s.trunk.changeFlag || decide (t.trunk.changes = 2)) ∧
     (s.trunk.changeFlag = false → t.trunk.changes = 2 → t.notices =
       (noticed.notify .wander 0 (BitVec.ofInt 16 t.trunk.netSlips)).notices) ∧
     (s.trunk.changeFlag = true ∨ t.trunk.changes ≠ 2 → t.notices = noticed.notices) ∧
     t.trunk.store = s.trunk.store ∧ t.trunk.primed = s.trunk.primed ∧ t.trunk.lastDelivered = s.trunk.lastDelivered ∧
     t = { s with trunk := t.trunk, notices := t.notices, framer := s.framer.slip d, legs := t.legs } ∧
     ((∀ p, s.framer.mode ≠ .presync p) → t.legs = s.legs) ∧
     (∀ p, s.framer.mode = .presync p → ∀ n : LegNo, t.legs[n] = (s.legs[n]).map fun l => { l with rxAssembly := [] })) ∧
  (∀ (f : Framer) (d : SlipDirection),
     (f.mode = .hunt → f.slip d = f) ∧
     (∀ p, f.mode = .presync p → (f.slip d).mode = .hunt ∧ (f.slip d).slipMark = 0) ∧
     (∀ p, f.mode = .sync p → f.slipMark ≠ 0 → f.slip d = { f with slipMark := 2 }) ∧
     (∀ p, f.mode = .sync p → f.slipMark = 0 → d = .plus → f.slip d =
       { f with mode := .sync ⟨(p.val + 7) % 8, Nat.mod_lt _ (by decide)⟩, slipMark := 1, blockLength := 7
                blockEnded := decide (7 ≤ f.blockFrames) }) ∧
     (∀ p, f.mode = .sync p → f.slipMark = 0 → d = .minus → f.slip d =
       { f with mode := .sync ⟨(p.val + 1) % 8, Nat.mod_lt _ (by decide)⟩, slipMark := 1, blockLength := 9 }))

/-- R10, R9: a trunk frame arrival in INDEPENDENT mode joins the elastic store, pushing the oldest frame out with a
slip +1 when it holds two; in LOCKED mode the trunk receive lines are ignored. (A completion already reached is taken
first: log entry 5.) -/
def Obligations.TrunkFramesJoinTheStore : Prop :=
  ∀ (s : State) (frame : Frame), s.resetAsserted = false →
    (s.params.timing = .locked → exec (.trunkFrameArrival frame) s = .next s) ∧
    (∀ u, s.params.timing = .independent → s.framer.blockEnded = true → exec .trunkReceiveBlockCompletion s = .next u →
      exec (.trunkFrameArrival frame) s = exec (.trunkFrameArrival frame) u ∧ u.framer.blockEnded = false ∧
        u.params = s.params ∧ u.trunk = s.trunk) ∧
    (s.params.timing = .independent → s.framer.blockEnded = false → s.trunk.store.length < 2 →
      exec (.trunkFrameArrival frame) s =
        .next { s with trunk := { s.trunk with store := s.trunk.store ++ [frame], primed := true } }) ∧
    (∀ f0 f1, s.params.timing = .independent → s.framer.blockEnded = false → s.trunk.store = [f0, f1] →
      exec (.trunkFrameArrival frame) s = .next (State.handleSlip
        { s with trunk := { s.trunk with store := [f1, frame], primed := true } } .plus))


/-! ### The trunk receive side (chapters 3, 5 and 6) -/

/-- R41, R83, R84, R25, R37: at a completion in SYNC with no slip whose cell changes no leg (an IDLE cell, or a bad cell
that is not the fourth in a row), every open leg takes its block in the row of its state. R25: what a leg's gain makes of
a code. -/
def Obligations.CompletionTakesEachLegsBlock : Prop :=
  (∀ c : Code, applyGain 0 c = c) ∧
  (∀ (g : Int) (c : Code), g ≠ 0 → applyGain g c = compress (saturate (scale (expand c) (multiplier g))).1) ∧
  ∀ (s : State) (p : Position), s.resetAsserted = false → s.framer.mode = .sync p → s.framer.blockEnded = true →
    s.framer.slipMark = 0 →
    (parseTrunkCell s.framer.window = some .idle ∨ (parseTrunkCell s.framer.window = none ∧ s.framer.badRun < 3)) →
    (∀ (n : LegNo) (l : Leg), s.legs[n] = some l →
      (∀ r, l.announced = some r → l.state.counts = true → l.rx.index = 0 → r.epoch ≠ l.rx.epoch) ∧
      (∀ g k, l.state = .holding (.key g) → l.pendingKey = some k → k.gen ≠ g)) →
    ∃ t, exec .trunkReceiveBlockCompletion s = .next t ∧
      (∀ (n : LegNo), s.legs[n] = none → t.legs[n] = none) ∧
      (∀ (n : LegNo) (l : Leg), s.legs[n] = some l →
        let v := if l.rx.index = 0 then wheelStep l.rxKey.key (epochSeed l.rxKey.key l.rx.epoch)
                 else wheelStep l.rxKey.key l.rx.wheel
        let counted := Counters.advance s.params.epochLength { l.rx with wheel := v }
        let entered (codes : List Code) := (l.rxOutput ++ codes).drop (l.rxOutput.length + codes.length - 16)
        let quiet := List.replicate 8 silence
        (∀ b : Block, l.state = .running → l.rxAssembly = b.toList →
          t.legs[n] = some { l with rx := counted, rxAssembly := []
                                    rxOutput := entered ((descrambleBlock l.rxKey.mode v b).toList.map (applyGain l.gain)) }) ∧
        (∀ g, l.state = .holding (.key g) →
          t.legs[n] = some { l with rx := counted, rxAssembly := [], rxOutput := entered quiet }) ∧
        (l.state = .waiting ∨ l.state = .holding .hunt ∨ l.state = .holding .farCleared →
          t.legs[n] = some { l with rxAssembly := [], rxOutput := entered quiet }) ∧
        (∀ c, l.state = .clearing c → t.legs[n] = some l)) ∧
      t.framer = { s.framer with
        blockFrames := 0, blockLength := 8, blockEnded := false
        badRun := if (parseTrunkCell s.framer.window).isSome then 0 else s.framer.badRun + 1
        badCells := if (parseTrunkCell s.framer.window).isSome then s.framer.badCells else bump s.framer.badCells } ∧
      t = { s with framer := t.framer, legs := t.legs }

/-- R82, R83, R87 to R91, R98, R100, R101: a valid cell met in SYNC, or confirming the lock in PRESYNC, is acted on and
then the legs take their blocks (in the order of log entry 6); a SYNC, ROLL or CLEAR acts on the open leg its tag
selects, the second component naming the leg whose counters were loaded. A SYNC that loads the counters removes an
announced roll of its own generation; at the return from HOLDING(KEY) R98 and R101 disagree on that, and the statement
leaves it open (log entry 7). A CLEAR for a leg already in HOLDING(FAR_CLEARED) changes nothing, its announced roll
included (log entry 35). -/
def Obligations.CellsActOnTheirLeg : Prop :=
  (∀ (s : State) (p : Position) (cell : TrunkCell), s.resetAsserted = false → s.framer.mode = .sync p →
    s.framer.blockEnded = true → s.framer.slipMark = 0 → parseTrunkCell s.framer.window = some cell →
    exec .trunkReceiveBlockCompletion s = .next
      (let r := State.actOnCell { s with framer := { s.framer with blockFrames := 0, blockLength := 8, blockEnded := false
                                                                   badRun := 0 } } cell
       r.1.takeBlocks r.2 false)) ∧
  (∀ (s : State) (p : Position) (cell : TrunkCell), s.resetAsserted = false → s.framer.mode = .presync p →
    s.framer.blockEnded = true → parseTrunkCell s.framer.window = some cell →
    exec .trunkReceiveBlockCompletion s = .next
      (let locked : State := State.notify { s with framer := { s.framer with
         mode := .sync p, blockFrames := 0, blockLength := 8, blockEnded := false, slipMark := 0, badRun := 0 } }
         .trunkLocked 0 (BitVec.ofNat 16 p)
       (locked.actOnCell cell).1.takeBlocks (locked.actOnCell cell).2 false)) ∧
  ∀ (s : State) (tag : Byte),
    ((∀ (n : LegNo) (l : Leg), s.legs[n] = some l → l.state.isOpen = true → l.receiveTag ≠ tag) →
      ∀ (e : Half) (i : BitVec 12) (g : Byte),
        let missed := ({ s with framer := { s.framer with unknownTags := bump s.framer.unknownTags } }, (none : Option LegNo))
        s.actOnCell (.sync tag e i g) = missed ∧ s.actOnCell (.roll tag g e) = missed ∧ s.actOnCell (.clear tag) = missed) ∧
    (∀ (n : LegNo) (l : Leg), s.legs[n] = some l → l.state.isOpen = true → l.receiveTag = tag →
      (∀ (m : LegNo) (k : Leg), s.legs[m] = some k → k.state.isOpen = true → k.receiveTag = tag → m = n) →
      let len := s.params.epochLength
      let put (k : Leg) : State := { s with legs := s.legs.set n (some k) }
      let loaded (key : Key) (e : Half) (i : BitVec 12) := l.rx.load key len e i.toNat
      let kept (g : Byte) : Option Roll := l.announced.filter fun r => r.gen ≠ g
      (∀ e i g, g = 0 ∨ len ≤ i.toNat → s.actOnCell (.sync tag e i g) = (s, none)) ∧
      (∀ e i g, g = l.rxKey.gen → g ≠ 0 → i.toNat < len →
        (l.state = .running → l.rx.epoch = e → l.rx.index = i.toNat → s.actOnCell (.sync tag e i g) = (s, none)) ∧
        (l.state = .running → ¬(l.rx.epoch = e ∧ l.rx.index = i.toNat) → s.actOnCell (.sync tag e i g) =
          ((put { l with rx := loaded l.rxKey.key e i, realigns := bump l.realigns, announced := kept g }).notify
            .legRealigned n (BitVec.ofNat 16 i.toNat), some n)) ∧
        (l.state ≠ .running → ∃ roll : Option Roll,
          (roll = kept g ∨ (roll = l.announced ∧ ∃ a, l.state = .holding (.key a))) ∧ s.actOnCell (.sync tag e i g) =
          ((put { l with rx := loaded l.rxKey.key e i, state := .running, announced := roll }).notify .legSynced n
            (g.setWidth 16), some n))) ∧
      (∀ e i g, g ≠ l.rxKey.gen → g ≠ 0 → i.toNat < len →
        (∀ p, l.pendingKey = some p → p.gen = g → s.actOnCell (.sync tag e i g) =
          ((put { l with state := .running, rxKey := ⟨p.gen, p.mode, p.descramble⟩, rx := loaded p.descramble e i
                         announced := kept g, pendingKey := if l.txKey.gen = p.gen then none else some p }).notify .keyRolled n
            (256 + g.setWidth 16), some n)) ∧
        ((∀ p, l.pendingKey = some p → p.gen ≠ g) →
          let held := put { l with state := .holding (.key g), rx := loaded l.rxKey.key e i, announced := kept g }
          (l.state = .holding (.key g) → s.actOnCell (.sync tag e i g) = (held, some n)) ∧
          (l.state ≠ .holding (.key g) → s.actOnCell (.sync tag e i g) =
            (held.notify .keyMissing n (g.setWidth 16), some n)))) ∧
      (∀ g e, g = 0 → s.actOnCell (.roll tag g e) = (s, none)) ∧
      (∀ g e, g ≠ 0 → s.actOnCell (.roll tag g e) = (put { l with announced := some ⟨g, e⟩ }, none)) ∧
      (l.state = .holding .farCleared → s.actOnCell (.clear tag) = (s, none)) ∧
      (l.state ≠ .holding .farCleared → s.actOnCell (.clear tag) =
        ((put { l with state := .holding .farCleared, announced := none }).notify .farCleared n
          (if l.state = .running then 1 else 0), none)))

/-- R41, R43, R99, R101, R102, R44: one leg at a completion whose block straddles no slip: the block of a counter load is
muted and not counted again (in HOLDING(KEY): log entry 22), and, where the load leaves the leg in HOLDING(KEY), is not a
muted block of R68 even if the epoch start it names returns the leg to RUNNING (R100 case 3; log entry 23); without a
load, the announced roll is acted on at the receive epoch start it names (the first of R99's rows that holds: log entry
8), and the key awaited in HOLDING(KEY) is adopted at the first completion that finds it, by catch-up but at an epoch
start. -/
def Obligations.AnnouncedRollsAndAwaitedKeys : Prop :=
  ∀ (s : State) (n : LegNo) (l : Leg), s.legs[n] = some l →
    let len := s.params.epochLength
    let taken (k : Leg) : Leg := (k.takeRow len false false)
    let adopted (p : KeySetting) : Leg :=
      { l with state := .running, rxKey := ⟨p.gen, p.mode, p.descramble⟩
               pendingKey := if l.txKey.gen = p.gen then none else some p }
    let after (k : Leg) : State := { s with legs := s.legs.set n (some k) }
    let quiet := (l.rxOutput ++ List.replicate 8 silence).drop (l.rxOutput.length + 8 - 16)
    (l.state = .running → l.announced = none → s.takeLegBlock (some n) false n =
      after { l with mutedBlocks := bump l.mutedBlocks, rxAssembly := [], rxOutput := quiet }) ∧
    (∀ g, l.state = .holding (.key g) → l.announced = none → l.pendingKey = none → s.takeLegBlock (some n) false n =
      after { l with rxAssembly := [], rxOutput := quiet }) ∧
    (∀ a, l.state = .holding (.key a) → l.rx.index = 0 → l.announced = some ⟨l.rxKey.gen, l.rx.epoch⟩ →
      (∀ p, l.pendingKey = some p → p.gen ≠ l.rxKey.gen) → s.takeLegBlock (some n) false n =
        (after { l with announced := none, state := .running, rxAssembly := [], rxOutput := quiet }).notify .legSynced n
          (l.rxKey.gen.setWidth 16)) ∧
    (∀ p, l.state = .running → l.rx.index = 0 → l.announced = some ⟨p.gen, l.rx.epoch⟩ → l.pendingKey = some p →
      s.takeLegBlock (some n) false n =
        (after { adopted p with announced := none, mutedBlocks := bump l.mutedBlocks, rxAssembly := [], rxOutput := quiet
               }).notify .keyRolled n (256 + p.gen.setWidth 16)) ∧
    (∀ g, l.state = .running ∨ (∃ a, l.state = .holding (.key a)) → l.rx.index = 0 → l.announced = some ⟨g, l.rx.epoch⟩ →
      (∀ p, l.pendingKey = some p → p.gen = g → s.takeLegBlock none false n =
        (after (taken { adopted p with announced := none })).notify .keyRolled n (256 + g.setWidth 16)) ∧
      ((∀ p, l.pendingKey = some p → p.gen ≠ g) → g = l.rxKey.gen → l.state = .running →
        s.takeLegBlock none false n = after (taken { l with announced := none })) ∧
      ((∀ p, l.pendingKey = some p → p.gen ≠ g) → g = l.rxKey.gen → l.state ≠ .running → s.takeLegBlock none false n =
        (after (taken { l with announced := none, state := .running })).notify .legSynced n (g.setWidth 16)) ∧
      ((∀ p, l.pendingKey = some p → p.gen ≠ g) → g ≠ l.rxKey.gen → l.state ≠ .holding (.key g) →
        s.takeLegBlock none false n =
        (after (taken { l with announced := none, state := .holding (.key g) })).notify .keyMissing n (g.setWidth 16)) ∧
      ((∀ p, l.pendingKey = some p → p.gen ≠ g) → g ≠ l.rxKey.gen → l.state = .holding (.key g) →
        s.takeLegBlock none false n = after (taken { l with announced := none }))) ∧
    (∀ g p, l.state = .holding (.key g) → l.rx.index = 0 → l.announced = none → l.pendingKey = some p → p.gen = g →
      s.takeLegBlock none false n = (after (taken (adopted p))).notify .keyRolled n (256 + g.setWidth 16)) ∧
    (∀ g p, l.state = .holding (.key g) → l.rx.index ≠ 0 → l.pendingKey = some p → p.gen = g →
      s.takeLegBlock none false n = (after { adopted p with
        rx := (Counters.advance len l.rx).catchUp p.descramble, mutedBlocks := bump l.mutedBlocks, rxAssembly := []
        rxOutput := quiet }).notify .keyRolled n
          (256 + g.setWidth 16))

/-- R82, R84, R85, R86: the fourth bad cell in a row, a block straddled by one slip or by more, and the end of the block
in PRESYNC (a confirming SYNC, ROLL or CLEAR: CellsActOnTheirLeg). -/
def Obligations.BadCellsHuntAndStraddledBlocksMute : Prop :=
  ∀ (s : State) (p : Position), s.resetAsserted = false → s.framer.blockEnded = true →
    let quiet (l : Leg) : List Code := (l.rxOutput ++ List.replicate 8 silence).drop (l.rxOutput.length + 8 - 16)
    let freed : Framer := { s.framer with blockFrames := 0, blockLength := 8, blockEnded := false, slipMark := 0 }
    let muted (t : State) : Prop :=
      (∀ (n : LegNo) (l : Leg), s.legs[n] = some l → l.announced = none →
        (l.state = .running → t.legs[n] = some
          { l with rx := l.rx.take l.rxKey.key s.params.epochLength, mutedBlocks := bump l.mutedBlocks
                   rxAssembly := [], rxOutput := quiet l }) ∧
        (∀ g, l.state = .holding (.key g) → (∀ k, l.pendingKey = some k → k.gen ≠ g) → t.legs[n] = some
          { l with rx := l.rx.take l.rxKey.key s.params.epochLength, rxAssembly := [], rxOutput := quiet l })) ∧
      (∀ (n : LegNo) (l : Leg), s.legs[n] = some l → l.state.counts = false → t.legs[n] = some
        (if l.state.isOpen then { l with rxAssembly := [], rxOutput := quiet l } else l)) ∧
      (∀ n : LegNo, s.legs[n] = none → t.legs[n] = none) ∧
      t = { s with framer := t.framer, legs := t.legs, notices := t.notices }
    (s.framer.mode = .sync p → s.framer.badRun = 3 →
      (s.framer.slipMark = 0 ∧ parseTrunkCell s.framer.window = none) ∨ s.framer.slipMark = 2 →
      ∃ t, exec .trunkReceiveBlockCompletion s = .next t ∧
        t.framer = { freed with mode := .hunt, badRun := 0, badCells := bump s.framer.badCells } ∧
        (∀ (n : LegNo) (l : Leg), s.legs[n] = some l → l.state.isOpen = true → t.legs[n] = some
          { l with state := if l.state.counts then .holding .hunt else l.state, rxAssembly := [], rxOutput := quiet l }) ∧
        t.notices = (s.notify .trunkHunt 0 (BitVec.ofNat 16 p)).notices ∧
        t = { s with framer := t.framer, legs := t.legs, notices := t.notices }) ∧
    (s.framer.mode = .sync p → s.framer.slipMark = 1 →
      ∃ t, exec .trunkReceiveBlockCompletion s = .next t ∧ t.framer = freed ∧ muted t) ∧
    (s.framer.mode = .sync p → s.framer.slipMark = 2 → s.framer.badRun < 3 →
      ∃ t, exec .trunkReceiveBlockCompletion s = .next t ∧
        t.framer = { freed with badRun := s.framer.badRun + 1, badCells := bump s.framer.badCells } ∧ muted t) ∧
    (s.framer.mode = .presync p → parseTrunkCell s.framer.window = none →
      ∃ t, exec .trunkReceiveBlockCompletion s = .next t ∧ t.framer = { freed with mode := .hunt } ∧
        (∀ (n : LegNo) (l : Leg), s.legs[n] = some l → t.legs[n] = some { l with rxAssembly := [] }) ∧
        t = { s with framer := t.framer, legs := t.legs }) ∧
    (s.framer.mode = .presync p → parseTrunkCell s.framer.window = some .idle →
      (∀ (n : LegNo) (l : Leg), s.legs[n] = some l → l.state.counts = false) →
      ∃ t, exec .trunkReceiveBlockCompletion s = .next t ∧ t.framer = { freed with mode := .sync p, badRun := 0 } ∧
        (∀ (n : LegNo) (l : Leg), s.legs[n] = some l → l.state.isOpen = true →
          t.legs[n] = some { l with rxAssembly := [], rxOutput := quiet l }) ∧
        t.notices = (s.notify .trunkLocked 0 (BitVec.ofNat 16 p)).notices ∧
        t = { s with framer := t.framer, legs := t.legs, notices := t.notices })

/-! ### The line side (chapters 1, 3, 8 and 10) -/

/-- R2, R38, R39, R105, R154, R157, R165: what a line block start does, and that it is taken once for each block. (Where
none is due the event does nothing: log entry 3; a completion already reached is taken first: log entry 5.) -/
def Obligations.LineBlockStartIsTakenOnce : Prop :=
  ∀ s : State, s.resetAsserted = false →
    (s.line.framePos ≠ 0 ∨ s.line.startTaken = true → exec .lineBlockStart s = .next s) ∧
    (∀ u, s.line.framePos = 0 → s.line.startTaken = false → exec .trunkReceiveBlockCompletion s = .next u →
      exec .lineBlockStart s = exec .lineBlockStart u) ∧
    (s.line.framePos = 0 → s.line.startTaken = false → s.framer.blockEnded = false →
      ∃ t, exec .lineBlockStart s = .next t ∧
        t.line = { s.line with blockCount := if s.line.startSeen then s.line.blockCount + 1 else s.line.blockCount
                               startSeen := true, startTaken := true, cellDue := true } ∧
        (∀ n : LegNo, s.legs[n] = none → t.legs[n] = none) ∧
        (∀ (n : LegNo) (l : Leg), s.legs[n] = some l → l.state.isOpen = false → t.legs[n] = some l) ∧
        (∀ (n : LegNo) (l : Leg), s.legs[n] = some l → l.state.isOpen = true → l.gathering = false →
          t.legs[n] = some { l with gathered := none, gathering := true, txAssembly := [], emission := none }) ∧
        (∀ (n : LegNo) (l : Leg) (b : Block), s.legs[n] = some l → l.state.isOpen = true → l.gathering = true →
          l.txAssembly = b.toList →
          t.legs[n] = some { l with gathered := some b, txAssembly := [], emission := none }) ∧
        (∀ h, t.record h = (s.record h).map fun r =>
          { r with state := match r.state with
                            | .challenged k nonce x => .challenged k nonce (x - 1)
                            | .refreshing k nonce x => .refreshing k nonce (x - 1)
                            | .admitted k (some x) => .admitted k (some (x - 1))
                            | .barred x => .barred (x - 1)
                            | a => a }) ∧
        (∀ c : ConfNo, t.confs[c] = (s.confs[c]).map fun k =>
          { k with judged := k.mixSet.map fun _ => k.clipMark, mixSet := none, clipMark := false }) ∧
        (t.hold = if s.hold.mark = .pending then .opened s.hold.entries .due else s.hold) ∧
        t = { s with line := t.line, trunk := { s.trunk with cellDue := true }, legs := t.legs, confs := t.confs
                     ext := { s.ext with records := t.ext.records }, hold := t.hold })

/-- R4 to R9, R11, R38, R40, R42, R80 to R82, R85, R86, R154 to R156: what a line frame takes and gives, once the work
due before it has been taken: `u`, the state after a completion already reached and, at position 0, after the line block
start and its work (log entries 4 and 5). `f` is the framer when the frame is delivered, after the slip of a read from
an empty primed store. -/
def Obligations.LineFrameTakesAndGivesTheSlots : Prop :=
  ∀ (s : State) (lineIn trunkIn : Frame), s.resetAsserted = false →
    let u := s.settle
    let pos := u.line.framePos
    let slips : Prop := u.params.timing = .independent ∧ u.trunk.store = [] ∧ u.trunk.primed = true
    let set (k : Conf) : List Member := (if pos = 0 then some k.members else k.mixSet).getD []
    let output (n : LegNo) : Code := match u.legs[n] with | none => silence | some l => l.rxOutput.headD silence
    let spoken (h : Handle) : Code := match u.boundSlot h with | none => silence | some k => lineIn[k]
    let input (m : Member) : Int := match m with | .leg n => expand (output n) | .loc h => expand (spoken h)
    let codes (k : Conf) : List (Member × Code × Bool) :=
      minusOne k.attenuation ((set k).map fun m => (m, input m))
    let result (c : ConfNo) (m : Member) : Code :=
      match u.confs[c] with
      | none => silence
      | some k => match (codes k).find? (·.1 == m) with | none => silence | some r => r.2.1
    let source (n : LegNo) (l : Leg) : Code :=
      match l.endpoint with | .parked => silence | .line => spoken l.owner | .conference c => result c (.leg n)
    (s.line.framePos ≠ 0 → s.framer.blockEnded = false → u = s) ∧
    takeAll (.trunkReceiveBlockCompletion :: if s.line.framePos = 0 then blockStartCommands else []) s = .next u ∧
    ∃ t, exec (.lineFrame lineIn trunkIn) s = .next t ∧
      t.line.framePos = pos + 1 ∧ t.line.startTaken = (decide (pos ≠ 7) && u.line.startTaken) ∧
      (t.line.cellIn, t.line.arrival) =
        (if pos = 7 then ([], some (Vector.ofFn fun i => (u.line.cellIn ++ [lineIn[0]]).getD i.val 0))
         else (u.line.cellIn ++ [lineIn[0]], u.line.arrival)) ∧
      t.line.out[0] = some u.line.cellOut[pos] ∧ t.trunk.out[0] = some u.trunk.cellOut[pos] ∧
      (∀ k : Slot, k ≠ 0 →
        (u.line.outMap[k] = .vacant → t.line.out[k] = none) ∧
        (∀ n l, u.line.outMap[k] = .leg n → u.legs[n] = some l → t.line.out[k] = some (l.rxOutput.headD silence)) ∧
        (∀ c h cf, u.line.outMap[k] = .conference c → u.confs[c] = some cf → u.boundTo k = some h →
          .loc h ∈ cf.members → t.line.out[k] = some (result c (.loc h))) ∧
        ((∀ (n : LegNo) (l : Leg), u.legs[n] = some l → l.state.isOpen = true → l.slot ≠ k) → t.trunk.out[k] = none) ∧
        (∀ n l, u.legs[n] = some l → l.state.isOpen = true → l.slot = k →
          (∀ (m : LegNo) (j : Leg), u.legs[m] = some j → j.state.isOpen = true → j.slot = k → m = n) →
          t.trunk.out[k] = some (match l.emission with | none => silence | some e => e.codes[pos]))) ∧
      (∀ n : LegNo, u.legs[n] = none → t.legs[n] = none) ∧
      (∀ f : Framer, (slips ∧ f = u.framer.slip .minus) ∨ (¬slips ∧ f = u.framer) →
        (∀ (n : LegNo) (l : Leg), u.legs[n] = some l → t.legs[n] = some { l with
          txAssembly := if l.state.isOpen = true ∧ l.gathering = true then l.txAssembly ++ [source n l] else l.txAssembly
          rxOutput := l.rxOutput.drop 1
          rxAssembly := if f.mode = .hunt then (if u.framer.mode = .hunt then l.rxAssembly else [])
                        else if l.state.isOpen = true then l.rxAssembly ++ [t.trunk.lastDelivered[l.slot]]
                        else l.rxAssembly }) ∧
        t.framer.window = (f.window ++ [t.trunk.lastDelivered[0]]).drop (f.window.length + 1 - 8) ∧
        (f.mode = .hunt → t.framer = if (parseTrunkCell t.framer.window).isSome then
            { f with window := t.framer.window, mode := .presync (pos + 1), blockFrames := 0, blockLength := 8
                     blockEnded := false, slipMark := 0 }
          else { f with window := t.framer.window }) ∧
        (f.mode ≠ .hunt → t.framer = { f with
          window := t.framer.window, blockFrames := f.blockFrames + 1
          blockEnded := decide (f.blockLength ≤ f.blockFrames + 1) })) ∧
      (∀ c : ConfNo, t.confs[c] = (u.confs[c]).map fun k =>
        { k with mixSet := if pos = 0 then some k.members else k.mixSet, clipMark := k.clipMark || (codes k).any (·.2.2) }) ∧
      (u.params.timing = .locked → t.trunk = { u.trunk with out := t.trunk.out, lastDelivered := trunkIn }) ∧
      (∀ f rest, u.params.timing = .independent → u.trunk.store = f :: rest →
        t.trunk = { u.trunk with out := t.trunk.out, store := rest, lastDelivered := f }) ∧
      (u.params.timing = .independent → u.trunk.store = [] → u.trunk.primed = false →
        t.trunk = { u.trunk with out := t.trunk.out }) ∧
      (slips → t.notices = (u.handleSlip .minus).notices ∧ t.trunk = { (u.handleSlip .minus).trunk with out := t.trunk.out }) ∧
      (¬slips → t.notices = u.notices) ∧
      t = { u with line := { u.line with framePos := t.line.framePos, cellIn := t.line.cellIn, arrival := t.line.arrival
                                         out := t.line.out, startTaken := t.line.startTaken }
                   trunk := t.trunk, framer := t.framer, legs := t.legs, confs := t.confs, notices := t.notices }


/-! ### Extensions and admission (chapters 7 to 9) -/

/-- R106 to R108: EXT_LOAD makes a record at the lowest free handle or replaces the four given fields of an unbound
one; EXT_REMOVE frees the handle of an unbound record that chairs no conference. -/
def Obligations.ExtensionRecordsAreLoadedAndRemoved : Prop :=
  ∀ s : State, s.ready →
    (∀ body a h, parseExtLoad body = some a → (∀ (k : Handle) (r : ExtRecord), s.record k = some r → r.number ≠ a.number) →
      s.record h = none → (∀ k : Handle, k < h → s.record k ≠ none) →
      exec (.extLoad body) s = .next (State.answered { s with ext := { s.ext with records := s.ext.records.set h (some
        ⟨a.number, a.credential, a.cls, a.group, a.scope, .idle, 0⟩) } } 0x09 .ok [byteOf h])) ∧
    (∀ body a, parseExtLoad body = some a → (∀ (k : Handle) (r : ExtRecord), s.record k = some r → r.number ≠ a.number) →
      (∀ k : Handle, s.record k ≠ none) → exec (.extLoad body) s = .next (s.answered 0x09 .full [])) ∧
    (∀ body a h r, parseExtLoad body = some a → s.findNumber a.number = some h → s.record h = some r →
      (r.state.slot?.isSome = true → exec (.extLoad body) s = .next (s.answered 0x09 .busy [])) ∧
      (r.state.slot? = none → exec (.extLoad body) s = .next (State.answered
        { s with ext := { s.ext with records := s.ext.records.set h (some
          ⟨r.number, a.credential, a.cls, a.group, a.scope, r.state, r.failures⟩) } } 0x09 .ok [byteOf h]))) ∧
    (∀ body ref h r, parseRef false body = some ref → s.lookup ref = some h → s.record h = some r →
      let chairs : Prop := ∃ (c : ConfNo) (k : Conf), s.confs[c] = some k ∧ k.chair = some h
      (r.state.slot?.isSome = true ∨ chairs → exec (.extRemove body) s = .next (s.answered 0x0A .busy [])) ∧
      (r.state.slot? = none → ¬chairs → exec (.extRemove body) s = .next (State.answered
        { s with ext := { s.ext with records := s.ext.records.set h none } } 0x0A .ok [byteOf h]))) ∧
    (∀ body ref, parseRef false body = some ref → s.lookup ref = none →
      exec (.extRemove body) s = .next (s.answered 0x0A .notFound [])) ∧
    (∀ (n : ExtNumber) (h : Handle), s.lookup (.number n) = some h → ∃ r, s.record h = some r ∧ r.number = n) ∧
    (∀ (n : ExtNumber) (h : Handle) (r : ExtRecord), s.record h = some r → r.number = n → s.lookup (.number n) ≠ none) ∧
    (∀ h : Handle, s.lookup (.handle h) = (s.record h).map fun _ => h)

/-- R106, R110 to R112: EXT_SUSPEND, EXT_RESUME, EXT_UNBAR and EXT_REVOKE of no record, and of a record that is not
admitted, by its state. -/
def Obligations.ExtensionAdministrationByState : Prop :=
  (∀ (s : State) (body : List Byte) (ref : ExtRef), s.ready → parseRef false body = some ref → s.lookup ref = none →
    exec (.extSuspend body) s = .next (s.answered 0x0C .notFound []) ∧
    exec (.extResume body) s = .next (s.answered 0x0D .notFound []) ∧
    exec (.extUnbar body) s = .next (s.answered 0x0E .notFound []) ∧
    exec (.extRevoke body) s = .next (s.answered 0x0F .notFound [])) ∧
  ∀ (s : State) (body : List Byte) (ref : ExtRef) (h : Handle) (r : ExtRecord), s.ready →
    parseRef false body = some ref → s.lookup ref = some h → s.record h = some r →
    let put (q : ExtRecord) : State := { s with ext := { s.ext with records := s.ext.records.set h (some q) } }
    let idle : ExtRecord := { r with state := .idle }
    (r.state = .idle ∨ (∃ k n t, r.state = .challenged k n t) → exec (.extSuspend body) s =
      .next ((put { r with state := .suspended }).answered 0x0C .ok [r.state.value])) ∧
    (r.state = .suspended → exec (.extSuspend body) s = .next (s.answered 0x0C .ok [5])) ∧
    (∀ t, r.state = .barred t → exec (.extSuspend body) s = .next
      ((put { r with state := .suspended, failures := s.params.failureLimit - 1 }).answered 0x0C .ok [4])) ∧
    (r.state = .suspended → exec (.extResume body) s = .next ((put idle).answered 0x0D .ok [])) ∧
    (r.state ≠ .suspended → exec (.extResume body) s = .next (s.answered 0x0D .state [])) ∧
    (∀ t, r.state = .barred t → exec (.extUnbar body) s = .next ((put { idle with failures := 0 }).answered 0x0E .ok [])) ∧
    ((∀ t, r.state ≠ .barred t) → exec (.extUnbar body) s = .next (s.answered 0x0E .state [])) ∧
    (∀ k n t, r.state = .challenged k n t → exec (.extRevoke body) s = .next ((put idle).answered 0x0F .ok [1])) ∧
    (r.state.slot? = none → exec (.extRevoke body) s = .next (s.answered 0x0F .state []))

/-- R114, R115: SLOT_MAP makes its changes in list order and answers the whole map with the two counters. R119: an
arriving cell is judged, filtered by the map, and counted when it is bad or ignored; R120: taken after the line block
start that follows it, it comes behind that start's departure. R118, section 12.7: the bytes of the cells the part
sends. -/
def Obligations.SlotMapFiltersAdmissionCells : Prop :=
  (∀ (s : State) (clear : Bool) (changes : List (Slot × Bool)), s.ready → changes.length ≤ 63 →
    (∀ c ∈ changes, c.1 ≠ 0) → ∃ t : State,
      exec (.slotMap (slotMapBody clear changes)) s = .next (t.answered 0x10 .ok
        ((List.finRange 63).map (fun i => bitByte t.ext.listen[i.succ]) ++ bytes16 s.ext.ignoredCells ++
         bytes16 s.ext.badCells)) ∧
      (∀ k : Slot, t.ext.listen[k] = ((changes.reverse.find? (·.1 == k)).map (·.2)).getD s.ext.listen[k]) ∧
      t = { s with ext := { s.ext with
        listen := t.ext.listen, ignoredCells := if clear then 0 else s.ext.ignoredCells
        badCells := if clear then 0 else s.ext.badCells } }) ∧
  (∀ (slot : Slot) (nonce : Half) (reason : RefuseReason),
    (∀ c : OutgoingCell, c.build.toList.foldl (· + ·) 0 = (0xA5 : Byte)) ∧
    (OutgoingCell.challenge slot nonce).build.toList.take 7 =
      [0xD2, byteOf slot, nonce.extractLsb' 8 8, nonce.extractLsb' 0 8, 0, 0, 0] ∧
    (OutgoingCell.accept slot).build.toList.take 7 = [0xD4, byteOf slot, 0, 0, 0, 0, 0] ∧
    (OutgoingCell.refuse slot reason).build.toList.take 7 = [0xD5, byteOf slot,
      (match reason with
        | .unknown => 1 | .suspended => 2 | .barred => 3 | .inUse => 4 | .slotBusy => 5 | .wrong => 6 | .timeout => 7
        | .congested => 8), 0, 0, 0, 0]) ∧
  (∀ cell : Cell,
    let kind := cell[0]
    let number := cell.toList.drop 2
    let judged := judgeAdmissionCell cell
    (cell.toList.foldl (· + ·) 0 ≠ (0xA5 : Byte) → judged = .bad) ∧
    (cell.toList.foldl (· + ·) 0 = (0xA5 : Byte) →
      (kind = 0xD0 → judged = .idle) ∧
      (kind ≠ 0xD0 → kind ≠ 0xD1 → kind ≠ 0xD3 → kind ≠ 0xD6 → judged = .bad) ∧
      (kind ≠ 0xD0 → cell[1] = 0 ∨ 63 < cell[1].toNat → judged = .bad) ∧
      (∀ slot : Slot, slot ≠ 0 → cell[1] = byteOf slot →
        (kind = 0xD1 → ¬NumberFits number → judged = .bad) ∧
        (kind = 0xD1 → NumberFits number → judged = .hello slot ((List.range number[0]!.toNat).map (digitPlace number))) ∧
        (kind = 0xD3 → judged = .answer slot (cell[2] ++ cell[3] ++ cell[4])) ∧
        (kind = 0xD6 → judged = .bye slot)))) ∧
  (∀ s u : State, s.resetAsserted = false → s.line.arrival ≠ none → exec .admissionCellDeparture s = .next u →
    exec .admissionCellArrival s = exec .admissionCellArrival u) ∧
  (∀ (s : State) (cell : Cell), s.resetAsserted = false → s.line.arrival = some cell → s.line.cellDue = false →
    let taken : State := { s with line := { s.line with arrival := none } }
    (judgeAdmissionCell cell = .idle → exec .admissionCellArrival s = .next taken) ∧
    (judgeAdmissionCell cell = .bad → exec .admissionCellArrival s =
      .next { taken with ext := { s.ext with badCells := bump s.ext.badCells } }) ∧
    (∀ (slot : Slot) (n : ExtNumber) (w : WheelWord), s.ext.listen[slot] = false →
      judgeAdmissionCell cell = .hello slot n ∨ judgeAdmissionCell cell = .answer slot w ∨
        judgeAdmissionCell cell = .bye slot →
      exec .admissionCellArrival s = .next { taken with ext := { s.ext with ignoredCells := bump s.ext.ignoredCells } }) ∧
    (∀ slot, s.ext.listen[slot] = true → judgeAdmissionCell cell = .bye slot → s.boundTo slot = none →
      exec .admissionCellArrival s = .next taken))

/-- R121 to R125: a HELLO from a slot set to LISTEN is refused in the order of R122 and R123 or challenges the extension,
superseding the challenge that is out; at a full queue it is not taken. (Where the departure of a line block start is
still to be taken it goes first: SlotMapFiltersAdmissionCells.) -/
def Obligations.HelloChallengesOrIsRefused : Prop :=
  ∀ (s : State) (cell : Cell) (slot : Slot) (number : ExtNumber), s.resetAsserted = false → s.line.arrival = some cell →
    s.line.cellDue = false →
    judgeAdmissionCell cell = .hello slot number → s.ext.listen[slot] = true →
    let taken : State := { s with line := { s.line with arrival := none } }
    let refused (reason : RefuseReason) : State :=
      State.notify { taken with admQueue := if s.admQueue.length < 8 then s.admQueue ++ [(OutgoingCell.refuse slot reason).build]
                                            else s.admQueue } .admitRefused slot (BitVec.ofNat 16 reason.value.toNat)
    let nonce : Half := s.ext.generator * 5 + s.params.stride
    let challenge (u : State) (x : Handle) (r : ExtRecord) (state : Admission) : State :=
      { u with admQueue := s.admQueue ++ [(OutgoingCell.challenge slot nonce).build]
               ext := { u.ext with generator := nonce, records := u.ext.records.set x (some { r with state := state }) } }
    let fresh : Admission := .challenged slot nonce s.params.answerTimeout
    let again : Admission := .refreshing slot nonce s.params.answerTimeout
    (s.findNumber number = none → exec .admissionCellArrival s = .next (refused .unknown)) ∧
    ∀ x r, s.findNumber number = some x → s.record x = some r →
      (r.state = .suspended → exec .admissionCellArrival s = .next (refused .suspended)) ∧
      (∀ t, r.state = .barred t → exec .admissionCellArrival s = .next (refused .barred)) ∧
      (∀ k, r.state.isAdmitted = true → r.state.slot? = some k → k ≠ slot →
        exec .admissionCellArrival s = .next (refused .inUse)) ∧
      (∀ y q, helloRefusal slot r.state = none → s.boundTo slot = some y → y ≠ x → s.record y = some q →
        q.state.isAdmitted = true → exec .admissionCellArrival s = .next (refused .slotBusy)) ∧
      (∀ u : State, helloRefusal slot r.state = none →
        ((s.boundTo slot = none ∨ s.boundTo slot = some x) ∧ u = taken) ∨
        (∃ y q, s.boundTo slot = some y ∧ y ≠ x ∧ s.record y = some q ∧ q.state.isAdmitted = false ∧
          u = State.notify { taken with ext := { s.ext with records := s.ext.records.set y (some { q with state := .idle }) } }
            .superseded y (BitVec.ofNat 16 slot)) →
        (8 ≤ s.admQueue.length → exec .admissionCellArrival s = .next (u.notify .admitRefused slot 8)) ∧
        (s.admQueue.length < 8 →
          (r.state = .idle → exec .admissionCellArrival s = .next (challenge u x r fresh)) ∧
          (∀ k n t, r.state = .challenged k n t → exec .admissionCellArrival s =
            .next (challenge (u.notify .superseded x (BitVec.ofNat 16 slot)) x r fresh)) ∧
          (∀ k t, r.state = .admitted k t → exec .admissionCellArrival s = .next (challenge u x r again)) ∧
          (∀ k n t, r.state = .refreshing k n t → exec .admissionCellArrival s =
            .next (challenge (u.notify .superseded x (BitVec.ofNat 16 slot)) x r again))))

/-- R126 to R128, R130: an ANSWER from a slot set to LISTEN admits the extension bound to it, counts a failure or is a
stray; a BYE withdraws a challenge. (Barring where the count passes the limit, which R128 does not meet, is log entry
31; a departure still to be taken goes first: SlotMapFiltersAdmissionCells.) -/
def Obligations.AnswersAdmitOrCountAFailure : Prop :=
  ∀ (s : State) (cell : Cell) (slot : Slot), s.resetAsserted = false → s.line.arrival = some cell →
    s.line.cellDue = false →
    s.ext.listen[slot] = true →
    let taken : State := { s with line := { s.line with arrival := none } }
    let put (x : Handle) (q : ExtRecord) (c : OutgoingCell) : State :=
      { taken with ext := { s.ext with records := s.ext.records.set x (some q) }
                   admQueue := if s.admQueue.length < 8 then s.admQueue ++ [c.build] else s.admQueue }
    (∀ word, judgeAdmissionCell cell = .answer slot word → s.boundTo slot = none →
      exec .admissionCellArrival s = .next (taken.notify .strayAnswer slot 0xFFFF)) ∧
    ∀ x r, s.boundTo slot = some x → s.record x = some r →
      (∀ word timer, judgeAdmissionCell cell = .answer slot word → r.state = .admitted slot timer →
        exec .admissionCellArrival s = .next (taken.notify .strayAnswer slot (BitVec.ofNat 16 x))) ∧
      (∀ word nonce timer, judgeAdmissionCell cell = .answer slot word →
        r.state = .challenged slot nonce timer ∨ r.state = .refreshing slot nonce timer →
        word = blockWord (wheelSteps r.credential 4 (epochSeed r.credential nonce)) →
        exec .admissionCellArrival s = .next ((put x
          { r with failures := 0
                   state := .admitted slot (if s.params.refreshInterval = 0 then none
                                            else some (s.params.refreshInterval * 1000)) } (.accept slot)).notify
          (if r.state.isAdmitted then .refreshed else .admitted) x (BitVec.ofNat 16 slot))) ∧
      (∀ word nonce timer, judgeAdmissionCell cell = .answer slot word → r.state = .challenged slot nonce timer →
        word ≠ admissionWord r.credential nonce →
        (r.failures + 1 < s.params.failureLimit → exec .admissionCellArrival s = .next ((put x
          { r with state := .idle, failures := r.failures + 1 } (.refuse slot .wrong)).notify .admitFailed x 6)) ∧
        (s.params.failureLimit ≤ r.failures + 1 → exec .admissionCellArrival s = .next ((put x
          { r with state := .barred (s.params.barTime * 1000), failures := r.failures + 1 } (.refuse slot .barred)).notify
            .barred x 6))) ∧
      (∀ nonce timer, judgeAdmissionCell cell = .bye slot → r.state = .challenged slot nonce timer →
        exec .admissionCellArrival s = .next { taken with ext := { s.ext with records := s.ext.records.set x (some
          { r with state := .idle }) } })

/-- R120, R129, R131, R133: the departure from the Admission Cell Queue, and the expiries of the three timers. (Barring
where the count passes the limit: log entry 31.) -/
def Obligations.AdmissionTimersAndDeparture : Prop :=
  ∀ s : State, s.resetAsserted = false →
    let sent (cell : Cell) (q : List Cell) : State :=
      { s with line := { s.line with cellDue := false, cellOut := cell }, admQueue := q }
    let put (h : Handle) (q : ExtRecord) : State := { s with ext := { s.ext with records := s.ext.records.set h (some q) } }
    (s.line.cellDue = true → s.admQueue = [] → exec .admissionCellDeparture s = .next (sent idleAdmissionCell [])) ∧
    (∀ c rest, s.line.cellDue = true → s.admQueue = c :: rest → exec .admissionCellDeparture s = .next (sent c rest)) ∧
    (∀ h r slot nonce, s.record h = some r → r.state = .challenged slot nonce 0 →
      let told (q : ExtRecord) (reason : RefuseReason) (kind : NoticeKind) : State :=
        State.notify { put h q with admQueue := if s.admQueue.length < 8
          then s.admQueue ++ [(OutgoingCell.refuse slot reason).build] else s.admQueue } kind h 7
      (r.failures + 1 < s.params.failureLimit → exec (.answerTimerExpiry h) s =
        .next (told { r with state := .idle, failures := r.failures + 1 } .timeout .admitFailed)) ∧
      (s.params.failureLimit ≤ r.failures + 1 → exec (.answerTimerExpiry h) s =
        .next (told { r with state := .barred (s.params.barTime * 1000), failures := r.failures + 1 } .barred .barred))) ∧
    (∀ h r, s.record h = some r → r.state = .barred 0 → exec (.barTimerExpiry h) s =
      .next ((put h { r with state := .idle, failures := 0 }).notify .barEnded h 0)) ∧
    (∀ h r slot, s.record h = some r → r.state = .admitted slot (some 0) →
      (∀ (k : Handle) (q : ExtRecord) (x : Slot), k < h → s.record k = some q → q.state ≠ .admitted x (some 0)) →
      let engaged : Prop := r.cls.refresh = true ∧
        ((∃ (n : LegNo) (l : Leg), s.legs[n] = some l ∧ l.owner = h ∧ l.state.isOpen = true) ∨ (s.localConf h).isSome = true)
      let nonce : Half := s.ext.generator * 5 + s.params.stride
      (¬engaged → exec .refreshTimerExpiry s = .next (put h
        { r with state := .admitted slot (if s.params.refreshInterval = 0 then none
                                          else some (s.params.refreshInterval * 1000)) })) ∧
      (engaged → 8 ≤ s.admQueue.length → exec .refreshTimerExpiry s =
        .next (put h { r with state := .admitted slot (some 1) })) ∧
      (engaged → s.admQueue.length < 8 → exec .refreshTimerExpiry s = .next
        { s with ext := { s.ext with generator := nonce, records := s.ext.records.set h (some
                   { r with state := .refreshing slot nonce s.params.answerTimeout }) }
                 admQueue := s.admQueue ++ [(OutgoingCell.challenge slot nonce).build] }))

/-- R135 to R141, with R62, R110, R112, R128 to R130: however an extension loses its admission, the open legs of its
scope set are put into CLEARING with cause FAULT, their conference places and local memberships are gone, the
conferences it chaired (and, under CALL scope, those it took part in) are closed, ADMISSION_LOST is queued; a leg
outside the scope set changes only where the conference it is in closes, a conference that stays open loses exactly
the affected members, every other record is left as it was, and so are the framer, the trunk port and, but for the
output map and the arrival that is taken, the line port. By its cause, the loss leaves X in `after`, is answered in
`link`, queues the REFUSE of a failed refresh in `cells`, and queues its notices: `told` those before ADMISSION_LOST,
then CONF_CLOSED for each closed conference, the engaged ones first. (Barring where a failed refresh takes the count past
the limit, which R128 does not meet: log entry 31.) -/
def Obligations.LossOfAdmissionEndsTheCalls : Prop :=
  ∀ (s : State) (c : Instr) (x : Handle) (r : ExtRecord) (former : Slot) (cause : Nat) (after : ExtRecord) (link : Link)
    (cells : List Cell) (told : State),
    s.LineLaws → s.resetAsserted = false → s.record x = some r → r.state.isAdmitted = true → r.state.slot? = some former →
    let plain : Prop := cells = s.admQueue ∧ told = s
    let state : Byte := match r.state with | .refreshing _ _ _ => 3 | _ => 2
    let failed (reason : RefuseReason) : Prop :=
      let barred : Bool := s.params.failureLimit ≤ r.failures + 1
      link = s.link ∧
      after = { r with failures := r.failures + 1
                       state := if barred then .barred (s.params.barTime * 1000) else .idle } ∧
      cells = (if s.admQueue.length < 8 then
        s.admQueue ++ [(OutgoingCell.refuse former (if barred then .barred else reason)).build] else s.admQueue) ∧
      told = s.notify (if barred then .barred else .admitFailed) x (BitVec.ofNat 16 reason.value.toNat)
    (((∃ body, c = .extSuspend body ∧ s.ready ∧ (parseRef false body).bind s.lookup = some x) ∧ cause = 3 ∧ plain ∧
      after = { r with state := .suspended } ∧ link = (s.answered 0x0C .ok [state]).link) ∨
     ((∃ body, c = .extRevoke body ∧ s.ready ∧ (parseRef false body).bind s.lookup = some x) ∧ cause = 4 ∧ plain ∧
      after = { r with state := .idle } ∧ link = (s.answered 0x0F .ok [state]).link) ∨
     (c = .admissionCellArrival ∧ s.line.cellDue = false ∧ s.line.arrival.map judgeAdmissionCell = some (.bye former) ∧
      s.ext.listen[former] = true ∧ cause = 1 ∧ plain ∧ after = { r with state := .idle } ∧ link = s.link) ∨
     ((∃ word nonce timer, c = .admissionCellArrival ∧ s.line.cellDue = false ∧
      s.line.arrival.map judgeAdmissionCell = some (.answer former word) ∧
      s.ext.listen[former] = true ∧ r.state = .refreshing former nonce timer ∧ word ≠ admissionWord r.credential nonce) ∧
      cause = 2 ∧ failed .wrong) ∨
     ((∃ nonce, c = .answerTimerExpiry x ∧ r.state = .refreshing former nonce 0) ∧ cause = 2 ∧ failed .timeout)) →
    let affected (h : Handle) : Prop :=
      if r.scope = .group then ∃ q, s.record h = some q ∧ q.group = r.group else h = x
    let engaged (k : ConfNo) : Prop := r.scope = .call ∧ ∃ cf, s.confs[k] = some cf ∧
      ∃ m ∈ cf.members, m = .loc x ∨ ∃ (n : LegNo) (l : Leg), m = .leg n ∧ s.legs[n] = some l ∧ l.owner = x
    let chaired (k : ConfNo) : Prop := ∃ cf, s.confs[k] = some cf ∧ cf.chair = some x
    let closed (k : ConfNo) : Prop := engaged k ∨ chaired k
    ∃ t, exec c s = .next t ∧
      t.record x = some after ∧ t.link = link ∧ t.admQueue = cells ∧
      (∃ byFault byChair : List ConfNo,
        (byFault.map (·.val)).Pairwise (· < ·) ∧ (∀ k, k ∈ byFault ↔ engaged k) ∧
        (byChair.map (·.val)).Pairwise (· < ·) ∧ (∀ k, k ∈ byChair ↔ chaired k ∧ ¬engaged k) ∧
        let lost := told.notify .admissionLost x (BitVec.ofNat 16 (256 * r.scope.value.toNat + cause))
        t.notices = (byChair.foldl (fun u k => u.notify .confClosed k 2)
          (byFault.foldl (fun u k => u.notify .confClosed k 1) lost)).notices) ∧
      (∀ h : Handle, h ≠ x → t.record h = s.record h) ∧
      (∀ (n : LegNo) (l : Leg), s.legs[n] = some l → affected l.owner → l.state.isOpen = true →
        ∃ k, t.legs[n] = some k ∧ k.state = .clearing .fault ∧ k.endpoint = .parked ∧ k.owner = l.owner ∧ k.slot = l.slot ∧
          (k.wantsClear = true ∨ ⟨.clear, n⟩ ∈ t.cellQueue) ∧ ⟨.sync, n⟩ ∉ t.cellQueue ∧ ⟨.roll, n⟩ ∉ t.cellQueue) ∧
      (∀ (n : LegNo) (l : Leg), s.legs[n] = some l → ¬(affected l.owner ∧ l.state.isOpen = true) →
        t.legs[n] = some { l with endpoint := match l.endpoint with
                                              | .conference k => if t.confs[k] = none then .parked else .conference k
                                              | e => e }) ∧
      (∀ n : LegNo, s.legs[n] = none → t.legs[n] = none) ∧
      (∀ k : ConfNo, closed k ∨ s.confs[k] = none → t.confs[k] = none) ∧
      (∀ (k : ConfNo) (cf : Conf), ¬closed k → s.confs[k] = some cf → ∃ removed : List Member,
        t.confs[k] = some { cf with members := cf.members.filter (fun m => m ∉ removed)
                                    mixSet := cf.mixSet.map fun set => removed.foldl List.erase set } ∧
        removed.Nodup ∧ ∀ m : Member, m ∈ removed ↔ m ∈ cf.members ∧ ((∃ h, m = .loc h ∧ affected h) ∨
          (∃ (n : LegNo) (l : Leg), m = .leg n ∧ s.legs[n] = some l ∧ l.state.isOpen = true ∧ affected l.owner))) ∧
      t.line.outMap[former] = .vacant ∧
      (s.notices.mask.getLsbD 8 = true →
        ({ kind := .admissionLost, subject := byteOf x, stamp := s.line.blockCount
           detail := BitVec.ofNat 16 (256 * r.scope.value.toNat + cause) } : Notice) ∈ t.notices.queue) ∧
      t.framer = s.framer ∧ t.trunk = s.trunk ∧ t.hold = s.hold ∧ t.params = s.params ∧
      t.ext = { s.ext with records := t.ext.records } ∧
      t.line = { s.line with outMap := t.line.outMap, arrival := t.line.arrival } ∧ t.pending = s.pending

/-! ### Conferences (chapter 10) -/

/-- R147, R148: CONF_OPEN fills a fresh record after its checks in order; CONF_CLOSE parks the leg members, gives up the
local members' slots, frees the record and tells CONF_CLOSED with cause HOST. -/
def Obligations.ConferencesOpenAndClose : Prop :=
  ∀ s : State, s.ready →
    (∀ body c chair, parseConfOpen body = some (c, chair) →
      let opened (h : Option Handle) : Host.Outcome State Fault Refusal := .next (State.answered { s with confs := s.confs.set c (some
        { chair := h, members := [], governor := 128, attenuation := 0, overload := false, clippedBlocks := 0
          mixSet := none, clipMark := false, judged := none }) } 0x11 .ok [])
      (s.confs[c] ≠ none → exec (.confOpen body) s = .next (s.answered 0x11 .busy [])) ∧
      (s.confs[c] = none →
        (chair = none → exec (.confOpen body) s = opened none) ∧
        (∀ ref, chair = some ref → s.lookup ref = none → exec (.confOpen body) s = .next (s.answered 0x11 .notFound [])) ∧
        (∀ ref h r, chair = some ref → s.lookup ref = some h → s.record h = some r →
          (r.state.isAdmitted = false → exec (.confOpen body) s = .next (s.answered 0x11 .notAdmitted [])) ∧
          (r.state.isAdmitted = true → r.cls.mayConference = false →
            exec (.confOpen body) s = .next (s.answered 0x11 .notPermitted [])) ∧
          (r.state.isAdmitted = true → r.cls.mayConference = true → exec (.confOpen body) s = opened (some h))))) ∧
    (∀ body c, parseConf body = some c →
      (s.confs[c] = none → exec (.confClose body) s = .next (s.answered 0x14 .state [])) ∧
      (∀ k, s.confs[c] = some k → ∃ t : State, exec (.confClose body) s = .next (t.answered 0x14 .ok []) ∧
        t.confs = s.confs.set c none ∧
        (∀ n, .leg n ∈ k.members → t.legs[n] = (s.legs[n]).map fun l => { l with endpoint := .parked }) ∧
        (∀ n, .leg n ∉ k.members → t.legs[n] = s.legs[n]) ∧
        (∀ j : Slot, t.line.outMap[j] = if s.line.outMap[j] = .conference c ∧ ∃ h, .loc h ∈ k.members ∧ s.boundSlot h = some j
          then .vacant else s.line.outMap[j]) ∧
        t.notices = (s.notify .confClosed c 0).notices ∧
        t = { s with confs := t.confs, legs := t.legs, line := { s.line with outMap := t.line.outMap }, notices := t.notices }))

/-- R149 to R152: CONF_JOIN and CONF_LEAVE taken while the hold is CLOSED, by their checks in order and with their
effects on the member's line side. -/
def Obligations.MembersJoinAndLeave : Prop :=
  ∀ (s : State) (body : List Byte) (c : ConfNo) (m : MemberRef), s.ready → s.hold = .closed →
    parseConfMember body = some (c, m) →
    (s.confs[c] = none → exec (.confJoin body) s = .next (s.answered 0x12 .state []) ∧
      exec (.confLeave body) s = .next (s.answered 0x13 .state [])) ∧
    ∀ k, s.confs[c] = some k →
      let noPlace : Prop := 8 ≤ k.members.length ∨ s.freePlaces = 0
      let joined (x : Member) : Vector (Option Conf) 8 := s.confs.set c (some { k with members := k.members ++ [x] })
      let left (x : Member) : Vector (Option Conf) 8 := s.confs.set c (some
        { k with members := k.members.erase x, mixSet := k.mixSet.map (·.erase x) })
      (∀ n, m = .leg n →
        (s.legs[n] = none ∨ (∃ l, s.legs[n] = some l ∧ l.state.isOpen = false) →
          exec (.confJoin body) s = .next (s.answered 0x12 .state [])) ∧
        (∀ l, s.legs[n] = some l → l.state.isOpen = true →
          (∀ d, l.endpoint = .conference d → exec (.confJoin body) s = .next (s.answered 0x12 .existing [])) ∧
          ((∀ d, l.endpoint ≠ .conference d) → (s.record l.owner).any (·.cls.mayConference) = false →
            exec (.confJoin body) s = .next (s.answered 0x12 .notPermitted [])) ∧
          ((∀ d, l.endpoint ≠ .conference d) → (s.record l.owner).any (·.cls.mayConference) = true → noPlace →
            exec (.confJoin body) s = .next (s.answered 0x12 .full [])) ∧
          ((∀ d, l.endpoint ≠ .conference d) → (s.record l.owner).any (·.cls.mayConference) = true → ¬noPlace →
            exec (.confJoin body) s = .next (State.answered
              { s with confs := joined (.leg n), legs := s.legs.set n (some { l with endpoint := .conference c })
                       line := if l.endpoint = .line then s.line.release (s.boundSlot l.owner) (.leg n) else s.line }
              0x12 .ok [byteOf (k.members.length + 1), 0xFF])) ∧
          (.leg n ∈ k.members → exec (.confLeave body) s = .next (State.answered
            { s with confs := left (.leg n), legs := s.legs.set n (some { l with endpoint := .parked }) } 0x13 .ok []))) ∧
        (.leg n ∉ k.members → exec (.confLeave body) s = .next (s.answered 0x13 .notFound []))) ∧
      (∀ ref, m = .loc ref → s.lookup ref = none →
        exec (.confJoin body) s = .next (s.answered 0x12 .notFound []) ∧
        exec (.confLeave body) s = .next (s.answered 0x13 .notFound [])) ∧
      (∀ ref h r, m = .loc ref → s.lookup ref = some h → s.record h = some r →
        (r.state.isAdmitted = false → exec (.confJoin body) s = .next (s.answered 0x12 .notAdmitted [])) ∧
        (r.state.isAdmitted = true → (s.localConf h).isSome = true →
          exec (.confJoin body) s = .next (s.answered 0x12 .existing [])) ∧
        (r.state.isAdmitted = true → s.localConf h = none → r.cls.mayConference = false →
          exec (.confJoin body) s = .next (s.answered 0x12 .notPermitted [])) ∧
        (r.state.isAdmitted = true → s.localConf h = none → r.cls.mayConference = true → noPlace →
          exec (.confJoin body) s = .next (s.answered 0x12 .full [])) ∧
        (∀ slot, r.state.isAdmitted = true → s.localConf h = none → r.cls.mayConference = true → ¬noPlace →
          r.state.slot? = some slot →
          let line := { s.line with outMap := s.line.outMap.set slot (.conference c) }
          (s.lineLegOf h = none → exec (.confJoin body) s = .next (State.answered
            { s with confs := joined (.loc h), line := line } 0x12 .ok [byteOf (k.members.length + 1), 0xFF])) ∧
          (∀ n l, s.lineLegOf h = some n → s.legs[n] = some l → exec (.confJoin body) s = .next (State.answered
            { s with confs := joined (.loc h), line := line, legs := s.legs.set n (some { l with endpoint := .parked }) }
            0x12 .ok [byteOf (k.members.length + 1), byteOf n]))) ∧
        (.loc h ∉ k.members → exec (.confLeave body) s = .next (s.answered 0x13 .notFound [])) ∧
        (∀ slot, .loc h ∈ k.members → r.state.slot? = some slot → s.line.outMap[slot] = .conference c →
          exec (.confLeave body) s = .next (State.answered
            { s with confs := left (.loc h), line := { s.line with outMap := s.line.outMap.set slot .vacant } } 0x13 .ok [])))

/-- R157, R158: the governor of a conference that mixed in the block just ended: the count, the attenuation, the
overload flag and its notices. -/
def Obligations.GovernorJudgesTheBlock : Prop :=
  ∀ (s : State) (c : ConfNo) (k : Conf) (clipped : Bool), s.resetAsserted = false → s.confs[c] = some k →
    k.judged = some clipped →
    let count := if clipped then k.governor + 8 else k.governor - 1
    let base : Conf := { k with judged := none, clippedBlocks := if clipped then bump k.clippedBlocks else k.clippedBlocks }
    let put (q : Conf) : State := { s with confs := s.confs.set c (some q) }
    (0 < count → count < 192 → exec (.governorUpdate c) s = .next (put { base with governor := count })) ∧
    (192 ≤ count →
      (k.attenuation < 5 → exec (.governorUpdate c) s =
        .next (put { base with governor := 128, attenuation := k.attenuation + 1 })) ∧
      (5 ≤ k.attenuation → k.overload = true → exec (.governorUpdate c) s =
        .next (put { base with governor := 128, attenuation := 6 })) ∧
      (5 ≤ k.attenuation → k.overload = false → exec (.governorUpdate c) s =
        .next ((put { base with governor := 128, attenuation := 6, overload := true }).notify .confOverload c 6))) ∧
    (count = 0 →
      (1 < k.attenuation ∨ k.overload = false → exec (.governorUpdate c) s =
        .next (put { base with governor := 128, attenuation := k.attenuation - 1 })) ∧
      (k.attenuation ≤ 1 → k.overload = true → exec (.governorUpdate c) s =
        .next ((put { base with governor := 128, attenuation := 0, overload := false }).notify .confRelieved c 0)))

/-! ### Held changes (chapter 11) -/

/-- R163 to R165: HOLD_BEGIN, HOLD_CANCEL and HOLD_COMMIT by the state of the hold, and the staging of the five kinds of
request while it is OPEN. -/
def Obligations.HeldRequestsAreStaged : Prop :=
  ∀ s : State, s.ready →
    (s.hold = .closed → exec (.holdBegin []) s = .next (State.answered { s with hold := .opened [] .absent } 0x16 .ok []) ∧
      exec (.holdCommit []) s = .next (s.answered 0x17 .state []) ∧
      exec (.holdCancel []) s = .next (s.answered 0x18 .state [])) ∧
    ∀ entries mark, s.hold = .opened entries mark →
      exec (.holdBegin []) s = .next (s.answered 0x16 .state []) ∧
      (mark ≠ .absent → exec (.holdCommit []) s = .next (s.answered 0x17 .busy []) ∧
        exec (.holdCancel []) s = .next (s.answered 0x18 .busy [])) ∧
      (mark = .absent →
        exec (.holdCancel []) s = .next (State.answered { s with hold := .closed } 0x18 .ok [byteOf entries.length]) ∧
        ∃ t, exec (.holdCommit []) s = .next t ∧ t.hold = .opened entries .pending ∧
          t = { s with hold := t.hold, link := t.link } ∧
          (s.link.leaving.isSome = true ∨ s.link.replies = [] ∨ s.link.replies.head? = some none →
            t.link = { s.link with replies := s.link.replies ++ [none] })) ∧
      (∀ c e, (∃ body n, c = .legConnect body ∧ parseLeg body = some n ∧ e = .connect n) ∨
          (∃ body n, c = .legPark body ∧ parseLeg body = some n ∧ e = .park n) ∨
          (∃ body n g, c = .legLevel body ∧ parseLegLevel body = some (n, g) ∧ e = .level n g) ∨
          (∃ body k m, c = .confJoin body ∧ parseConfMember body = some (k, m) ∧ e = .join k m) ∨
          (∃ body k m, c = .confLeave body ∧ parseConfMember body = some (k, m) ∧ e = .leave k m) →
        let unknown : Prop := ∃ k ref, (e = .join k (.loc ref) ∨ e = .leave k (.loc ref)) ∧ s.lookup ref = none
        (unknown → exec c s = .next (s.answered e.code .notFound [])) ∧
        (¬unknown → entries.length < 16 → exec c s = .next (State.answered
          { s with hold := .opened (entries ++ [e]) mark } e.code .staged [byteOf (entries.length + 1)])) ∧
        (¬unknown → 16 ≤ entries.length → exec c s = .next (s.answered e.code .full [])))

/-- R166, section 12.7: the application of a commit: each entry has, in list order, exactly the effect its own request
would have at that moment, and its line of the reply; a dropped entry changes nothing (the bytes of its line after the
status: log entry 20); the reply takes the place that was kept for it; the hold is CLOSED. -/
def Obligations.CommitAppliesTheEntriesInOrder : Prop :=
  (∀ (s : State) (entries : List HeldChange), s.resetAsserted = false → s.hold = .opened entries .due →
    exec .holdCommitApply s = .next { (applyEntries 1 entries s).1 with
      hold := .closed
      link := (applyEntries 1 entries s).1.link.resolve ⟨0x97, .ok, byteOf entries.length :: (applyEntries 1 entries s).2⟩ }) ∧
  (∀ (i : Nat) (s : State), applyEntries i [] s = (s, [])) ∧
  (∀ (i : Nat) (before : List HeldChange) (e : HeldChange) (s : State),
    let u := (applyEntries i before s).1
    applyEntries i (before ++ [e]) s =
      ((applyChange e u).1, (applyEntries i before s).2 ++ e.line (i + before.length) (applyChange e u).2)) ∧
  (∀ (e : HeldChange) (s : State) (i : Nat), ∃ st body, (applyChange e s).2 = .now st body ∧
    (st ≠ .ok → (applyChange e s).1 = s ∧ e.line i (.now st body) = [byteOf i, e.code, st.value, 0, 0xFF]) ∧
    (st = .ok → e.line i (.now st body) = [byteOf i, e.code, 0] ++
      (match e with
        | .level _ g => [BitVec.ofInt 8 g, 0xFF] | .connect _ => 0 :: body | .join _ _ => body
        | .park _ => [0, 0xFF] | .leave _ _ => [0, 0xFF])) ∧
    e.code = (match e with
      | .connect _ => 0x03 | .park _ => 0x04 | .level _ _ => 0x05 | .join _ _ => 0x12 | .leave _ _ => 0x13) ∧
    (applyChange e s).1 = { s with legs := (applyChange e s).1.legs, confs := (applyChange e s).1.confs
                                   line := { s.line with outMap := (applyChange e s).1.line.outMap } }) ∧
  (∀ (c : Instr) (e : HeldChange) (s : State), s.ready → s.hold = .closed →
    (∃ body n, c = .legConnect body ∧ parseLeg body = some n ∧ e = .connect n) ∨
    (∃ body n, c = .legPark body ∧ parseLeg body = some n ∧ e = .park n) ∨
    (∃ body n g, c = .legLevel body ∧ parseLegLevel body = some (n, g) ∧ e = .level n g) ∨
    (∃ body k m, c = .confJoin body ∧ parseConfMember body = some (k, m) ∧ e = .join k m) ∨
    (∃ body k m, c = .confLeave body ∧ parseConfMember body = some (k, m) ∧ e = .leave k m) →
    ∃ st body, (applyChange e s).2 = .now st body ∧ exec c s = .next ((applyChange e s).1.answered e.code st body)) ∧
  (∀ (l : Link) (r : Reply) (before rest : List (Option Reply)), (∀ x ∈ before, x.isSome = true) → l.replies = before ++ none :: rest →
    l.leaving.isSome = true → l.resolve r = { l with replies := before ++ some r :: rest })

/-! ### What every taking keeps -/

/-- R71, R72, R94, R116, R134, R161, R162, R171, R174: the reset pin leaves a part that keeps every law. -/
def Obligations.LawsHoldAtReset : Prop :=
  State.reset.Bounded ∧ State.reset.RepliesInOrder ∧ State.reset.LegsDistinct ∧ State.reset.FailureLaw ∧
  State.reset.CellQueueLaws ∧ State.reset.KeyLaws ∧ State.reset.ReceiveLaws ∧ State.reset.LineLaws

/-- R4, R10, R13, R42, R76, R80, R92, R114, R120, R145, R162, R171, R172, R174: every step keeps every queue, list and
counter within its range, the attention line with the notice queue, and the reply list in its order. -/
def Obligations.StepsKeepTheRanges : Prop :=
  ∀ s t : State, s.Bounded → s.RepliesInOrder → step s = .next t → t.Bounded ∧ t.RepliesInOrder

/-- R50, R105, R106, R113: every step keeps trunk slots and receive tags apart, line slots and numbers apart, and each
failure count below the limit but for a barred record's. -/
def Obligations.StepsKeepTheTables : Prop :=
  (∀ s t : State, s.LegsDistinct → step s = .next t → t.LegsDistinct) ∧
  (∀ s t : State, s.RecordsDistinct → step s = .next t → t.RecordsDistinct) ∧
  (∀ s t : State, s.params.Bounded → s.FailureLaw → step s = .next t → t.FailureLaw)

/-- R76, R79, R66: every step keeps the laws of the Trunk Cell Queue; R36, R97, R102: and, with them, the laws of each
leg's keys and counters. -/
def Obligations.StepsKeepTheQueueAndKeys : Prop :=
  (∀ s t : State, s.CellQueueLaws → step s = .next t → t.CellQueueLaws) ∧
  (∀ s t : State, s.CellQueueLaws → s.KeyLaws → step s = .next t → t.KeyLaws)

/-- R80, R82, R84, R40: every step keeps the framer aligned with the line frames, and legs count received blocks only
while it is in SYNC. -/
def Obligations.StepsKeepTheReceiveSide : Prop :=
  ∀ s t : State, s.ReceiveLaws → step s = .next t → t.ReceiveLaws

/-- R7, R51, R52, R105, R146: every step keeps admission, legs, conferences and the line slot output map in accord. -/
def Obligations.StepsKeepTheLineSide : Prop :=
  ∀ s t : State, s.LineLaws → step s = .next t → t.LineLaws
end

