-- ==== Sys2Proof/Laws/Requests.lean ====
section
/-! SUPPORT. A host request taken: what each request command answers once its body is read and its handler known. The
statements about requests cite these and never unfold the taking. -/

namespace Sys2Proof.Machine

variable {s t : State} {code : Byte} {body b : List Byte} {st : Status}

/-- A taking that answers at once joins its reply to the reply list. -/
theorem takeRequest_now {hd : State → State × Answer} (hw : s.link.waiting < Config.replyRoom)
    (h : hd s = (t, .now st b)) : takeRequest code hd s = t.answered code st b := by
  simp [takeRequest, hw, h, State.answered, Answer.reply]

/-- A taking whose reply is made later joins an outstanding place to the reply list. -/
theorem takeRequest_later {hd : State → State × Answer} (hw : s.link.waiting < Config.replyRoom)
    (h : hd s = (t, .later)) : takeRequest code hd s = { t with link := t.link.push none } := by
  simp [takeRequest, hw, h, Answer.reply]

/-- A request that completes while 16 replies wait is not taken. -/
theorem takeRequest_full {hd : State → State × Answer} (hw : ¬ s.link.waiting < Config.replyRoom) :
    takeRequest code hd s = s := by
  simp [takeRequest, hw]

/-- A body that does not read is refused with BAD_ARGUMENT. -/
theorem withArgs_none {α : Type} {f : α → State → State × Answer} {x : Option α} (h : x = none) :
    withArgs x f s = (s, .now .badArgument []) := by
  subst h; rfl

/-- A body that reads is handled. -/
theorem withArgs_some {α : Type} {f : α → State → State × Answer} {x : Option α} {a : α} (h : x = some a) :
    withArgs x f s = f a s := by
  subst h; rfl

/-- The outcome of a command taken while the reset line is released. -/
theorem whenInService_next {f : State → State} (h : s.resetAsserted = false) : whenInService s f = .next (f s) := by
  simp [whenInService, h]

/-- The outcome of a command met while the reset line is asserted. -/
theorem whenInService_reset {f : State → State} (h : s.resetAsserted = true) : whenInService s f = .next s := by
  simp [whenInService, h]

/-- The record a reference names is handled. -/
theorem withRecord_some {f : Handle → ExtRecord → State → State × Answer} {ref : ExtRef} {h : Handle} {r : ExtRecord}
    {x : Option ExtRef} (hx : x = some ref) (hl : s.lookup ref = some h) (hr : s.record h = some r) :
    withRecord x f s = f h r s := by
  subst hx; simp [withRecord, hl, hr]

/-- A reference that names no record is refused with NOT_FOUND. -/
theorem withRecord_missing {f : Handle → ExtRecord → State → State × Answer} {ref : ExtRef} {x : Option ExtRef}
    (hx : x = some ref) (hl : s.lookup ref = none) : withRecord x f s = (s, .now .notFound []) := by
  subst hx; simp [withRecord, hl, refuse]

/-! ### One lemma for each request -/

theorem exec_legOpen_now {a : LegOpenArgs} (hs : s.ready) (ha : parseLegOpen body = some a) (h : openLeg a s = (t, .now st b)) :
    exec (.legOpen body) s = .next (t.answered 0x01 st b) := by
  have hd : legOpenRequest body s = (t, .now st b) := by rw [legOpenRequest, withArgs_some ha, h]
  rw [exec, execLegOpen, whenInService_next hs.1, takeRequest_now hs.2 hd]

theorem exec_legClose_now {a : LegNo} (hs : s.ready) (ha : parseLeg body = some a) (h : closeLeg a s = (t, .now st b)) :
    exec (.legClose body) s = .next (t.answered 0x02 st b) := by
  have hd : legCloseRequest body s = (t, .now st b) := by rw [legCloseRequest, withArgs_some ha, h]
  rw [exec, execLegClose, whenInService_next hs.1, takeRequest_now hs.2 hd]

theorem exec_legRekey_now {a : LegNo × KeySetting} (hs : s.ready) (ha : parseLegRekey body = some a) (h : rekeyLeg a s = (t, .now st b)) :
    exec (.legRekey body) s = .next (t.answered 0x06 st b) := by
  have hd : legRekeyRequest body s = (t, .now st b) := by rw [legRekeyRequest, withArgs_some ha, h]
  rw [exec, execLegRekey, whenInService_next hs.1, takeRequest_now hs.2 hd]

theorem exec_legRead_now {a : LegNo × Bool} (hs : s.ready) (ha : parseLegRead body = some a) (h : readLeg a s = (t, .now st b)) :
    exec (.legRead body) s = .next (t.answered 0x07 st b) := by
  have hd : legReadRequest body s = (t, .now st b) := by rw [legReadRequest, withArgs_some ha, h]
  rw [exec, execLegRead, whenInService_next hs.1, takeRequest_now hs.2 hd]

theorem exec_trunkRead_now {a : Bool} (hs : s.ready) (ha : parseOpt body = some a) (h : readTrunk a s = (t, .now st b)) :
    exec (.trunkRead body) s = .next (t.answered 0x08 st b) := by
  have hd : trunkReadRequest body s = (t, .now st b) := by rw [trunkReadRequest, withArgs_some ha, h]
  rw [exec, execTrunkRead, whenInService_next hs.1, takeRequest_now hs.2 hd]

theorem exec_extLoad_now {a : ExtLoadArgs} (hs : s.ready) (ha : parseExtLoad body = some a) (h : loadExt a s = (t, .now st b)) :
    exec (.extLoad body) s = .next (t.answered 0x09 st b) := by
  have hd : extLoadRequest body s = (t, .now st b) := by rw [extLoadRequest, withArgs_some ha, h]
  rw [exec, execExtLoad, whenInService_next hs.1, takeRequest_now hs.2 hd]

theorem exec_slotMap_now {a : Bool × List (Slot × Bool)} (hs : s.ready) (ha : parseSlotMap body = some a) (h : mapSlots a s = (t, .now st b)) :
    exec (.slotMap body) s = .next (t.answered 0x10 st b) := by
  have hd : slotMapRequest body s = (t, .now st b) := by rw [slotMapRequest, withArgs_some ha, h]
  rw [exec, execSlotMap, whenInService_next hs.1, takeRequest_now hs.2 hd]

theorem exec_confOpen_now {a : ConfNo × Option ExtRef} (hs : s.ready) (ha : parseConfOpen body = some a) (h : openConf a s = (t, .now st b)) :
    exec (.confOpen body) s = .next (t.answered 0x11 st b) := by
  have hd : confOpenRequest body s = (t, .now st b) := by rw [confOpenRequest, withArgs_some ha, h]
  rw [exec, execConfOpen, whenInService_next hs.1, takeRequest_now hs.2 hd]

theorem exec_confClose_now {a : ConfNo} (hs : s.ready) (ha : parseConf body = some a) (h : hostCloseConf a s = (t, .now st b)) :
    exec (.confClose body) s = .next (t.answered 0x14 st b) := by
  have hd : confCloseRequest body s = (t, .now st b) := by rw [confCloseRequest, withArgs_some ha, h]
  rw [exec, execConfClose, whenInService_next hs.1, takeRequest_now hs.2 hd]

theorem exec_confRead_now {a : ConfNo × Bool} (hs : s.ready) (ha : parseConfRead body = some a) (h : readConf a s = (t, .now st b)) :
    exec (.confRead body) s = .next (t.answered 0x15 st b) := by
  have hd : confReadRequest body s = (t, .now st b) := by rw [confReadRequest, withArgs_some ha, h]
  rw [exec, execConfRead, whenInService_next hs.1, takeRequest_now hs.2 hd]

theorem exec_holdBegin_now {a : Unit} (hs : s.ready) (ha : parseEmpty body = some a) (h : beginHold a s = (t, .now st b)) :
    exec (.holdBegin body) s = .next (t.answered 0x16 st b) := by
  have hd : holdBeginRequest body s = (t, .now st b) := by rw [holdBeginRequest, withArgs_some ha, h]
  rw [exec, execHoldBegin, whenInService_next hs.1, takeRequest_now hs.2 hd]

theorem exec_holdCommit_now {a : Unit} (hs : s.ready) (ha : parseEmpty body = some a) (h : commitHold a s = (t, .now st b)) :
    exec (.holdCommit body) s = .next (t.answered 0x17 st b) := by
  have hd : holdCommitRequest body s = (t, .now st b) := by rw [holdCommitRequest, withArgs_some ha, h]
  rw [exec, execHoldCommit, whenInService_next hs.1, takeRequest_now hs.2 hd]

theorem exec_holdCancel_now {a : Unit} (hs : s.ready) (ha : parseEmpty body = some a) (h : cancelHold a s = (t, .now st b)) :
    exec (.holdCancel body) s = .next (t.answered 0x18 st b) := by
  have hd : holdCancelRequest body s = (t, .now st b) := by rw [holdCancelRequest, withArgs_some ha, h]
  rw [exec, execHoldCancel, whenInService_next hs.1, takeRequest_now hs.2 hd]

theorem exec_paramSet_now {a : ParamId × Nat} (hs : s.ready) (ha : parseParamSet body = some a) (h : setParam a s = (t, .now st b)) :
    exec (.paramSet body) s = .next (t.answered 0x19 st b) := by
  have hd : paramSetRequest body s = (t, .now st b) := by rw [paramSetRequest, withArgs_some ha, h]
  rw [exec, execParamSet, whenInService_next hs.1, takeRequest_now hs.2 hd]

theorem exec_paramRead_now {a : Unit} (hs : s.ready) (ha : parseEmpty body = some a) (h : readParams a s = (t, .now st b)) :
    exec (.paramRead body) s = .next (t.answered 0x1A st b) := by
  have hd : paramReadRequest body s = (t, .now st b) := by rw [paramReadRequest, withArgs_some ha, h]
  rw [exec, execParamRead, whenInService_next hs.1, takeRequest_now hs.2 hd]

theorem exec_noticeFetch_now {a : Nat} (hs : s.ready) (ha : parseFetch body = some a) (h : fetchNotices a s = (t, .now st b)) :
    exec (.noticeFetch body) s = .next (t.answered 0x1B st b) := by
  have hd : noticeFetchRequest body s = (t, .now st b) := by rw [noticeFetchRequest, withArgs_some ha, h]
  rw [exec, execNoticeFetch, whenInService_next hs.1, takeRequest_now hs.2 hd]

theorem exec_noticeMask_now {a : Option (BitVec 32)} (hs : s.ready) (ha : parseNoticeMask body = some a) (h : maskNotices a s = (t, .now st b)) :
    exec (.noticeMask body) s = .next (t.answered 0x1C st b) := by
  have hd : noticeMaskRequest body s = (t, .now st b) := by rw [noticeMaskRequest, withArgs_some ha, h]
  rw [exec, execNoticeMask, whenInService_next hs.1, takeRequest_now hs.2 hd]

theorem exec_restart_now {a : Unit} (hs : s.ready) (ha : parseEmpty body = some a) (h : restartPart a s = (t, .now st b)) :
    exec (.restart body) s = .next (t.answered 0x1D st b) := by
  have hd : restartRequest body s = (t, .now st b) := by rw [restartRequest, withArgs_some ha, h]
  rw [exec, execRestart, whenInService_next hs.1, takeRequest_now hs.2 hd]

theorem exec_legConnect_now {a : LegNo} (hs : s.ready) (ha : parseLeg body = some a)
    (h : stageOr (.connect a) (fun _ => true) (connectLeg a) s = (t, .now st b)) :
    exec (.legConnect body) s = .next (t.answered 0x03 st b) := by
  have hd : legConnectRequest body s = (t, .now st b) := by rw [legConnectRequest, withArgs_some ha]; exact h
  rw [exec, execLegConnect, whenInService_next hs.1, takeRequest_now hs.2 hd]

theorem exec_legPark_now {a : LegNo} (hs : s.ready) (ha : parseLeg body = some a)
    (h : stageOr (.park a) (fun _ => true) (parkLeg a) s = (t, .now st b)) :
    exec (.legPark body) s = .next (t.answered 0x04 st b) := by
  have hd : legParkRequest body s = (t, .now st b) := by rw [legParkRequest, withArgs_some ha]; exact h
  rw [exec, execLegPark, whenInService_next hs.1, takeRequest_now hs.2 hd]

theorem exec_legLevel_now {a : LegNo × Int} (hs : s.ready) (ha : parseLegLevel body = some a)
    (h : stageOr (.level a.1 a.2) (fun _ => true) (levelLeg a.1 a.2) s = (t, .now st b)) :
    exec (.legLevel body) s = .next (t.answered 0x05 st b) := by
  have hd : legLevelRequest body s = (t, .now st b) := by rw [legLevelRequest, withArgs_some ha]; exact h
  rw [exec, execLegLevel, whenInService_next hs.1, takeRequest_now hs.2 hd]

theorem exec_confJoin_now {a : ConfNo × MemberRef} (hs : s.ready) (ha : parseConfMember body = some a)
    (h : stageOr (.join a.1 a.2) (memberExists a.2) (joinConf a.1 a.2) s = (t, .now st b)) :
    exec (.confJoin body) s = .next (t.answered 0x12 st b) := by
  have hd : confJoinRequest body s = (t, .now st b) := by rw [confJoinRequest, withArgs_some ha]; exact h
  rw [exec, execConfJoin, whenInService_next hs.1, takeRequest_now hs.2 hd]

theorem exec_confLeave_now {a : ConfNo × MemberRef} (hs : s.ready) (ha : parseConfMember body = some a)
    (h : stageOr (.leave a.1 a.2) (memberExists a.2) (leaveConf a.1 a.2) s = (t, .now st b)) :
    exec (.confLeave body) s = .next (t.answered 0x13 st b) := by
  have hd : confLeaveRequest body s = (t, .now st b) := by rw [confLeaveRequest, withArgs_some ha]; exact h
  rw [exec, execConfLeave, whenInService_next hs.1, takeRequest_now hs.2 hd]

theorem exec_extRemove_now {ref : ExtRef} {h : Handle} {r : ExtRecord} (hs : s.ready)
    (ha : parseRef false body = some ref) (hl : s.lookup ref = some h) (hr : s.record h = some r)
    (hf : removeExt h r s = (t, .now st b)) : exec (.extRemove body) s = .next (t.answered 0x0A st b) := by
  have hd : extRemoveRequest body s = (t, .now st b) := by rw [extRemoveRequest, withRecord_some ha hl hr, hf]
  rw [exec, execExtRemove, whenInService_next hs.1, takeRequest_now hs.2 hd]

theorem exec_extRemove_missing {ref : ExtRef} (hs : s.ready) (ha : parseRef false body = some ref)
    (hl : s.lookup ref = none) : exec (.extRemove body) s = .next (s.answered 0x0A .notFound []) := by
  have hd : extRemoveRequest body s = (s, .now .notFound []) := by rw [extRemoveRequest, withRecord_missing ha hl]
  rw [exec, execExtRemove, whenInService_next hs.1, takeRequest_now hs.2 hd]

theorem exec_extRead_now {ref : ExtRef} {h : Handle} {r : ExtRecord} (hs : s.ready)
    (ha : parseRef true body = some ref) (hl : s.lookup ref = some h) (hr : s.record h = some r)
    (hf : readExt h r s = (t, .now st b)) : exec (.extRead body) s = .next (t.answered 0x0B st b) := by
  have hd : extReadRequest body s = (t, .now st b) := by rw [extReadRequest, withRecord_some ha hl hr, hf]
  rw [exec, execExtRead, whenInService_next hs.1, takeRequest_now hs.2 hd]

theorem exec_extRead_missing {ref : ExtRef} (hs : s.ready) (ha : parseRef true body = some ref)
    (hl : s.lookup ref = none) : exec (.extRead body) s = .next (s.answered 0x0B .notFound []) := by
  have hd : extReadRequest body s = (s, .now .notFound []) := by rw [extReadRequest, withRecord_missing ha hl]
  rw [exec, execExtRead, whenInService_next hs.1, takeRequest_now hs.2 hd]

theorem exec_extSuspend_now {ref : ExtRef} {h : Handle} {r : ExtRecord} (hs : s.ready)
    (ha : parseRef false body = some ref) (hl : s.lookup ref = some h) (hr : s.record h = some r)
    (hf : suspendExt h r s = (t, .now st b)) : exec (.extSuspend body) s = .next (t.answered 0x0C st b) := by
  have hd : extSuspendRequest body s = (t, .now st b) := by rw [extSuspendRequest, withRecord_some ha hl hr, hf]
  rw [exec, execExtSuspend, whenInService_next hs.1, takeRequest_now hs.2 hd]

theorem exec_extSuspend_missing {ref : ExtRef} (hs : s.ready) (ha : parseRef false body = some ref)
    (hl : s.lookup ref = none) : exec (.extSuspend body) s = .next (s.answered 0x0C .notFound []) := by
  have hd : extSuspendRequest body s = (s, .now .notFound []) := by rw [extSuspendRequest, withRecord_missing ha hl]
  rw [exec, execExtSuspend, whenInService_next hs.1, takeRequest_now hs.2 hd]

theorem exec_extResume_now {ref : ExtRef} {h : Handle} {r : ExtRecord} (hs : s.ready)
    (ha : parseRef false body = some ref) (hl : s.lookup ref = some h) (hr : s.record h = some r)
    (hf : resumeExt h r s = (t, .now st b)) : exec (.extResume body) s = .next (t.answered 0x0D st b) := by
  have hd : extResumeRequest body s = (t, .now st b) := by rw [extResumeRequest, withRecord_some ha hl hr, hf]
  rw [exec, execExtResume, whenInService_next hs.1, takeRequest_now hs.2 hd]

theorem exec_extResume_missing {ref : ExtRef} (hs : s.ready) (ha : parseRef false body = some ref)
    (hl : s.lookup ref = none) : exec (.extResume body) s = .next (s.answered 0x0D .notFound []) := by
  have hd : extResumeRequest body s = (s, .now .notFound []) := by rw [extResumeRequest, withRecord_missing ha hl]
  rw [exec, execExtResume, whenInService_next hs.1, takeRequest_now hs.2 hd]

theorem exec_extUnbar_now {ref : ExtRef} {h : Handle} {r : ExtRecord} (hs : s.ready)
    (ha : parseRef false body = some ref) (hl : s.lookup ref = some h) (hr : s.record h = some r)
    (hf : unbarExt h r s = (t, .now st b)) : exec (.extUnbar body) s = .next (t.answered 0x0E st b) := by
  have hd : extUnbarRequest body s = (t, .now st b) := by rw [extUnbarRequest, withRecord_some ha hl hr, hf]
  rw [exec, execExtUnbar, whenInService_next hs.1, takeRequest_now hs.2 hd]

theorem exec_extUnbar_missing {ref : ExtRef} (hs : s.ready) (ha : parseRef false body = some ref)
    (hl : s.lookup ref = none) : exec (.extUnbar body) s = .next (s.answered 0x0E .notFound []) := by
  have hd : extUnbarRequest body s = (s, .now .notFound []) := by rw [extUnbarRequest, withRecord_missing ha hl]
  rw [exec, execExtUnbar, whenInService_next hs.1, takeRequest_now hs.2 hd]

theorem exec_extRevoke_now {ref : ExtRef} {h : Handle} {r : ExtRecord} (hs : s.ready)
    (ha : parseRef false body = some ref) (hl : s.lookup ref = some h) (hr : s.record h = some r)
    (hf : revokeExt h r s = (t, .now st b)) : exec (.extRevoke body) s = .next (t.answered 0x0F st b) := by
  have hd : extRevokeRequest body s = (t, .now st b) := by rw [extRevokeRequest, withRecord_some ha hl hr, hf]
  rw [exec, execExtRevoke, whenInService_next hs.1, takeRequest_now hs.2 hd]

theorem exec_extRevoke_missing {ref : ExtRef} (hs : s.ready) (ha : parseRef false body = some ref)
    (hl : s.lookup ref = none) : exec (.extRevoke body) s = .next (s.answered 0x0F .notFound []) := by
  have hd : extRevokeRequest body s = (s, .now .notFound []) := by rw [extRevokeRequest, withRecord_missing ha hl]
  rw [exec, execExtRevoke, whenInService_next hs.1, takeRequest_now hs.2 hd]

theorem exec_legOpen_bad (hs : s.ready) (ha : parseLegOpen body = none) :
    exec (.legOpen body) s = .next (s.answered 0x01 .badArgument []) := by
  have hd : legOpenRequest body s = (s, .now .badArgument []) := by rw [legOpenRequest, withArgs_none ha]
  rw [exec, execLegOpen, whenInService_next hs.1, takeRequest_now hs.2 hd]

theorem exec_legClose_bad (hs : s.ready) (ha : parseLeg body = none) :
    exec (.legClose body) s = .next (s.answered 0x02 .badArgument []) := by
  have hd : legCloseRequest body s = (s, .now .badArgument []) := by rw [legCloseRequest, withArgs_none ha]
  rw [exec, execLegClose, whenInService_next hs.1, takeRequest_now hs.2 hd]

theorem exec_legRekey_bad (hs : s.ready) (ha : parseLegRekey body = none) :
    exec (.legRekey body) s = .next (s.answered 0x06 .badArgument []) := by
  have hd : legRekeyRequest body s = (s, .now .badArgument []) := by rw [legRekeyRequest, withArgs_none ha]
  rw [exec, execLegRekey, whenInService_next hs.1, takeRequest_now hs.2 hd]

theorem exec_legRead_bad (hs : s.ready) (ha : parseLegRead body = none) :
    exec (.legRead body) s = .next (s.answered 0x07 .badArgument []) := by
  have hd : legReadRequest body s = (s, .now .badArgument []) := by rw [legReadRequest, withArgs_none ha]
  rw [exec, execLegRead, whenInService_next hs.1, takeRequest_now hs.2 hd]

theorem exec_trunkRead_bad (hs : s.ready) (ha : parseOpt body = none) :
    exec (.trunkRead body) s = .next (s.answered 0x08 .badArgument []) := by
  have hd : trunkReadRequest body s = (s, .now .badArgument []) := by rw [trunkReadRequest, withArgs_none ha]
  rw [exec, execTrunkRead, whenInService_next hs.1, takeRequest_now hs.2 hd]

theorem exec_extLoad_bad (hs : s.ready) (ha : parseExtLoad body = none) :
    exec (.extLoad body) s = .next (s.answered 0x09 .badArgument []) := by
  have hd : extLoadRequest body s = (s, .now .badArgument []) := by rw [extLoadRequest, withArgs_none ha]
  rw [exec, execExtLoad, whenInService_next hs.1, takeRequest_now hs.2 hd]

theorem exec_slotMap_bad (hs : s.ready) (ha : parseSlotMap body = none) :
    exec (.slotMap body) s = .next (s.answered 0x10 .badArgument []) := by
  have hd : slotMapRequest body s = (s, .now .badArgument []) := by rw [slotMapRequest, withArgs_none ha]
  rw [exec, execSlotMap, whenInService_next hs.1, takeRequest_now hs.2 hd]

theorem exec_confOpen_bad (hs : s.ready) (ha : parseConfOpen body = none) :
    exec (.confOpen body) s = .next (s.answered 0x11 .badArgument []) := by
  have hd : confOpenRequest body s = (s, .now .badArgument []) := by rw [confOpenRequest, withArgs_none ha]
  rw [exec, execConfOpen, whenInService_next hs.1, takeRequest_now hs.2 hd]

theorem exec_confClose_bad (hs : s.ready) (ha : parseConf body = none) :
    exec (.confClose body) s = .next (s.answered 0x14 .badArgument []) := by
  have hd : confCloseRequest body s = (s, .now .badArgument []) := by rw [confCloseRequest, withArgs_none ha]
  rw [exec, execConfClose, whenInService_next hs.1, takeRequest_now hs.2 hd]

theorem exec_confRead_bad (hs : s.ready) (ha : parseConfRead body = none) :
    exec (.confRead body) s = .next (s.answered 0x15 .badArgument []) := by
  have hd : confReadRequest body s = (s, .now .badArgument []) := by rw [confReadRequest, withArgs_none ha]
  rw [exec, execConfRead, whenInService_next hs.1, takeRequest_now hs.2 hd]

theorem exec_holdBegin_bad (hs : s.ready) (ha : parseEmpty body = none) :
    exec (.holdBegin body) s = .next (s.answered 0x16 .badArgument []) := by
  have hd : holdBeginRequest body s = (s, .now .badArgument []) := by rw [holdBeginRequest, withArgs_none ha]
  rw [exec, execHoldBegin, whenInService_next hs.1, takeRequest_now hs.2 hd]

theorem exec_holdCommit_bad (hs : s.ready) (ha : parseEmpty body = none) :
    exec (.holdCommit body) s = .next (s.answered 0x17 .badArgument []) := by
  have hd : holdCommitRequest body s = (s, .now .badArgument []) := by rw [holdCommitRequest, withArgs_none ha]
  rw [exec, execHoldCommit, whenInService_next hs.1, takeRequest_now hs.2 hd]

theorem exec_holdCancel_bad (hs : s.ready) (ha : parseEmpty body = none) :
    exec (.holdCancel body) s = .next (s.answered 0x18 .badArgument []) := by
  have hd : holdCancelRequest body s = (s, .now .badArgument []) := by rw [holdCancelRequest, withArgs_none ha]
  rw [exec, execHoldCancel, whenInService_next hs.1, takeRequest_now hs.2 hd]

theorem exec_paramSet_bad (hs : s.ready) (ha : parseParamSet body = none) :
    exec (.paramSet body) s = .next (s.answered 0x19 .badArgument []) := by
  have hd : paramSetRequest body s = (s, .now .badArgument []) := by rw [paramSetRequest, withArgs_none ha]
  rw [exec, execParamSet, whenInService_next hs.1, takeRequest_now hs.2 hd]

theorem exec_paramRead_bad (hs : s.ready) (ha : parseEmpty body = none) :
    exec (.paramRead body) s = .next (s.answered 0x1A .badArgument []) := by
  have hd : paramReadRequest body s = (s, .now .badArgument []) := by rw [paramReadRequest, withArgs_none ha]
  rw [exec, execParamRead, whenInService_next hs.1, takeRequest_now hs.2 hd]

theorem exec_noticeFetch_bad (hs : s.ready) (ha : parseFetch body = none) :
    exec (.noticeFetch body) s = .next (s.answered 0x1B .badArgument []) := by
  have hd : noticeFetchRequest body s = (s, .now .badArgument []) := by rw [noticeFetchRequest, withArgs_none ha]
  rw [exec, execNoticeFetch, whenInService_next hs.1, takeRequest_now hs.2 hd]

theorem exec_noticeMask_bad (hs : s.ready) (ha : parseNoticeMask body = none) :
    exec (.noticeMask body) s = .next (s.answered 0x1C .badArgument []) := by
  have hd : noticeMaskRequest body s = (s, .now .badArgument []) := by rw [noticeMaskRequest, withArgs_none ha]
  rw [exec, execNoticeMask, whenInService_next hs.1, takeRequest_now hs.2 hd]

theorem exec_restart_bad (hs : s.ready) (ha : parseEmpty body = none) :
    exec (.restart body) s = .next (s.answered 0x1D .badArgument []) := by
  have hd : restartRequest body s = (s, .now .badArgument []) := by rw [restartRequest, withArgs_none ha]
  rw [exec, execRestart, whenInService_next hs.1, takeRequest_now hs.2 hd]

theorem exec_legConnect_bad (hs : s.ready) (ha : parseLeg body = none) :
    exec (.legConnect body) s = .next (s.answered 0x03 .badArgument []) := by
  have hd : legConnectRequest body s = (s, .now .badArgument []) := by rw [legConnectRequest, withArgs_none ha]
  rw [exec, execLegConnect, whenInService_next hs.1, takeRequest_now hs.2 hd]

theorem exec_legPark_bad (hs : s.ready) (ha : parseLeg body = none) :
    exec (.legPark body) s = .next (s.answered 0x04 .badArgument []) := by
  have hd : legParkRequest body s = (s, .now .badArgument []) := by rw [legParkRequest, withArgs_none ha]
  rw [exec, execLegPark, whenInService_next hs.1, takeRequest_now hs.2 hd]

theorem exec_legLevel_bad (hs : s.ready) (ha : parseLegLevel body = none) :
    exec (.legLevel body) s = .next (s.answered 0x05 .badArgument []) := by
  have hd : legLevelRequest body s = (s, .now .badArgument []) := by rw [legLevelRequest, withArgs_none ha]
  rw [exec, execLegLevel, whenInService_next hs.1, takeRequest_now hs.2 hd]

theorem exec_confJoin_bad (hs : s.ready) (ha : parseConfMember body = none) :
    exec (.confJoin body) s = .next (s.answered 0x12 .badArgument []) := by
  have hd : confJoinRequest body s = (s, .now .badArgument []) := by rw [confJoinRequest, withArgs_none ha]
  rw [exec, execConfJoin, whenInService_next hs.1, takeRequest_now hs.2 hd]

theorem exec_confLeave_bad (hs : s.ready) (ha : parseConfMember body = none) :
    exec (.confLeave body) s = .next (s.answered 0x13 .badArgument []) := by
  have hd : confLeaveRequest body s = (s, .now .badArgument []) := by rw [confLeaveRequest, withArgs_none ha]
  rw [exec, execConfLeave, whenInService_next hs.1, takeRequest_now hs.2 hd]

end Sys2Proof.Machine
end

