-- ==== Sys2Proof/Laws/State.lean ====
section
/-! SUPPORT. What each operation on the state leaves alone, one lemma for each field it does not touch, and what it
leaves at the places it writes. -/

namespace Sys2Proof.Machine

/-! #### notify -/

@[simp] theorem State.notify_line (s : State) (k : NoticeKind) (x : Nat) (d : Half) : (s.notify k x d).line = s.line := rfl
@[simp] theorem State.notify_trunk (s : State) (k : NoticeKind) (x : Nat) (d : Half) : (s.notify k x d).trunk = s.trunk := rfl
@[simp] theorem State.notify_framer (s : State) (k : NoticeKind) (x : Nat) (d : Half) : (s.notify k x d).framer = s.framer := rfl
@[simp] theorem State.notify_cellQueue (s : State) (k : NoticeKind) (x : Nat) (d : Half) : (s.notify k x d).cellQueue = s.cellQueue := rfl
@[simp] theorem State.notify_legs (s : State) (k : NoticeKind) (x : Nat) (d : Half) : (s.notify k x d).legs = s.legs := rfl
@[simp] theorem State.notify_ext (s : State) (k : NoticeKind) (x : Nat) (d : Half) : (s.notify k x d).ext = s.ext := rfl
@[simp] theorem State.notify_admQueue (s : State) (k : NoticeKind) (x : Nat) (d : Half) : (s.notify k x d).admQueue = s.admQueue := rfl
@[simp] theorem State.notify_confs (s : State) (k : NoticeKind) (x : Nat) (d : Half) : (s.notify k x d).confs = s.confs := rfl
@[simp] theorem State.notify_hold (s : State) (k : NoticeKind) (x : Nat) (d : Half) : (s.notify k x d).hold = s.hold := rfl
@[simp] theorem State.notify_link (s : State) (k : NoticeKind) (x : Nat) (d : Half) : (s.notify k x d).link = s.link := rfl
@[simp] theorem State.notify_params (s : State) (k : NoticeKind) (x : Nat) (d : Half) : (s.notify k x d).params = s.params := rfl
@[simp] theorem State.notify_resetAsserted (s : State) (k : NoticeKind) (x : Nat) (d : Half) : (s.notify k x d).resetAsserted = s.resetAsserted := rfl
@[simp] theorem State.notify_pending (s : State) (k : NoticeKind) (x : Nat) (d : Half) : (s.notify k x d).pending = s.pending := rfl

/-! #### answered -/

@[simp] theorem State.answered_line (s : State) (c : Byte) (st : Status) (b : List Byte) : (s.answered c st b).line = s.line := rfl
@[simp] theorem State.answered_trunk (s : State) (c : Byte) (st : Status) (b : List Byte) : (s.answered c st b).trunk = s.trunk := rfl
@[simp] theorem State.answered_framer (s : State) (c : Byte) (st : Status) (b : List Byte) : (s.answered c st b).framer = s.framer := rfl
@[simp] theorem State.answered_cellQueue (s : State) (c : Byte) (st : Status) (b : List Byte) : (s.answered c st b).cellQueue = s.cellQueue := rfl
@[simp] theorem State.answered_legs (s : State) (c : Byte) (st : Status) (b : List Byte) : (s.answered c st b).legs = s.legs := rfl
@[simp] theorem State.answered_ext (s : State) (c : Byte) (st : Status) (b : List Byte) : (s.answered c st b).ext = s.ext := rfl
@[simp] theorem State.answered_admQueue (s : State) (c : Byte) (st : Status) (b : List Byte) : (s.answered c st b).admQueue = s.admQueue := rfl
@[simp] theorem State.answered_confs (s : State) (c : Byte) (st : Status) (b : List Byte) : (s.answered c st b).confs = s.confs := rfl
@[simp] theorem State.answered_hold (s : State) (c : Byte) (st : Status) (b : List Byte) : (s.answered c st b).hold = s.hold := rfl
@[simp] theorem State.answered_notices (s : State) (c : Byte) (st : Status) (b : List Byte) : (s.answered c st b).notices = s.notices := rfl
@[simp] theorem State.answered_params (s : State) (c : Byte) (st : Status) (b : List Byte) : (s.answered c st b).params = s.params := rfl
@[simp] theorem State.answered_resetAsserted (s : State) (c : Byte) (st : Status) (b : List Byte) : (s.answered c st b).resetAsserted = s.resetAsserted := rfl
@[simp] theorem State.answered_pending (s : State) (c : Byte) (st : Status) (b : List Byte) : (s.answered c st b).pending = s.pending := rfl

/-! #### setRecord -/

@[simp] theorem State.setRecord_line (s : State) (h : Handle) (r : Option ExtRecord) : (s.setRecord h r).line = s.line := rfl
@[simp] theorem State.setRecord_trunk (s : State) (h : Handle) (r : Option ExtRecord) : (s.setRecord h r).trunk = s.trunk := rfl
@[simp] theorem State.setRecord_framer (s : State) (h : Handle) (r : Option ExtRecord) : (s.setRecord h r).framer = s.framer := rfl
@[simp] theorem State.setRecord_cellQueue (s : State) (h : Handle) (r : Option ExtRecord) : (s.setRecord h r).cellQueue = s.cellQueue := rfl
@[simp] theorem State.setRecord_legs (s : State) (h : Handle) (r : Option ExtRecord) : (s.setRecord h r).legs = s.legs := rfl
@[simp] theorem State.setRecord_admQueue (s : State) (h : Handle) (r : Option ExtRecord) : (s.setRecord h r).admQueue = s.admQueue := rfl
@[simp] theorem State.setRecord_confs (s : State) (h : Handle) (r : Option ExtRecord) : (s.setRecord h r).confs = s.confs := rfl
@[simp] theorem State.setRecord_hold (s : State) (h : Handle) (r : Option ExtRecord) : (s.setRecord h r).hold = s.hold := rfl
@[simp] theorem State.setRecord_link (s : State) (h : Handle) (r : Option ExtRecord) : (s.setRecord h r).link = s.link := rfl
@[simp] theorem State.setRecord_notices (s : State) (h : Handle) (r : Option ExtRecord) : (s.setRecord h r).notices = s.notices := rfl
@[simp] theorem State.setRecord_params (s : State) (h : Handle) (r : Option ExtRecord) : (s.setRecord h r).params = s.params := rfl
@[simp] theorem State.setRecord_resetAsserted (s : State) (h : Handle) (r : Option ExtRecord) : (s.setRecord h r).resetAsserted = s.resetAsserted := rfl
@[simp] theorem State.setRecord_pending (s : State) (h : Handle) (r : Option ExtRecord) : (s.setRecord h r).pending = s.pending := rfl

/-! #### updateRecord -/

@[simp] theorem State.updateRecord_line (s : State) (h : Handle) (f : ExtRecord → ExtRecord) : (s.updateRecord h f).line = s.line := rfl
@[simp] theorem State.updateRecord_trunk (s : State) (h : Handle) (f : ExtRecord → ExtRecord) : (s.updateRecord h f).trunk = s.trunk := rfl
@[simp] theorem State.updateRecord_framer (s : State) (h : Handle) (f : ExtRecord → ExtRecord) : (s.updateRecord h f).framer = s.framer := rfl
@[simp] theorem State.updateRecord_cellQueue (s : State) (h : Handle) (f : ExtRecord → ExtRecord) : (s.updateRecord h f).cellQueue = s.cellQueue := rfl
@[simp] theorem State.updateRecord_legs (s : State) (h : Handle) (f : ExtRecord → ExtRecord) : (s.updateRecord h f).legs = s.legs := rfl
@[simp] theorem State.updateRecord_admQueue (s : State) (h : Handle) (f : ExtRecord → ExtRecord) : (s.updateRecord h f).admQueue = s.admQueue := rfl
@[simp] theorem State.updateRecord_confs (s : State) (h : Handle) (f : ExtRecord → ExtRecord) : (s.updateRecord h f).confs = s.confs := rfl
@[simp] theorem State.updateRecord_hold (s : State) (h : Handle) (f : ExtRecord → ExtRecord) : (s.updateRecord h f).hold = s.hold := rfl
@[simp] theorem State.updateRecord_link (s : State) (h : Handle) (f : ExtRecord → ExtRecord) : (s.updateRecord h f).link = s.link := rfl
@[simp] theorem State.updateRecord_notices (s : State) (h : Handle) (f : ExtRecord → ExtRecord) : (s.updateRecord h f).notices = s.notices := rfl
@[simp] theorem State.updateRecord_params (s : State) (h : Handle) (f : ExtRecord → ExtRecord) : (s.updateRecord h f).params = s.params := rfl
@[simp] theorem State.updateRecord_resetAsserted (s : State) (h : Handle) (f : ExtRecord → ExtRecord) : (s.updateRecord h f).resetAsserted = s.resetAsserted := rfl
@[simp] theorem State.updateRecord_pending (s : State) (h : Handle) (f : ExtRecord → ExtRecord) : (s.updateRecord h f).pending = s.pending := rfl

/-! #### setAdmission -/

@[simp] theorem State.setAdmission_line (s : State) (h : Handle) (a : Admission) : (s.setAdmission h a).line = s.line := rfl
@[simp] theorem State.setAdmission_trunk (s : State) (h : Handle) (a : Admission) : (s.setAdmission h a).trunk = s.trunk := rfl
@[simp] theorem State.setAdmission_framer (s : State) (h : Handle) (a : Admission) : (s.setAdmission h a).framer = s.framer := rfl
@[simp] theorem State.setAdmission_cellQueue (s : State) (h : Handle) (a : Admission) : (s.setAdmission h a).cellQueue = s.cellQueue := rfl
@[simp] theorem State.setAdmission_legs (s : State) (h : Handle) (a : Admission) : (s.setAdmission h a).legs = s.legs := rfl
@[simp] theorem State.setAdmission_admQueue (s : State) (h : Handle) (a : Admission) : (s.setAdmission h a).admQueue = s.admQueue := rfl
@[simp] theorem State.setAdmission_confs (s : State) (h : Handle) (a : Admission) : (s.setAdmission h a).confs = s.confs := rfl
@[simp] theorem State.setAdmission_hold (s : State) (h : Handle) (a : Admission) : (s.setAdmission h a).hold = s.hold := rfl
@[simp] theorem State.setAdmission_link (s : State) (h : Handle) (a : Admission) : (s.setAdmission h a).link = s.link := rfl
@[simp] theorem State.setAdmission_notices (s : State) (h : Handle) (a : Admission) : (s.setAdmission h a).notices = s.notices := rfl
@[simp] theorem State.setAdmission_params (s : State) (h : Handle) (a : Admission) : (s.setAdmission h a).params = s.params := rfl
@[simp] theorem State.setAdmission_resetAsserted (s : State) (h : Handle) (a : Admission) : (s.setAdmission h a).resetAsserted = s.resetAsserted := rfl
@[simp] theorem State.setAdmission_pending (s : State) (h : Handle) (a : Admission) : (s.setAdmission h a).pending = s.pending := rfl

/-! #### setLeg -/

@[simp] theorem State.setLeg_line (s : State) (n : LegNo) (l : Option Leg) : (s.setLeg n l).line = s.line := rfl
@[simp] theorem State.setLeg_trunk (s : State) (n : LegNo) (l : Option Leg) : (s.setLeg n l).trunk = s.trunk := rfl
@[simp] theorem State.setLeg_framer (s : State) (n : LegNo) (l : Option Leg) : (s.setLeg n l).framer = s.framer := rfl
@[simp] theorem State.setLeg_cellQueue (s : State) (n : LegNo) (l : Option Leg) : (s.setLeg n l).cellQueue = s.cellQueue := rfl
@[simp] theorem State.setLeg_ext (s : State) (n : LegNo) (l : Option Leg) : (s.setLeg n l).ext = s.ext := rfl
@[simp] theorem State.setLeg_admQueue (s : State) (n : LegNo) (l : Option Leg) : (s.setLeg n l).admQueue = s.admQueue := rfl
@[simp] theorem State.setLeg_confs (s : State) (n : LegNo) (l : Option Leg) : (s.setLeg n l).confs = s.confs := rfl
@[simp] theorem State.setLeg_hold (s : State) (n : LegNo) (l : Option Leg) : (s.setLeg n l).hold = s.hold := rfl
@[simp] theorem State.setLeg_link (s : State) (n : LegNo) (l : Option Leg) : (s.setLeg n l).link = s.link := rfl
@[simp] theorem State.setLeg_notices (s : State) (n : LegNo) (l : Option Leg) : (s.setLeg n l).notices = s.notices := rfl
@[simp] theorem State.setLeg_params (s : State) (n : LegNo) (l : Option Leg) : (s.setLeg n l).params = s.params := rfl
@[simp] theorem State.setLeg_resetAsserted (s : State) (n : LegNo) (l : Option Leg) : (s.setLeg n l).resetAsserted = s.resetAsserted := rfl
@[simp] theorem State.setLeg_pending (s : State) (n : LegNo) (l : Option Leg) : (s.setLeg n l).pending = s.pending := rfl

/-! #### updateLeg -/

@[simp] theorem State.updateLeg_line (s : State) (n : LegNo) (f : Leg → Leg) : (s.updateLeg n f).line = s.line := rfl
@[simp] theorem State.updateLeg_trunk (s : State) (n : LegNo) (f : Leg → Leg) : (s.updateLeg n f).trunk = s.trunk := rfl
@[simp] theorem State.updateLeg_framer (s : State) (n : LegNo) (f : Leg → Leg) : (s.updateLeg n f).framer = s.framer := rfl
@[simp] theorem State.updateLeg_cellQueue (s : State) (n : LegNo) (f : Leg → Leg) : (s.updateLeg n f).cellQueue = s.cellQueue := rfl
@[simp] theorem State.updateLeg_ext (s : State) (n : LegNo) (f : Leg → Leg) : (s.updateLeg n f).ext = s.ext := rfl
@[simp] theorem State.updateLeg_admQueue (s : State) (n : LegNo) (f : Leg → Leg) : (s.updateLeg n f).admQueue = s.admQueue := rfl
@[simp] theorem State.updateLeg_confs (s : State) (n : LegNo) (f : Leg → Leg) : (s.updateLeg n f).confs = s.confs := rfl
@[simp] theorem State.updateLeg_hold (s : State) (n : LegNo) (f : Leg → Leg) : (s.updateLeg n f).hold = s.hold := rfl
@[simp] theorem State.updateLeg_link (s : State) (n : LegNo) (f : Leg → Leg) : (s.updateLeg n f).link = s.link := rfl
@[simp] theorem State.updateLeg_notices (s : State) (n : LegNo) (f : Leg → Leg) : (s.updateLeg n f).notices = s.notices := rfl
@[simp] theorem State.updateLeg_params (s : State) (n : LegNo) (f : Leg → Leg) : (s.updateLeg n f).params = s.params := rfl
@[simp] theorem State.updateLeg_resetAsserted (s : State) (n : LegNo) (f : Leg → Leg) : (s.updateLeg n f).resetAsserted = s.resetAsserted := rfl
@[simp] theorem State.updateLeg_pending (s : State) (n : LegNo) (f : Leg → Leg) : (s.updateLeg n f).pending = s.pending := rfl

/-! #### setConf -/

@[simp] theorem State.setConf_line (s : State) (c : ConfNo) (k : Option Conf) : (s.setConf c k).line = s.line := rfl
@[simp] theorem State.setConf_trunk (s : State) (c : ConfNo) (k : Option Conf) : (s.setConf c k).trunk = s.trunk := rfl
@[simp] theorem State.setConf_framer (s : State) (c : ConfNo) (k : Option Conf) : (s.setConf c k).framer = s.framer := rfl
@[simp] theorem State.setConf_cellQueue (s : State) (c : ConfNo) (k : Option Conf) : (s.setConf c k).cellQueue = s.cellQueue := rfl
@[simp] theorem State.setConf_legs (s : State) (c : ConfNo) (k : Option Conf) : (s.setConf c k).legs = s.legs := rfl
@[simp] theorem State.setConf_ext (s : State) (c : ConfNo) (k : Option Conf) : (s.setConf c k).ext = s.ext := rfl
@[simp] theorem State.setConf_admQueue (s : State) (c : ConfNo) (k : Option Conf) : (s.setConf c k).admQueue = s.admQueue := rfl
@[simp] theorem State.setConf_hold (s : State) (c : ConfNo) (k : Option Conf) : (s.setConf c k).hold = s.hold := rfl
@[simp] theorem State.setConf_link (s : State) (c : ConfNo) (k : Option Conf) : (s.setConf c k).link = s.link := rfl
@[simp] theorem State.setConf_notices (s : State) (c : ConfNo) (k : Option Conf) : (s.setConf c k).notices = s.notices := rfl
@[simp] theorem State.setConf_params (s : State) (c : ConfNo) (k : Option Conf) : (s.setConf c k).params = s.params := rfl
@[simp] theorem State.setConf_resetAsserted (s : State) (c : ConfNo) (k : Option Conf) : (s.setConf c k).resetAsserted = s.resetAsserted := rfl
@[simp] theorem State.setConf_pending (s : State) (c : ConfNo) (k : Option Conf) : (s.setConf c k).pending = s.pending := rfl

/-! #### updateConf -/

@[simp] theorem State.updateConf_line (s : State) (c : ConfNo) (f : Conf → Conf) : (s.updateConf c f).line = s.line := rfl
@[simp] theorem State.updateConf_trunk (s : State) (c : ConfNo) (f : Conf → Conf) : (s.updateConf c f).trunk = s.trunk := rfl
@[simp] theorem State.updateConf_framer (s : State) (c : ConfNo) (f : Conf → Conf) : (s.updateConf c f).framer = s.framer := rfl
@[simp] theorem State.updateConf_cellQueue (s : State) (c : ConfNo) (f : Conf → Conf) : (s.updateConf c f).cellQueue = s.cellQueue := rfl
@[simp] theorem State.updateConf_legs (s : State) (c : ConfNo) (f : Conf → Conf) : (s.updateConf c f).legs = s.legs := rfl
@[simp] theorem State.updateConf_ext (s : State) (c : ConfNo) (f : Conf → Conf) : (s.updateConf c f).ext = s.ext := rfl
@[simp] theorem State.updateConf_admQueue (s : State) (c : ConfNo) (f : Conf → Conf) : (s.updateConf c f).admQueue = s.admQueue := rfl
@[simp] theorem State.updateConf_hold (s : State) (c : ConfNo) (f : Conf → Conf) : (s.updateConf c f).hold = s.hold := rfl
@[simp] theorem State.updateConf_link (s : State) (c : ConfNo) (f : Conf → Conf) : (s.updateConf c f).link = s.link := rfl
@[simp] theorem State.updateConf_notices (s : State) (c : ConfNo) (f : Conf → Conf) : (s.updateConf c f).notices = s.notices := rfl
@[simp] theorem State.updateConf_params (s : State) (c : ConfNo) (f : Conf → Conf) : (s.updateConf c f).params = s.params := rfl
@[simp] theorem State.updateConf_resetAsserted (s : State) (c : ConfNo) (f : Conf → Conf) : (s.updateConf c f).resetAsserted = s.resetAsserted := rfl
@[simp] theorem State.updateConf_pending (s : State) (c : ConfNo) (f : Conf → Conf) : (s.updateConf c f).pending = s.pending := rfl

/-! #### queueCell -/

@[simp] theorem State.queueCell_line (s : State) (c : OutgoingCell) : (s.queueCell c).line = s.line := rfl
@[simp] theorem State.queueCell_trunk (s : State) (c : OutgoingCell) : (s.queueCell c).trunk = s.trunk := rfl
@[simp] theorem State.queueCell_framer (s : State) (c : OutgoingCell) : (s.queueCell c).framer = s.framer := rfl
@[simp] theorem State.queueCell_cellQueue (s : State) (c : OutgoingCell) : (s.queueCell c).cellQueue = s.cellQueue := rfl
@[simp] theorem State.queueCell_legs (s : State) (c : OutgoingCell) : (s.queueCell c).legs = s.legs := rfl
@[simp] theorem State.queueCell_ext (s : State) (c : OutgoingCell) : (s.queueCell c).ext = s.ext := rfl
@[simp] theorem State.queueCell_confs (s : State) (c : OutgoingCell) : (s.queueCell c).confs = s.confs := rfl
@[simp] theorem State.queueCell_hold (s : State) (c : OutgoingCell) : (s.queueCell c).hold = s.hold := rfl
@[simp] theorem State.queueCell_link (s : State) (c : OutgoingCell) : (s.queueCell c).link = s.link := rfl
@[simp] theorem State.queueCell_notices (s : State) (c : OutgoingCell) : (s.queueCell c).notices = s.notices := rfl
@[simp] theorem State.queueCell_params (s : State) (c : OutgoingCell) : (s.queueCell c).params = s.params := rfl
@[simp] theorem State.queueCell_resetAsserted (s : State) (c : OutgoingCell) : (s.queueCell c).resetAsserted = s.resetAsserted := rfl
@[simp] theorem State.queueCell_pending (s : State) (c : OutgoingCell) : (s.queueCell c).pending = s.pending := rfl

/-! #### sendChallenge -/

@[simp] theorem State.sendChallenge_line (s : State) (k : Slot) : (s.sendChallenge k).line = s.line := rfl
@[simp] theorem State.sendChallenge_trunk (s : State) (k : Slot) : (s.sendChallenge k).trunk = s.trunk := rfl
@[simp] theorem State.sendChallenge_framer (s : State) (k : Slot) : (s.sendChallenge k).framer = s.framer := rfl
@[simp] theorem State.sendChallenge_cellQueue (s : State) (k : Slot) : (s.sendChallenge k).cellQueue = s.cellQueue := rfl
@[simp] theorem State.sendChallenge_legs (s : State) (k : Slot) : (s.sendChallenge k).legs = s.legs := rfl
@[simp] theorem State.sendChallenge_confs (s : State) (k : Slot) : (s.sendChallenge k).confs = s.confs := rfl
@[simp] theorem State.sendChallenge_hold (s : State) (k : Slot) : (s.sendChallenge k).hold = s.hold := rfl
@[simp] theorem State.sendChallenge_link (s : State) (k : Slot) : (s.sendChallenge k).link = s.link := rfl
@[simp] theorem State.sendChallenge_notices (s : State) (k : Slot) : (s.sendChallenge k).notices = s.notices := rfl
@[simp] theorem State.sendChallenge_params (s : State) (k : Slot) : (s.sendChallenge k).params = s.params := rfl
@[simp] theorem State.sendChallenge_resetAsserted (s : State) (k : Slot) : (s.sendChallenge k).resetAsserted = s.resetAsserted := rfl
@[simp] theorem State.sendChallenge_pending (s : State) (k : Slot) : (s.sendChallenge k).pending = s.pending := rfl

/-! #### setAssembly -/

@[simp] theorem State.setAssembly_line (s : State) (a : Assembly) : (s.setAssembly a).line = s.line := rfl
@[simp] theorem State.setAssembly_trunk (s : State) (a : Assembly) : (s.setAssembly a).trunk = s.trunk := rfl
@[simp] theorem State.setAssembly_framer (s : State) (a : Assembly) : (s.setAssembly a).framer = s.framer := rfl
@[simp] theorem State.setAssembly_cellQueue (s : State) (a : Assembly) : (s.setAssembly a).cellQueue = s.cellQueue := rfl
@[simp] theorem State.setAssembly_legs (s : State) (a : Assembly) : (s.setAssembly a).legs = s.legs := rfl
@[simp] theorem State.setAssembly_ext (s : State) (a : Assembly) : (s.setAssembly a).ext = s.ext := rfl
@[simp] theorem State.setAssembly_admQueue (s : State) (a : Assembly) : (s.setAssembly a).admQueue = s.admQueue := rfl
@[simp] theorem State.setAssembly_confs (s : State) (a : Assembly) : (s.setAssembly a).confs = s.confs := rfl
@[simp] theorem State.setAssembly_hold (s : State) (a : Assembly) : (s.setAssembly a).hold = s.hold := rfl
@[simp] theorem State.setAssembly_notices (s : State) (a : Assembly) : (s.setAssembly a).notices = s.notices := rfl
@[simp] theorem State.setAssembly_params (s : State) (a : Assembly) : (s.setAssembly a).params = s.params := rfl
@[simp] theorem State.setAssembly_resetAsserted (s : State) (a : Assembly) : (s.setAssembly a).resetAsserted = s.resetAsserted := rfl
@[simp] theorem State.setAssembly_pending (s : State) (a : Assembly) : (s.setAssembly a).pending = s.pending := rfl

/-! #### removeLocal -/

@[simp] theorem State.removeLocal_trunk (s : State) (c : ConfNo) (h : Handle) (k : Option Slot) : (s.removeLocal c h k).trunk = s.trunk := rfl
@[simp] theorem State.removeLocal_framer (s : State) (c : ConfNo) (h : Handle) (k : Option Slot) : (s.removeLocal c h k).framer = s.framer := rfl
@[simp] theorem State.removeLocal_cellQueue (s : State) (c : ConfNo) (h : Handle) (k : Option Slot) : (s.removeLocal c h k).cellQueue = s.cellQueue := rfl
@[simp] theorem State.removeLocal_legs (s : State) (c : ConfNo) (h : Handle) (k : Option Slot) : (s.removeLocal c h k).legs = s.legs := rfl
@[simp] theorem State.removeLocal_ext (s : State) (c : ConfNo) (h : Handle) (k : Option Slot) : (s.removeLocal c h k).ext = s.ext := rfl
@[simp] theorem State.removeLocal_admQueue (s : State) (c : ConfNo) (h : Handle) (k : Option Slot) : (s.removeLocal c h k).admQueue = s.admQueue := rfl
@[simp] theorem State.removeLocal_hold (s : State) (c : ConfNo) (h : Handle) (k : Option Slot) : (s.removeLocal c h k).hold = s.hold := rfl
@[simp] theorem State.removeLocal_link (s : State) (c : ConfNo) (h : Handle) (k : Option Slot) : (s.removeLocal c h k).link = s.link := rfl
@[simp] theorem State.removeLocal_notices (s : State) (c : ConfNo) (h : Handle) (k : Option Slot) : (s.removeLocal c h k).notices = s.notices := rfl
@[simp] theorem State.removeLocal_params (s : State) (c : ConfNo) (h : Handle) (k : Option Slot) : (s.removeLocal c h k).params = s.params := rfl
@[simp] theorem State.removeLocal_resetAsserted (s : State) (c : ConfNo) (h : Handle) (k : Option Slot) : (s.removeLocal c h k).resetAsserted = s.resetAsserted := rfl
@[simp] theorem State.removeLocal_pending (s : State) (c : ConfNo) (h : Handle) (k : Option Slot) : (s.removeLocal c h k).pending = s.pending := rfl

/-! #### setTiming -/

@[simp] theorem State.setTiming_line (s : State) (t : TrunkTiming) : (s.setTiming t).line = s.line := rfl
@[simp] theorem State.setTiming_framer (s : State) (t : TrunkTiming) : (s.setTiming t).framer = s.framer := rfl
@[simp] theorem State.setTiming_cellQueue (s : State) (t : TrunkTiming) : (s.setTiming t).cellQueue = s.cellQueue := rfl
@[simp] theorem State.setTiming_legs (s : State) (t : TrunkTiming) : (s.setTiming t).legs = s.legs := rfl
@[simp] theorem State.setTiming_ext (s : State) (t : TrunkTiming) : (s.setTiming t).ext = s.ext := rfl
@[simp] theorem State.setTiming_admQueue (s : State) (t : TrunkTiming) : (s.setTiming t).admQueue = s.admQueue := rfl
@[simp] theorem State.setTiming_confs (s : State) (t : TrunkTiming) : (s.setTiming t).confs = s.confs := rfl
@[simp] theorem State.setTiming_hold (s : State) (t : TrunkTiming) : (s.setTiming t).hold = s.hold := rfl
@[simp] theorem State.setTiming_link (s : State) (t : TrunkTiming) : (s.setTiming t).link = s.link := rfl
@[simp] theorem State.setTiming_notices (s : State) (t : TrunkTiming) : (s.setTiming t).notices = s.notices := rfl
@[simp] theorem State.setTiming_resetAsserted (s : State) (t : TrunkTiming) : (s.setTiming t).resetAsserted = s.resetAsserted := rfl
@[simp] theorem State.setTiming_pending (s : State) (t : TrunkTiming) : (s.setTiming t).pending = s.pending := rfl

/-! #### parkEndpoint -/

@[simp] theorem State.parkEndpoint_line (s : State) (n : Option LegNo) : (s.parkEndpoint n).line = s.line := by cases n <;> rfl
@[simp] theorem State.parkEndpoint_trunk (s : State) (n : Option LegNo) : (s.parkEndpoint n).trunk = s.trunk := by cases n <;> rfl
@[simp] theorem State.parkEndpoint_framer (s : State) (n : Option LegNo) : (s.parkEndpoint n).framer = s.framer := by cases n <;> rfl
@[simp] theorem State.parkEndpoint_cellQueue (s : State) (n : Option LegNo) : (s.parkEndpoint n).cellQueue = s.cellQueue := by cases n <;> rfl
@[simp] theorem State.parkEndpoint_ext (s : State) (n : Option LegNo) : (s.parkEndpoint n).ext = s.ext := by cases n <;> rfl
@[simp] theorem State.parkEndpoint_admQueue (s : State) (n : Option LegNo) : (s.parkEndpoint n).admQueue = s.admQueue := by cases n <;> rfl
@[simp] theorem State.parkEndpoint_confs (s : State) (n : Option LegNo) : (s.parkEndpoint n).confs = s.confs := by cases n <;> rfl
@[simp] theorem State.parkEndpoint_hold (s : State) (n : Option LegNo) : (s.parkEndpoint n).hold = s.hold := by cases n <;> rfl
@[simp] theorem State.parkEndpoint_link (s : State) (n : Option LegNo) : (s.parkEndpoint n).link = s.link := by cases n <;> rfl
@[simp] theorem State.parkEndpoint_notices (s : State) (n : Option LegNo) : (s.parkEndpoint n).notices = s.notices := by cases n <;> rfl
@[simp] theorem State.parkEndpoint_params (s : State) (n : Option LegNo) : (s.parkEndpoint n).params = s.params := by cases n <;> rfl
@[simp] theorem State.parkEndpoint_resetAsserted (s : State) (n : Option LegNo) : (s.parkEndpoint n).resetAsserted = s.resetAsserted := by cases n <;> rfl
@[simp] theorem State.parkEndpoint_pending (s : State) (n : Option LegNo) : (s.parkEndpoint n).pending = s.pending := by cases n <;> rfl

/-! #### refuseHello -/

@[simp] theorem State.refuseHello_line (s : State) (k : Slot) (r : RefuseReason) : (s.refuseHello k r).line = s.line := rfl
@[simp] theorem State.refuseHello_trunk (s : State) (k : Slot) (r : RefuseReason) : (s.refuseHello k r).trunk = s.trunk := rfl
@[simp] theorem State.refuseHello_framer (s : State) (k : Slot) (r : RefuseReason) : (s.refuseHello k r).framer = s.framer := rfl
@[simp] theorem State.refuseHello_cellQueue (s : State) (k : Slot) (r : RefuseReason) : (s.refuseHello k r).cellQueue = s.cellQueue := rfl
@[simp] theorem State.refuseHello_legs (s : State) (k : Slot) (r : RefuseReason) : (s.refuseHello k r).legs = s.legs := rfl
@[simp] theorem State.refuseHello_ext (s : State) (k : Slot) (r : RefuseReason) : (s.refuseHello k r).ext = s.ext := rfl
@[simp] theorem State.refuseHello_confs (s : State) (k : Slot) (r : RefuseReason) : (s.refuseHello k r).confs = s.confs := rfl
@[simp] theorem State.refuseHello_hold (s : State) (k : Slot) (r : RefuseReason) : (s.refuseHello k r).hold = s.hold := rfl
@[simp] theorem State.refuseHello_link (s : State) (k : Slot) (r : RefuseReason) : (s.refuseHello k r).link = s.link := rfl
@[simp] theorem State.refuseHello_params (s : State) (k : Slot) (r : RefuseReason) : (s.refuseHello k r).params = s.params := rfl
@[simp] theorem State.refuseHello_resetAsserted (s : State) (k : Slot) (r : RefuseReason) : (s.refuseHello k r).resetAsserted = s.resetAsserted := rfl
@[simp] theorem State.refuseHello_pending (s : State) (k : Slot) (r : RefuseReason) : (s.refuseHello k r).pending = s.pending := rfl

/-! #### strayAnswer -/

@[simp] theorem State.strayAnswer_line (s : State) (k : Slot) (h : Option Handle) : (s.strayAnswer k h).line = s.line := rfl
@[simp] theorem State.strayAnswer_trunk (s : State) (k : Slot) (h : Option Handle) : (s.strayAnswer k h).trunk = s.trunk := rfl
@[simp] theorem State.strayAnswer_framer (s : State) (k : Slot) (h : Option Handle) : (s.strayAnswer k h).framer = s.framer := rfl
@[simp] theorem State.strayAnswer_cellQueue (s : State) (k : Slot) (h : Option Handle) : (s.strayAnswer k h).cellQueue = s.cellQueue := rfl
@[simp] theorem State.strayAnswer_legs (s : State) (k : Slot) (h : Option Handle) : (s.strayAnswer k h).legs = s.legs := rfl
@[simp] theorem State.strayAnswer_ext (s : State) (k : Slot) (h : Option Handle) : (s.strayAnswer k h).ext = s.ext := rfl
@[simp] theorem State.strayAnswer_admQueue (s : State) (k : Slot) (h : Option Handle) : (s.strayAnswer k h).admQueue = s.admQueue := rfl
@[simp] theorem State.strayAnswer_confs (s : State) (k : Slot) (h : Option Handle) : (s.strayAnswer k h).confs = s.confs := rfl
@[simp] theorem State.strayAnswer_hold (s : State) (k : Slot) (h : Option Handle) : (s.strayAnswer k h).hold = s.hold := rfl
@[simp] theorem State.strayAnswer_link (s : State) (k : Slot) (h : Option Handle) : (s.strayAnswer k h).link = s.link := rfl
@[simp] theorem State.strayAnswer_params (s : State) (k : Slot) (h : Option Handle) : (s.strayAnswer k h).params = s.params := rfl
@[simp] theorem State.strayAnswer_resetAsserted (s : State) (k : Slot) (h : Option Handle) : (s.strayAnswer k h).resetAsserted = s.resetAsserted := rfl
@[simp] theorem State.strayAnswer_pending (s : State) (k : Slot) (h : Option Handle) : (s.strayAnswer k h).pending = s.pending := rfl

/-! #### clearLeg -/

@[simp] theorem State.clearLeg_trunk (s : State) (n : LegNo) (c : CloseCause) (k : Option Slot) : (s.clearLeg n c k).trunk = s.trunk := by unfold State.clearLeg; split <;> rfl
@[simp] theorem State.clearLeg_framer (s : State) (n : LegNo) (c : CloseCause) (k : Option Slot) : (s.clearLeg n c k).framer = s.framer := by unfold State.clearLeg; split <;> rfl
@[simp] theorem State.clearLeg_ext (s : State) (n : LegNo) (c : CloseCause) (k : Option Slot) : (s.clearLeg n c k).ext = s.ext := by unfold State.clearLeg; split <;> rfl
@[simp] theorem State.clearLeg_admQueue (s : State) (n : LegNo) (c : CloseCause) (k : Option Slot) : (s.clearLeg n c k).admQueue = s.admQueue := by unfold State.clearLeg; split <;> rfl
@[simp] theorem State.clearLeg_hold (s : State) (n : LegNo) (c : CloseCause) (k : Option Slot) : (s.clearLeg n c k).hold = s.hold := by unfold State.clearLeg; split <;> rfl
@[simp] theorem State.clearLeg_link (s : State) (n : LegNo) (c : CloseCause) (k : Option Slot) : (s.clearLeg n c k).link = s.link := by unfold State.clearLeg; split <;> rfl
@[simp] theorem State.clearLeg_notices (s : State) (n : LegNo) (c : CloseCause) (k : Option Slot) : (s.clearLeg n c k).notices = s.notices := by unfold State.clearLeg; split <;> rfl
@[simp] theorem State.clearLeg_params (s : State) (n : LegNo) (c : CloseCause) (k : Option Slot) : (s.clearLeg n c k).params = s.params := by unfold State.clearLeg; split <;> rfl
@[simp] theorem State.clearLeg_resetAsserted (s : State) (n : LegNo) (c : CloseCause) (k : Option Slot) : (s.clearLeg n c k).resetAsserted = s.resetAsserted := by unfold State.clearLeg; split <;> rfl
@[simp] theorem State.clearLeg_pending (s : State) (n : LegNo) (c : CloseCause) (k : Option Slot) : (s.clearLeg n c k).pending = s.pending := by unfold State.clearLeg; split <;> rfl

/-! #### dismiss -/

@[simp] theorem State.dismiss_trunk (c : ConfNo) (s : State) (m : Member) : (State.dismiss c s m).trunk = s.trunk := by cases m <;> rfl
@[simp] theorem State.dismiss_framer (c : ConfNo) (s : State) (m : Member) : (State.dismiss c s m).framer = s.framer := by cases m <;> rfl
@[simp] theorem State.dismiss_cellQueue (c : ConfNo) (s : State) (m : Member) : (State.dismiss c s m).cellQueue = s.cellQueue := by cases m <;> rfl
@[simp] theorem State.dismiss_ext (c : ConfNo) (s : State) (m : Member) : (State.dismiss c s m).ext = s.ext := by cases m <;> rfl
@[simp] theorem State.dismiss_admQueue (c : ConfNo) (s : State) (m : Member) : (State.dismiss c s m).admQueue = s.admQueue := by cases m <;> rfl
@[simp] theorem State.dismiss_confs (c : ConfNo) (s : State) (m : Member) : (State.dismiss c s m).confs = s.confs := by cases m <;> rfl
@[simp] theorem State.dismiss_hold (c : ConfNo) (s : State) (m : Member) : (State.dismiss c s m).hold = s.hold := by cases m <;> rfl
@[simp] theorem State.dismiss_link (c : ConfNo) (s : State) (m : Member) : (State.dismiss c s m).link = s.link := by cases m <;> rfl
@[simp] theorem State.dismiss_notices (c : ConfNo) (s : State) (m : Member) : (State.dismiss c s m).notices = s.notices := by cases m <;> rfl
@[simp] theorem State.dismiss_params (c : ConfNo) (s : State) (m : Member) : (State.dismiss c s m).params = s.params := by cases m <;> rfl
@[simp] theorem State.dismiss_resetAsserted (c : ConfNo) (s : State) (m : Member) : (State.dismiss c s m).resetAsserted = s.resetAsserted := by cases m <;> rfl
@[simp] theorem State.dismiss_pending (c : ConfNo) (s : State) (m : Member) : (State.dismiss c s m).pending = s.pending := by cases m <;> rfl

/-! #### askSync -/

@[simp] theorem State.askSync_line (s : State) (n : LegNo) : (s.askSync n).line = s.line := by unfold State.askSync; split <;> [rfl; (split <;> rfl)]
@[simp] theorem State.askSync_trunk (s : State) (n : LegNo) : (s.askSync n).trunk = s.trunk := by unfold State.askSync; split <;> [rfl; (split <;> rfl)]
@[simp] theorem State.askSync_ext (s : State) (n : LegNo) : (s.askSync n).ext = s.ext := by unfold State.askSync; split <;> [rfl; (split <;> rfl)]
@[simp] theorem State.askSync_admQueue (s : State) (n : LegNo) : (s.askSync n).admQueue = s.admQueue := by unfold State.askSync; split <;> [rfl; (split <;> rfl)]
@[simp] theorem State.askSync_confs (s : State) (n : LegNo) : (s.askSync n).confs = s.confs := by unfold State.askSync; split <;> [rfl; (split <;> rfl)]
@[simp] theorem State.askSync_hold (s : State) (n : LegNo) : (s.askSync n).hold = s.hold := by unfold State.askSync; split <;> [rfl; (split <;> rfl)]
@[simp] theorem State.askSync_link (s : State) (n : LegNo) : (s.askSync n).link = s.link := by unfold State.askSync; split <;> [rfl; (split <;> rfl)]
@[simp] theorem State.askSync_notices (s : State) (n : LegNo) : (s.askSync n).notices = s.notices := by unfold State.askSync; split <;> [rfl; (split <;> rfl)]
@[simp] theorem State.askSync_params (s : State) (n : LegNo) : (s.askSync n).params = s.params := by unfold State.askSync; split <;> [rfl; (split <;> rfl)]
@[simp] theorem State.askSync_resetAsserted (s : State) (n : LegNo) : (s.askSync n).resetAsserted = s.resetAsserted := by unfold State.askSync; split <;> [rfl; (split <;> rfl)]
@[simp] theorem State.askSync_pending (s : State) (n : LegNo) : (s.askSync n).pending = s.pending := by unfold State.askSync; split <;> [rfl; (split <;> rfl)]

/-! #### serveWants -/

@[simp] theorem State.serveWants_line (s : State) (n : LegNo) : (s.serveWants n).line = s.line := by unfold State.serveWants; repeat (first | rfl | split)
@[simp] theorem State.serveWants_trunk (s : State) (n : LegNo) : (s.serveWants n).trunk = s.trunk := by unfold State.serveWants; repeat (first | rfl | split)
@[simp] theorem State.serveWants_framer (s : State) (n : LegNo) : (s.serveWants n).framer = s.framer := by unfold State.serveWants; repeat (first | rfl | split)
@[simp] theorem State.serveWants_ext (s : State) (n : LegNo) : (s.serveWants n).ext = s.ext := by unfold State.serveWants; repeat (first | rfl | split)
@[simp] theorem State.serveWants_admQueue (s : State) (n : LegNo) : (s.serveWants n).admQueue = s.admQueue := by unfold State.serveWants; repeat (first | rfl | split)
@[simp] theorem State.serveWants_confs (s : State) (n : LegNo) : (s.serveWants n).confs = s.confs := by unfold State.serveWants; repeat (first | rfl | split)
@[simp] theorem State.serveWants_hold (s : State) (n : LegNo) : (s.serveWants n).hold = s.hold := by unfold State.serveWants; repeat (first | rfl | split)
@[simp] theorem State.serveWants_link (s : State) (n : LegNo) : (s.serveWants n).link = s.link := by unfold State.serveWants; repeat (first | rfl | split)
@[simp] theorem State.serveWants_notices (s : State) (n : LegNo) : (s.serveWants n).notices = s.notices := by unfold State.serveWants; repeat (first | rfl | split)
@[simp] theorem State.serveWants_params (s : State) (n : LegNo) : (s.serveWants n).params = s.params := by unfold State.serveWants; repeat (first | rfl | split)
@[simp] theorem State.serveWants_resetAsserted (s : State) (n : LegNo) : (s.serveWants n).resetAsserted = s.resetAsserted := by unfold State.serveWants; repeat (first | rfl | split)
@[simp] theorem State.serveWants_pending (s : State) (n : LegNo) : (s.serveWants n).pending = s.pending := by unfold State.serveWants; repeat (first | rfl | split)

/-! #### scrambleLeg -/

@[simp] theorem State.scrambleLeg_line (s : State) (n : LegNo) : (s.scrambleLeg n).line = s.line := by unfold State.scrambleLeg; repeat (first | rfl | (simp only [State.askSync_line]; rfl) | split)
@[simp] theorem State.scrambleLeg_trunk (s : State) (n : LegNo) : (s.scrambleLeg n).trunk = s.trunk := by unfold State.scrambleLeg; repeat (first | rfl | (simp only [State.askSync_trunk]; rfl) | split)
@[simp] theorem State.scrambleLeg_ext (s : State) (n : LegNo) : (s.scrambleLeg n).ext = s.ext := by unfold State.scrambleLeg; repeat (first | rfl | (simp only [State.askSync_ext]; rfl) | split)
@[simp] theorem State.scrambleLeg_admQueue (s : State) (n : LegNo) : (s.scrambleLeg n).admQueue = s.admQueue := by unfold State.scrambleLeg; repeat (first | rfl | (simp only [State.askSync_admQueue]; rfl) | split)
@[simp] theorem State.scrambleLeg_confs (s : State) (n : LegNo) : (s.scrambleLeg n).confs = s.confs := by unfold State.scrambleLeg; repeat (first | rfl | (simp only [State.askSync_confs]; rfl) | split)
@[simp] theorem State.scrambleLeg_hold (s : State) (n : LegNo) : (s.scrambleLeg n).hold = s.hold := by unfold State.scrambleLeg; repeat (first | rfl | (simp only [State.askSync_hold]; rfl) | split)
@[simp] theorem State.scrambleLeg_link (s : State) (n : LegNo) : (s.scrambleLeg n).link = s.link := by unfold State.scrambleLeg; repeat (first | rfl | (simp only [State.askSync_link]; rfl) | split)
@[simp] theorem State.scrambleLeg_params (s : State) (n : LegNo) : (s.scrambleLeg n).params = s.params := by unfold State.scrambleLeg; repeat (first | rfl | (simp only [State.askSync_params]; rfl) | split)
@[simp] theorem State.scrambleLeg_resetAsserted (s : State) (n : LegNo) : (s.scrambleLeg n).resetAsserted = s.resetAsserted := by unfold State.scrambleLeg; repeat (first | rfl | (simp only [State.askSync_resetAsserted]; rfl) | split)
@[simp] theorem State.scrambleLeg_pending (s : State) (n : LegNo) : (s.scrambleLeg n).pending = s.pending := by unfold State.scrambleLeg; repeat (first | rfl | (simp only [State.askSync_pending]; rfl) | split)

/-! #### The places written -/

@[simp] theorem State.setLeg_same (s : State) (n : LegNo) (l : Option Leg) : (s.setLeg n l).legs[n] = l := by
  simp [State.setLeg]

theorem State.setLeg_other (s : State) (n m : LegNo) (l : Option Leg) (h : n ≠ m) :
    (s.setLeg n l).legs[m] = s.legs[m] := by
  simp [State.setLeg, Vector.getElem_set_ne, Fin.val_ne_of_ne h]

@[simp] theorem State.updateLeg_same (s : State) (n : LegNo) (f : Leg → Leg) :
    (s.updateLeg n f).legs[n] = (s.legs[n]).map f := by
  simp [State.updateLeg]

theorem State.updateLeg_other (s : State) (n m : LegNo) (f : Leg → Leg) (h : n ≠ m) :
    (s.updateLeg n f).legs[m] = s.legs[m] := by
  simp [State.updateLeg, Vector.getElem_set_ne, Fin.val_ne_of_ne h]

@[simp] theorem State.setConf_same (s : State) (c : ConfNo) (k : Option Conf) : (s.setConf c k).confs[c] = k := by
  simp [State.setConf]

theorem State.setConf_other (s : State) (c d : ConfNo) (k : Option Conf) (h : c ≠ d) :
    (s.setConf c k).confs[d] = s.confs[d] := by
  simp [State.setConf, Vector.getElem_set_ne, Fin.val_ne_of_ne h]

@[simp] theorem State.setRecord_same (s : State) (h : Handle) (r : Option ExtRecord) : (s.setRecord h r).record h = r := by
  simp [State.setRecord, State.record]

theorem State.setRecord_other (s : State) (h k : Handle) (r : Option ExtRecord) (hk : h ≠ k) :
    (s.setRecord h r).record k = s.record k := by
  simp [State.setRecord, State.record, Vector.getElem_set_ne, Fin.val_ne_of_ne hk]

@[simp] theorem State.updateRecord_same (s : State) (h : Handle) (f : ExtRecord → ExtRecord) :
    (s.updateRecord h f).record h = (s.record h).map f := by
  simp [State.updateRecord, State.record]

theorem State.updateRecord_other (s : State) (h k : Handle) (f : ExtRecord → ExtRecord) (hk : h ≠ k) :
    (s.updateRecord h f).record k = s.record k := by
  simp [State.updateRecord, State.record, Vector.getElem_set_ne, Fin.val_ne_of_ne hk]

@[simp] theorem LinePort.setSource_none (p : LinePort) (src : SlotSource) : p.setSource none src = p := rfl

@[simp] theorem LinePort.setSource_some (p : LinePort) (k : Slot) (src : SlotSource) :
    p.setSource (some k) src = { p with outMap := p.outMap.set k src } := rfl

@[simp] theorem LinePort.release_none (p : LinePort) (src : SlotSource) : p.release none src = p := rfl

/-- R7: an entry is released exactly when it names the source. -/
theorem LinePort.release_some (p : LinePort) (k : Slot) (src : SlotSource) :
    p.release (some k) src = if p.outMap[k] = src then { p with outMap := p.outMap.set k .vacant } else p := rfl

/-! #### Readings that an operation on another field leaves alone -/

@[simp] theorem State.notify_record (s : State) (k : NoticeKind) (x : Nat) (d : Half) (h : Handle) :
    (s.notify k x d).record h = s.record h := rfl

@[simp] theorem State.notify_boundSlot (s : State) (k : NoticeKind) (x : Nat) (d : Half) (h : Handle) :
    (s.notify k x d).boundSlot h = s.boundSlot h := rfl

@[simp] theorem State.notify_membersOf (s : State) (k : NoticeKind) (x : Nat) (d : Half) (c : ConfNo) :
    (s.notify k x d).membersOf c = s.membersOf c := rfl

@[simp] theorem State.setLeg_record (s : State) (n : LegNo) (l : Option Leg) (h : Handle) :
    (s.setLeg n l).record h = s.record h := rfl

@[simp] theorem State.setLeg_boundSlot (s : State) (n : LegNo) (l : Option Leg) (h : Handle) :
    (s.setLeg n l).boundSlot h = s.boundSlot h := rfl

@[simp] theorem State.setConf_record (s : State) (c : ConfNo) (k : Option Conf) (h : Handle) :
    (s.setConf c k).record h = s.record h := rfl

@[simp] theorem State.setConf_boundSlot (s : State) (c : ConfNo) (k : Option Conf) (h : Handle) :
    (s.setConf c k).boundSlot h = s.boundSlot h := rfl

@[simp] theorem State.answered_record (s : State) (c : Byte) (st : Status) (b : List Byte) (h : Handle) :
    (s.answered c st b).record h = s.record h := rfl

@[simp] theorem State.answered_boundSlot (s : State) (c : Byte) (st : Status) (b : List Byte) (h : Handle) :
    (s.answered c st b).boundSlot h = s.boundSlot h := rfl

end Sys2Proof.Machine
end

