-- ==== Sys2Proof/Laws/Ops.lean ====
section
/-! SUPPORT. What each shared operation can do, said once: lookups, notices, replies, staging and the map. The
statements about commands cite these and never unfold the operation. -/

namespace Sys2Proof.Machine

/-! ### Lookups -/

/-- No place is found exactly when none holds. -/
theorem firstPlace_eq_none {n : Nat} {p : Fin n → Bool} : firstPlace p = none ↔ ∀ i, p i = false := by
  simp [firstPlace, List.find?_eq_none]

/-- The place found holds. -/
theorem firstPlace_holds {n : Nat} {p : Fin n → Bool} {i : Fin n} (h : firstPlace p = some i) : p i = true :=
  List.find?_some h

/-- A place that holds, with none before it, is the one found. -/
theorem firstPlace_eq_some {n : Nat} {p : Fin n → Bool} {i : Fin n} (hi : p i = true) (hb : ∀ j, j < i → p j = false) :
    firstPlace p = some i := by
  cases h : firstPlace p with
  | none => rw [firstPlace_eq_none.1 h i] at hi; cases hi
  | some j =>
    have hj := firstPlace_holds h
    rw [firstPlace, List.find?_eq_some_iff_getElem] at h
    obtain ⟨-, k, hk, hkj, hlow⟩ := h
    simp at hkj
    rcases lt_trichotomy i j with hlt | heq | hgt
    · have := hlow i.val (by simp [← hkj] at hlt ⊢; exact hlt)
      simp [hi] at this
    · rw [heq]
    · rw [hb j hgt] at hj; cases hj

/-- A place that holds, where no other does, is the one found. -/
theorem firstPlace_unique {n : Nat} {p : Fin n → Bool} {i : Fin n} (hi : p i = true) (ho : ∀ j, p j = true → j = i) :
    firstPlace p = some i := by
  cases h : firstPlace p with
  | none => rw [firstPlace_eq_none.1 h i] at hi; cases hi
  | some j => rw [ho j (firstPlace_holds h)]

/-- The places where a test holds. -/
theorem mem_placesWhere {n : Nat} {p : Fin n → Bool} {i : Fin n} : i ∈ placesWhere p ↔ p i = true := by
  simp [placesWhere]

/-- Writing back what a place holds changes nothing. -/
@[simp] theorem vector_set_same {α : Type} {n : Nat} (v : Vector α n) (i : Fin n) : v.set i v[i] = v := by
  ext j hj
  by_cases h : i.val = j <;> simp [h]

/-- Writing back what a place is known to hold changes nothing. -/
theorem vector_set_eq_self {α : Type} {n : Nat} {v : Vector α n} {i : Fin n} {x : α} (h : v[i] = x) : v.set i x = v := by
  rw [← h]; exact vector_set_same v i

/-! ### Notices and replies -/

/-- R174: what a push can do to the notice queue. -/
theorem NoticeUnit.push_cases (u : NoticeUnit) (e : Notice) :
    (u.enabled e.kind = false ∧ u.push e = u) ∨
    (u.enabled e.kind = true ∧ u.queue.length < Config.noticeRoom ∧
      u.push e = { u with queue := u.queue ++ [e], attention := true }) ∨
    (u.enabled e.kind = true ∧ Config.noticeRoom ≤ u.queue.length ∧
      u.push e = { u with queue := u.queue.drop 1 ++ [e], overrun := true, attention := true }) := by
  unfold NoticeUnit.push
  split
  · split
    · exact .inr (.inl ⟨‹_›, ‹_›, rfl⟩)
    · exact .inr (.inr ⟨‹_›, by omega, rfl⟩)
  · rename_i h; exact .inl ⟨by simpa using h, rfl⟩

/-- R171: what sending can do to the link. -/
theorem Link.send_cases (l : Link) :
    (∃ r rest, l.leaving = none ∧ l.replies = some r :: rest ∧ l.send = { l with leaving := some r, replies := rest }) ∨
    (l.send = l ∧ ∀ r rest, l.leaving = none → l.replies ≠ some r :: rest) := by
  unfold Link.send
  split
  · exact .inl ⟨_, _, ‹_›, ‹_›, rfl⟩
  · rename_i h; exact .inr ⟨rfl, fun r rest h1 h2 => h r rest h1 h2⟩

/-- R170: what a taking can do: nothing at all, or the handler's effect with its reply or the place of it. -/
theorem takeRequest_cases (code : Byte) (hd : State → State × Answer) (s : State) :
    (Config.replyRoom ≤ s.link.waiting ∧ takeRequest code hd s = s) ∨
    (s.link.waiting < Config.replyRoom ∧ (∃ st b, (hd s).2 = .now st b ∧ takeRequest code hd s = (hd s).1.answered code st b)) ∨
    (s.link.waiting < Config.replyRoom ∧ (hd s).2 = .later ∧
      takeRequest code hd s = { (hd s).1 with link := (hd s).1.link.push none }) := by
  by_cases hw : s.link.waiting < Config.replyRoom
  · rcases h : hd s with ⟨t, st | -⟩
    · exact .inr (.inl ⟨hw, _, _, rfl, takeRequest_now hw h⟩)
    · exact .inr (.inr ⟨hw, rfl, takeRequest_later hw h⟩)
  · exact .inl ⟨by omega, takeRequest_full hw⟩

/-! ### Staging (R163) -/

/-- With the hold CLOSED the request is taken at once. -/
theorem stageOr_closed {e : HeldChange} {named : State → Bool} {f : State → State × Answer} {s : State}
    (h : s.hold = .closed) : stageOr e named f s = f s := by simp [stageOr, h]

/-- With the hold OPEN the request is staged at the tail, or refused. -/
theorem stageOr_opened {e : HeldChange} {named : State → Bool} {f : State → State × Answer} {s : State}
    {entries : List HeldChange} {mark : CommitMark} (h : s.hold = .opened entries mark) :
    stageOr e named f s =
      if named s = false then (s, .now .notFound [])
      else if entries.length < Config.heldRoom then
        ({ s with hold := .opened (entries ++ [e]) mark }, .now .staged [byteOf (entries.length + 1)])
      else (s, .now .full []) := by
  simp [stageOr, h, refuse]

/-! ### The line slot output map (R7) -/

/-- An entry that names the source is vacated. -/
theorem LinePort.release_named {p : LinePort} {k : Slot} {src : SlotSource} (h : p.outMap[k] = src) :
    p.release (some k) src = { p with outMap := p.outMap.set k .vacant } := by
  simp only [LinePort.release, h, if_true]

/-- An entry that names another source stays. -/
theorem LinePort.release_other {p : LinePort} {k : Slot} {src : SlotSource} (h : p.outMap[k] ≠ src) :
    p.release (some k) src = p := by
  simp only [LinePort.release, h, if_false]

/-! ### The clearing path (R62) -/

/-- What the clearing path does to an open leg, whatever its endpoint. -/
theorem State.clearLeg_some {s : State} {n : LegNo} {l : Leg} (cause : CloseCause) (slot : Option Slot)
    (h : s.legs[n] = some l) :
    let q := withoutSyncRoll n s.cellQueue
    let room : Bool := q.length < Config.cellQueueRoom
    (s.clearLeg n cause slot).legs = s.legs.set n (some (l.cleared cause room)) ∧
    (s.clearLeg n cause slot).cellQueue = (if room then q ++ [{ kind := .clear, leg := n }] else q) ∧
    (s.clearLeg n cause slot).line = (match l.endpoint with | .line => s.line.release slot (.leg n) | _ => s.line) ∧
    (s.clearLeg n cause slot).confs = (match l.endpoint with
      | .conference c => s.confs.set c ((s.confs[c]).map (Conf.remove (.leg n)))
      | _ => s.confs) := by
  rcases he : l.endpoint <;> simp [State.clearLeg, h, he]

/-- A FREE leg has nothing to clear. -/
theorem State.clearLeg_none {s : State} {n : LegNo} (cause : CloseCause) (slot : Option Slot) (h : s.legs[n] = none) :
    s.clearLeg n cause slot = s := by
  simp [State.clearLeg, h]

/-- A FREE conference has nothing to close. -/
theorem State.closeConf_none {s : State} {c : ConfNo} (cause : ConfCause) (h : s.confs[c] = none) :
    s.closeConf c cause = s := by
  simp [State.closeConf, h]

/-- The closing path of an OPEN conference frees its record and tells CONF_CLOSED. -/
theorem State.closeConf_some {s : State} {c : ConfNo} {k : Conf} (cause : ConfCause) (h : s.confs[c] = some k) :
    s.closeConf c cause =
      ((k.members.foldl (State.dismiss c) s).setConf c none).notify .confClosed c cause.value := by
  simp [State.closeConf, h]

end Sys2Proof.Machine
end

