-- ==== Sys2Proof/Laws/Trunk.lean ====
section
/-! SUPPORT. What a completion does to each leg, said once: the legs take their blocks one by one, each changing its
own record and the notice queue alone; with what a SYNC leaves of an announced roll, and the departure ahead of an
admission arrival. -/

namespace Sys2Proof.Machine

/-- Notices queued one after another touch the notice unit alone. -/
theorem State.notifyAll_frame (s : State) (x : Nat) (ns : List (NoticeKind × Half)) :
    s.notifyAll x ns = { s with notices := (s.notifyAll x ns).notices } := by
  induction ns generalizing s with
  | nil => rfl
  | cons a rest ih => exact ih (s.notify a.1 x a.2)

@[simp] theorem State.notifyAll_nil (s : State) (x : Nat) : s.notifyAll x [] = s := rfl

@[simp] theorem State.notifyAll_cons (s : State) (x : Nat) (a : NoticeKind × Half) (ns : List (NoticeKind × Half)) :
    s.notifyAll x (a :: ns) = (s.notify a.1 x a.2).notifyAll x ns := rfl

/-- R41: what taking a completed block makes of a leg. -/
def Leg.afterBlock (epochLength : Nat) (loaded straddles : Bool) (l : Leg) : Leg :=
  if l.state.isOpen then (l.takeBlock epochLength loaded straddles).leg else l

/-- One leg's taking changes its own record and the notices alone. -/
theorem State.takeLegBlock_frame (ld : Option LegNo) (st : Bool) (s : State) (n : LegNo) :
    s.takeLegBlock ld st n = { s with
      legs := s.legs.set n ((s.legs[n]).map (Leg.afterBlock s.params.epochLength (ld == some n) st))
      notices := (s.takeLegBlock ld st n).notices } := by
  unfold State.takeLegBlock Leg.afterBlock
  rcases h : s.legs[n] with _ | l
  · simp [vector_set_eq_self h]
  · by_cases ho : l.state.isOpen = true
    · simp only [ho, if_true, Option.map_some]
      rw [State.notifyAll_frame]; rfl
    · simp [ho, vector_set_eq_self h]

/-- A leg's taking queues nothing where its part of the completion has no notice. -/
theorem State.takeLegBlock_quiet {ld : Option LegNo} {st : Bool} {s : State} {n : LegNo}
    (h : ∀ l, s.legs[n] = some l → l.state.isOpen = true →
      (l.takeBlock s.params.epochLength (ld == some n) st).notices = []) :
    (s.takeLegBlock ld st n).notices = s.notices := by
  unfold State.takeLegBlock
  rcases hl : s.legs[n] with _ | l
  · rfl
  · by_cases ho : l.state.isOpen = true
    · simp only [ho, if_true, h l hl ho]; rfl
    · simp [ho]

/-- The legs of a list take their blocks: each leg of the list once, in its own record. -/
theorem State.takeList_frame (ld : Option LegNo) (st : Bool) (ns : List LegNo) (hn : ns.Nodup) (s : State) :
    let t := ns.foldl (State.takeLegBlock ld st) s
    t = { s with legs := t.legs, notices := t.notices } ∧
    ∀ m : LegNo, t.legs[m] =
      if m ∈ ns then (s.legs[m]).map (Leg.afterBlock s.params.epochLength (ld == some m) st) else s.legs[m] := by
  induction ns generalizing s with
  | nil => simp
  | cons n rest ih =>
    have hnr := (List.nodup_cons.1 hn).1
    obtain ⟨h1, h2⟩ := ih (List.nodup_cons.1 hn).2 (s.takeLegBlock ld st n)
    have hf := State.takeLegBlock_frame ld st s n
    refine ⟨?_, fun m => ?_⟩
    · simp only [List.foldl_cons]; rw [h1, hf]
    · simp only [List.foldl_cons]; rw [h2 m, hf]
      by_cases hm : n = m
      · subst hm; simp [hnr]
      · have h3 : n.val ≠ m.val := fun h => hm (Fin.ext h)
        have h4 : ¬ m = n := fun h => hm h.symm
        simp [h3, h4]

/-- R41: every leg takes its block; nothing but the legs and the notices changes. -/
theorem State.takeBlocks_frame (ld : Option LegNo) (st : Bool) (s : State) :
    s.takeBlocks ld st = { s with legs := (s.takeBlocks ld st).legs, notices := (s.takeBlocks ld st).notices } :=
  (State.takeList_frame ld st _ (List.nodup_finRange 32) s).1

/-- R41: what a completion makes of each leg's record. -/
theorem State.takeBlocks_legs (ld : Option LegNo) (st : Bool) (s : State) (m : LegNo) :
    (s.takeBlocks ld st).legs[m] = (s.legs[m]).map (Leg.afterBlock s.params.epochLength (ld == some m) st) := by
  have := (State.takeList_frame ld st _ (List.nodup_finRange 32) s).2 m
  simpa [State.takeBlocks] using this

/-- A completion queues no notice where no leg's taking has one. -/
theorem State.takeBlocks_quiet {ld : Option LegNo} {st : Bool} {s : State}
    (h : ∀ (n : LegNo) (l : Leg), s.legs[n] = some l → l.state.isOpen = true →
      (l.takeBlock s.params.epochLength (ld == some n) st).notices = []) :
    (s.takeBlocks ld st).notices = s.notices := by
  have key : ∀ ns : List LegNo, ns.Nodup → ∀ u : State, u.params = s.params → u.notices = s.notices →
      (∀ n ∈ ns, u.legs[n] = s.legs[n]) → (ns.foldl (State.takeLegBlock ld st) u).notices = s.notices := by
    intro ns
    induction ns with
    | nil => intro _ u _ hu _; exact hu
    | cons n rest ih =>
      intro hn u hp hu hl
      simp only [List.foldl_cons]
      have hf := State.takeLegBlock_frame ld st u n
      apply ih (List.nodup_cons.1 hn).2
      · rw [hf]; exact hp
      · rw [State.takeLegBlock_quiet, hu]
        intro l h1 h2; rw [hl n (by simp)] at h1; rw [hp]; exact h n l h1 h2
      · intro m hm
        have h3 : n.val ≠ m.val := fun h => (List.nodup_cons.1 hn).1 (Fin.ext h ▸ hm)
        rw [hf]; simp [h3]; exact hl m (by simp [hm])
  exact key _ (List.nodup_finRange 32) s rfl rfl (fun _ _ => rfl)

/-! ### The announced roll and a SYNC (R98, R89) -/

/-- R98: what stays of an announced roll at a SYNC of generation g. -/
theorem Leg.dropAnnounced_eq (g : Byte) (l : Leg) :
    l.dropAnnounced g = { l with announced := l.announced.filter fun r => r.gen ≠ g } := by
  obtain ⟨_, _, _, _, _, _, _, _, _, announced⟩ := l
  cases announced with
  | none => rfl
  | some r => by_cases h : r.gen = g <;> simp [Leg.dropAnnounced, Option.filter, h]

/-- R89: a SYNC that agrees with a RUNNING leg's counters changes nothing. -/
theorem Leg.actOnSync_equal {len : Nat} {e : Half} {i : Nat} {g : Byte} {l : Leg} (hst : l.state = .running)
    (hg : g = l.rxKey.gen) (he : l.rx.epoch = e) (hi : l.rx.index = i) :
    l.actOnSync len e i g = ({ leg := l, notices := [] }, false) := by
  simp [Leg.actOnSync, hg, hst, he, hi]

/-! ### The admission departure and an arrival (R120) -/

theorem State.admissionDeparture_not_due {s : State} (h : s.line.cellDue = false) : s.admissionDeparture = s := by
  simp [State.admissionDeparture, h]

/-- What a departure can do: nothing where none is due; else the oldest cell, or an IDLE cell, is sent. -/
theorem State.admissionDeparture_due {s : State} (h : s.line.cellDue = true) :
    s.admissionDeparture = { s with
      line := { s.line with cellDue := false, cellOut := s.admQueue.headD idleAdmissionCell }, admQueue := s.admQueue.tail } := by
  cases hq : s.admQueue <;> simp [State.admissionDeparture, h, hq]

/-- R120: an arrival is taken as if the departure still due had been taken first. -/
theorem State.admissionArrival_after_departure (s : State) (h : s.line.arrival ≠ none) :
    s.admissionArrival = s.admissionDeparture.admissionArrival := by
  cases hd : s.line.cellDue with
  | false => rw [State.admissionDeparture_not_due hd]
  | true =>
    obtain ⟨cell, hc⟩ := Option.ne_none_iff_exists'.mp h
    simp [State.admissionArrival, State.admissionDeparture_due hd, hc, State.admissionDeparture_not_due]

end Sys2Proof.Machine
end

