-- ==== Sys2Proof/Tests/Slice0.lean ====
section
/-! SUPPORT. The model's own tests: ill-formed commands refused, the spec's worked figures, one step of each command
on a small state, and a witness for every statement that has hypotheses. Expected values are the spec's. -/

namespace Sys2Proof.Tests

open Sys2Proof Sys2Proof.Machine

/- Each proof is checked before the next is begun, so that no more than one thread is needed. -/
set_option Elab.async false

/-! ### Small states -/

/-- An extension admitted on line slot 5. -/
def ext0 : ExtRecord :=
  { number := [1, 2], credential := ⟨0x123456, 0x00ABCD⟩, cls := ⟨true, true, true⟩, group := 0, scope := .leg,
    state := .admitted 5 none, failures := 0 }

/-- An extension that is not admitted. -/
def ext1 : ExtRecord := { ext0 with number := [3, 4], state := .idle }

/-- A RUNNING leg of extension 0 on trunk slot 9, its line side parked. -/
def leg0 : Leg :=
  { state := .running, owner := 0, slot := 9, farTag := none, endpoint := .parked,
    txKey := ⟨1, .pass, ⟨0x123456, 0x00ABCD⟩⟩, rxKey := ⟨1, .pass, ⟨0x123456, 0x00ABCD⟩⟩,
    pendingKey := none, switchEpoch := none, announced := none, tx := ⟨2, 0, 0⟩, rx := ⟨2, 0, 0⟩, gain := 0,
    realigns := 0, mutedBlocks := 0, skippedSyncs := 0, wantsRoll := false, wantsClear := false, gathering := true,
    txAssembly := [], gathered := none, emission := none, rxAssembly := [], rxOutput := [] }

/-- A conference just opened, without a chair. -/
def conf0 : Conf :=
  { chair := none, members := [], governor := 128, attenuation := 0, overload := false, clippedBlocks := 0,
    mixSet := none, clipMark := false, judged := none }

/-- A key setting of generation 2. -/
def setting2 : KeySetting := { gen := 2, mode := .shuffle, scramble := ⟨1, 2⟩, descramble := ⟨3, 4⟩ }

/-- The part with one record at handle 0. -/
def withExt (r : ExtRecord) : State := State.reset.setRecord 0 (some r)

/-- The part with extension 0 admitted and one leg, number 3. -/
def withLeg (l : Leg) : State := (withExt ext0).setLeg 3 (some l)

/-- The part with extension 0 admitted and one conference, number 2. -/
def withConf (k : Conf) : State := (withExt ext0).setConf 2 (some k)

/-- The part with an admission cell handed over and line slot 5 set to LISTEN. -/
def withCell (cell : Cell) (s : State) : State :=
  { s with line := { s.line with arrival := some cell }, ext := { s.ext with listen := s.ext.listen.set 5 true } }

/-- The part in SYNC at phase 0 with a receive block that has all its frames. -/
def withBlock (cell : Cell) (s : State) : State :=
  { s with framer := { s.framer with mode := .sync 0, window := cell.toList, blockFrames := 8, blockEnded := true } }

/-- What a command leaves. -/
def run (c : Instr) (s : State) : State := match exec c s with | .next t => t | .fault _ => s | .refused _ => s

/-- The reply that leaves after a command on a part with no reply under way. -/
def replyTo (c : Instr) (s : State) : Option Reply := (run c s).link.leaving

/-! ### WellFormed smoke: an ill-formed command for each check -/

theorem test_body_too_long_refused : (Instr.legOpen (List.replicate 250 0)).wellFormed = false := by decide +kernel
theorem test_body_of_249_admitted : (Instr.legOpen (List.replicate 249 0)).wellFormed = true := by decide +kernel
theorem test_known_code_is_not_unknown : (Instr.unknownRequest 0x1D).wellFormed = false := by decide
theorem test_good_length_is_not_discarded : (Instr.frameLengthDiscard 250).wellFormed = false := by decide

/-! ### The spec's worked figures -/

/-- Section 2.3's table. -/
theorem test_compressions :
    ([152, 1000, -300, 3000, 47, 3952, -9, 0].map compress =
      [makeCode true 3 5, makeCode true 5 15, makeCode false 4 3, makeCode true 7 7, makeCode true 1 15,
       makeCode true 7 15, makeCode false 0 9, makeCode true 0 0]) ∧
    [152, 1000, -300, 3000, 47, 3952, -9, 0].map (fun x => expand (compress x)) =
      [152, 976, -288, 2928, 46, 3952, -9, 0] := by decide

/-- Section 2.6: -1000 at +3 dB. -/
theorem test_plus_three : scale (-1000) (multiplier 3) = -1413 ∧
    levelled (-1000) (multiplier 3) = (makeCode false 6 6, false) ∧ expand (makeCode false 6 6) = -1392 := by decide

/-- Section 2.6: one code at each side of unity. -/
theorem test_sides_of_unity :
    [-6, -3, 0, 3, 6].map (fun g => expand (applyGain g (makeCode true 5 8))) = [368, 528, 752, 1008, 1456] := by decide

/-- Section 2.6: the loudest code at +1, and a half-way case at -6. -/
theorem test_clip_and_rounding : levelled 3952 (multiplier 1) = (makeCode true 7 15, true) ∧
    scale 2048 (multiplier (-6)) = 1027 ∧ scale (-2048) (multiplier (-6)) = -1027 := by decide

/-- Section 3.3's key. -/
def workedKey : Key := ⟨0x123456, 0x00ABCD⟩

/-- Section 3.3: the seed, the block values, the block words, P and S of two blocks. -/
theorem test_worked_block : epochSeed workedKey 2 = 0x123654 ∧
    blockValue workedKey 2 0 = 0x5BBB71 ∧ blockWord 0x5BBB71 = 0x5B96AC ∧
    permutationNumber 0x5B96AC = 34988 ∧ signMask 0x5B96AC = 148 ∧
    blockValue workedKey 2 1 = 0xCB5502 ∧ blockWord 0xCB5502 = 0xCB30A8 ∧
    permutationNumber 0xCB30A8 = 10664 ∧ signMask 0xCB30A8 = 74 := by decide

/-- Section 3.3: the swaps and the block as it is sent. -/
theorem test_worked_order :
    swapsOf 34988 = [(7, 4), (6, 5), (5, 0), (4, 4), (3, 0), (2, 2), (1, 1)] ∧
    scrambleBlock .shuffle 0x5BBB71 #v[0x80, 0x81, 0x82, 0x83, 0x84, 0x85, 0x86, 0x87] =
      #v[0x83, 0x81, 0x02, 0x86, 0x07, 0x80, 0x85, 0x04] ∧
    descrambleBlock .shuffle 0x5BBB71 #v[0x83, 0x81, 0x02, 0x86, 0x07, 0x80, 0x85, 0x04] =
      #v[0x80, 0x81, 0x82, 0x83, 0x84, 0x85, 0x86, 0x87] := by decide

/-- R29: the epoch seed at the reduction. -/
theorem test_seed_reduction : epochSeed ⟨0, 1⟩ 65281 = 1 := by decide

/-- "A leg's first blocks": the load of SYNC (2, 5). -/
theorem test_worked_load : (Counters.load workedKey 256 2 5 ⟨0, 0, 0⟩).epoch = 2 ∧
    (Counters.load workedKey 256 2 5 ⟨0, 0, 0⟩).index = 6 ∧
    (Counters.load workedKey 256 2 5 ⟨0, 0, 0⟩).wheel = blockValue workedKey 2 5 := by decide

/-- "One frame of mixing": the round figures at attenuation 0 and 2, and the same talkers as codes. -/
theorem test_worked_mix :
    (minusOne 0 [(.leg 1, 1000), (.leg 2, -300), (.leg 3, 3000)]).map (fun r => (expand r.2.1, r.2.2)) =
      [(2672, false), (3952, true), (688, false)] ∧
    (minusOne 2 [(.leg 1, 1000), (.leg 2, -300), (.leg 3, 3000)]).map (fun r => (expand r.2.1, r.2.2)) =
      [(2032, false), (3056, false), (528, false)] ∧
    (minusOne 0 [(.leg 1, 976), (.leg 2, -288), (.leg 3, 2928)]).map (fun r => (expand r.2.1, r.2.2)) =
      [(2544, false), (3824, false), (688, false)] := by decide

/-- R75, R118: the check bytes of the idle cells. -/
theorem test_idle_cells : TrunkCell.idle.build = #v[0xC0, 0, 0, 0, 0, 0, 0, 0xE5] ∧
    buildCell 0xD0 0 0 0 0 0 0 = #v[0xD0, 0, 0, 0, 0, 0, 0, 0xD5] := by decide

/-- R121: the first three nonces after the reset pin. -/
theorem test_first_nonces : State.reset.nextNonce = 0xF247 ∧
    (State.reset.sendChallenge 5).nextNonce = 0xEA7E ∧
    ((State.reset.sendChallenge 5).sendChallenge 5).nextNonce = 0xC391 := by decide

/-! ### One step of each command -/

/-- R2, R5, R6, R42: the frame at position 3 of a LINE leg: slot 5 carries its oldest code, slot 6 is undriven. -/
theorem test_line_frame :
    let s := withLeg { leg0 with endpoint := .line, rxOutput := [0x91, 0x92] }
    let t := run (.lineFrame silenceFrame silenceFrame)
      { s with line := { s.line.setSource (some 5) (.leg 3) with framePos := 3 } }
    t.line.framePos = 4 ∧ t.line.out[5] = some 0x91 ∧ t.line.out[6] = none ∧ t.trunk.out[9] = some silence ∧
      (t.legs[3]).map (·.rxOutput) = some [0x92] := by decide +kernel

/-- R2: the first line block start after the reset pin is block 0; it is taken once. -/
theorem test_line_block_start : (run .lineBlockStart State.reset).line.blockCount = 0 ∧
    (run .lineBlockStart (run .lineBlockStart State.reset)).line.blockCount = 0 ∧
    (run .lineBlockStart { State.reset with line := { State.reset.line with startSeen := true } }).line.blockCount = 1 := by
  decide +kernel

/-- R10, R13: a third frame pushes the oldest out of the store with a slip +1. -/
theorem test_trunk_frame_arrival :
    let s := (State.reset.setTiming .independent)
    let t := run (.trunkFrameArrival silenceFrame) { s with trunk := { s.trunk with store := [silenceFrame, silenceFrame] } }
    t.trunk.store.length = 2 ∧ t.trunk.netSlips = 1 ∧ t.notices.queue.map Notice.bytes = [[0x22, 0, 0, 1, 0, 0]] := by
  decide +kernel

/-- R84: the fourth bad cell in a row returns the framer to HUNT and the leg to HOLDING(HUNT). -/
theorem test_receive_block_completion :
    let s := withBlock (Vector.replicate 8 0) (withLeg leg0)
    let t := run .trunkReceiveBlockCompletion { s with framer := { s.framer with badRun := 3 } }
    t.framer.mode = .hunt ∧ (t.legs[3]).map (·.state) = some (.holding .hunt) ∧ t.framer.badCells = 1 ∧
      t.notices.queue.map Notice.bytes = [[0x21, 0, 0, 0, 0, 0]] := by decide +kernel

/-- "A leg's first blocks": the block of line block 100 scrambled at (2, 0) from seed 0x123654. -/
theorem test_leg_block_scramble :
    let t := run (.legBlockScramble 3) (withLeg { leg0 with gathered := some silentBlock })
    (t.legs[3]).map (fun l => (l.tx.epoch, l.tx.index, l.tx.wheel)) = some (2, 1, 0x5BBB71) ∧
      t.cellQueue = [⟨.sync, 3⟩] := by decide +kernel

/-- R75, R78: a SYNC for the leg on trunk slot 9, epoch 2, index 0, generation 1. -/
theorem test_trunk_cell_departure :
    let s := withLeg leg0
    (run .trunkCellDeparture { s with cellQueue := [⟨.sync, 3⟩], trunk := { s.trunk with cellDue := true } }).trunk.cellOut =
      #v[0xC1, 9, 0, 2, 0, 0, 0x10, 0xC9] := by decide +kernel

/-- R121, R124: a HELLO from slot 5 challenges extension 34 with the first nonce. -/
theorem test_admission_cell_arrival :
    let t := run .admissionCellArrival (withCell (buildCell 0xD1 5 2 0x34 0xFF 0xFF 0) (withExt ext1))
    (t.record 0).map (·.state) = some (.challenged 5 0xF247 2000) ∧
      t.admQueue = [buildCell 0xD2 5 0xF2 0x47 0 0 0] ∧ t.line.arrival = none := by decide +kernel

/-- R120: the oldest cell departs; with none, an IDLE cell. -/
theorem test_admission_cell_departure :
    let s := { State.reset with line := { State.reset.line with cellDue := true, cellOut := Vector.replicate 8 0 } }
    (run .admissionCellDeparture s).line.cellOut = #v[0xD0, 0, 0, 0, 0, 0, 0, 0xD5] ∧
    (run .admissionCellDeparture { s with admQueue := [buildCell 0xD4 5 0 0 0 0 0] }).line.cellOut =
      buildCell 0xD4 5 0 0 0 0 0 := by decide +kernel

/-- R128, R129: the third failure bars the extension for 60 seconds. -/
theorem test_answer_timer_expiry :
    ((run (.answerTimerExpiry 0) (withExt { ext1 with state := .challenged 5 7 0, failures := 2 })).record 0).map
      (fun r => (r.state, r.failures)) = some (.barred 60000, 3) := by decide +kernel

/-- R131: the bar ends. -/
theorem test_bar_timer_expiry :
    ((run (.barTimerExpiry 0) (withExt { ext1 with state := .barred 0, failures := 3 })).record 0).map
      (fun r => (r.state, r.failures)) = some (.idle, 0) := by decide +kernel

/-- R133: an engaged extension is challenged. -/
theorem test_refresh_timer_expiry :
    let t := run .refreshTimerExpiry ((withLeg leg0).setAdmission 0 (.admitted 5 (some 0)))
    (t.record 0).map (·.state) = some (.refreshing 5 0xF247 2000) ∧ t.admQueue.length = 1 := by decide +kernel

/-- "The governor over time": the eighth clipped block. -/
theorem test_governor_update :
    ((run (.governorUpdate 2) (withConf { conf0 with governor := 184, judged := some true })).confs[2]).map
      (fun k => (k.governor, k.attenuation, k.overload)) = some (128, 1, false) := by decide +kernel

/-- R166: a level change applied; one entry in the reply. -/
theorem test_hold_commit_apply :
    let s := withLeg leg0
    let t := run .holdCommitApply { s with hold := .opened [.level 3 (-6)] .due, link := { s.link with replies := [none] } }
    (t.legs[3]).map (·.gain) = some (-6) ∧ t.hold = .closed ∧
      t.link.leaving = some ⟨0x97, .ok, [1, 1, 0x05, 0, 0xFA, 0xFF]⟩ := by decide +kernel

/-- LEG_OPEN's body for leg 3, owner 12, slot 9, no far tag, generation 1, PASS, epoch 2, gain 0, connected. -/
def openBody : List Byte :=
  [3, 2, 0x12, 0xFF, 0xFF, 9, 0, 0, 1, 0, 0, 0, 1, 0, 0, 2, 0, 0, 3, 0, 0, 4, 0, 2, 0, 1]

/-- R54 to R56: the leg is opened WAITING and LINE. -/
theorem test_leg_open :
    let t := run (.legOpen openBody) (withExt ext0)
    (t.legs[3]).map (fun l => (l.state, l.endpoint, l.owner, l.slot)) = some (.waiting, .line, 0, 9) ∧
      t.line.outMap[5] = .leg 3 ∧ t.link.leaving = some ⟨0x81, .ok, [1, 0xFF]⟩ := by decide +kernel

/-- R62: CLEARING, with a CLEAR queued and the SYNC gone. -/
theorem test_leg_close :
    let t := run (.legClose [3]) { withLeg leg0 with cellQueue := [⟨.sync, 3⟩] }
    (t.legs[3]).map (·.state) = some (.clearing .host) ∧ t.cellQueue = [⟨.clear, 3⟩] := by decide +kernel

/-- R58: the owner's slot passes to the leg. -/
theorem test_leg_connect : (run (.legConnect [3]) (withLeg leg0)).line.outMap[5] = .leg 3 ∧
    replyTo (.legConnect [3]) (withLeg leg0) = some ⟨0x83, .ok, [0xFF]⟩ := by decide +kernel

/-- R59: the map entry becomes NONE. -/
theorem test_leg_park :
    let s := withLeg { leg0 with endpoint := .line }
    let t := run (.legPark [3]) { s with line := s.line.setSource (some 5) (.leg 3) }
    t.line.outMap[5] = .vacant ∧ (t.legs[3]).map (·.endpoint) = some .parked := by decide +kernel

/-- R60: a gain of +10 is clamped to +6. -/
theorem test_leg_level : ((run (.legLevel [3, 10]) (withLeg leg0)).legs[3]).map (·.gain) = some 6 ∧
    replyTo (.legLevel [3, 10]) (withLeg leg0) = some ⟨0x85, .ok, [6]⟩ := by decide +kernel

/-- R95: the pending key and the ROLL request. -/
theorem test_leg_rekey :
    let t := run (.legRekey (rekeyBody 3 setting2)) (withLeg leg0)
    (t.legs[3]).bind (·.pendingKey) = some setting2 ∧ t.cellQueue = [⟨.roll, 3⟩] := by decide +kernel

/-- R69: a FREE leg answers 0 alone; 38 bytes for one that is not. -/
theorem test_leg_read : replyTo (.legRead [4, 0]) (withLeg leg0) = some ⟨0x87, .ok, [0]⟩ ∧
    (replyTo (.legRead [3, 0]) (withLeg leg0)).map (·.body.take 7) = some [2, 0, 0, 0, 0, 0, 9] := by decide +kernel

/-- R93: after the reset pin: HUNT, no phase, LOCKED, everything else 0. -/
theorem test_trunk_read : replyTo (.trunkRead [0]) State.reset =
    some ⟨0x88, .ok, [0, 0xFF, 0, 0, 0, 0, 0, 0, 0, 0, 0, 0, 0, 0, 0]⟩ := by decide +kernel

/-- R107: the lowest free handle. -/
theorem test_ext_load :
    let t := run (.extLoad [2, 0x34, 0xFF, 0xFF, 0, 0, 0, 0, 0, 1, 7, 15, 2]) (withExt ext0)
    t.link.leaving = some ⟨0x89, .ok, [1]⟩ ∧ (t.record 1).map (fun r => (r.number, r.group, r.scope, r.state)) =
      some ([3, 4], 15, .group, .idle) := by decide +kernel

/-- R108: a bound record is BUSY. -/
theorem test_ext_remove : replyTo (.extRemove [1, 0, 0, 0, 0]) (withExt ext0) = some ⟨0x8A, .busy, []⟩ ∧
    (run (.extRemove [1, 0, 0, 0, 0]) (withExt ext1)).record 0 = none := by decide +kernel

/-- R109: form 2 finds the lowest handle at or above. -/
theorem test_ext_read : (replyTo (.extRead [2, 0, 0, 0, 0]) (withExt ext0)).map (·.body.take 10) =
    some [0, 2, 0x12, 0xFF, 0xFF, 7, 0, 0, 2, 0] ∧
    replyTo (.extRead [2, 1, 0, 0, 0]) (withExt ext0) = some ⟨0x8B, .notFound, []⟩ := by decide +kernel

/-- R110, R135: an admitted extension's suspension is a loss of admission with cause 3. -/
theorem test_ext_suspend :
    let t := run (.extSuspend [1, 0, 0, 0, 0]) (withLeg leg0)
    (t.record 0).map (·.state) = some .suspended ∧ (t.legs[3]).map (·.state) = some (.clearing .fault) ∧
      t.notices.queue.map Notice.bytes = [[0x09, 0, 0, 3, 0, 0]] ∧ t.link.leaving = some ⟨0x8C, .ok, [2]⟩ := by
  decide +kernel

theorem test_ext_resume :
    ((run (.extResume [1, 0, 0, 0, 0]) (withExt { ext1 with state := .suspended, failures := 2 })).record 0).map
      (fun r => (r.state, r.failures)) = some (.idle, 2) := by decide +kernel

theorem test_ext_unbar :
    ((run (.extUnbar [1, 0, 0, 0, 0]) (withExt { ext1 with state := .barred 9, failures := 3 })).record 0).map
      (fun r => (r.state, r.failures)) = some (.idle, 0) := by decide +kernel

/-- R112: refused for an extension that is not bound. -/
theorem test_ext_revoke : replyTo (.extRevoke [1, 0, 0, 0, 0]) (withExt ext1) = some ⟨0x8F, .state, []⟩ ∧
    ((run (.extRevoke [1, 0, 0, 0, 0]) (withExt ext0)).record 0).map (·.state) = some .idle := by decide +kernel

/-- R115: the later change of a slot stands. -/
theorem test_slot_map : (run (.slotMap [0, 2, 63, 1, 63, 0]) State.reset).ext.listen[63] = false ∧
    (run (.slotMap [0, 1, 63, 1]) State.reset).ext.listen[63] = true ∧
    (replyTo (.slotMap [0, 0]) State.reset).map (·.body.length) = some 67 := by decide +kernel

/-- R147: count 128, attenuation 0. -/
theorem test_conf_open : ((run (.confOpen [2, 1, 1, 0, 0, 0, 0]) (withExt ext0)).confs[2]).map
    (fun k => (k.chair, k.governor, k.attenuation)) = some (some 0, 128, 0) := by decide +kernel

/-- R149, R150: a leg joins. -/
theorem test_conf_join :
    let s := (withLeg leg0).setConf 2 (some conf0)
    ((run (.confJoin [2, 0, 3, 0, 0, 0, 0, 0]) s).confs[2]).map (·.members) = some [.leg 3] ∧
      replyTo (.confJoin [2, 0, 3, 0, 0, 0, 0, 0]) s = some ⟨0x92, .ok, [1, 0xFF]⟩ := by decide +kernel

/-- R152: a local member leaves and its slot becomes NONE. -/
theorem test_conf_leave :
    let s := withConf { conf0 with members := [.loc 0] }
    let t := run (.confLeave [2, 1, 0, 1, 0, 0, 0, 0]) { s with line := s.line.setSource (some 5) (.conference 2) }
    (t.confs[2]).map (·.members) = some [] ∧ t.line.outMap[5] = .vacant := by decide +kernel

/-- R148: CONF_CLOSED with cause HOST. -/
theorem test_conf_close : (run (.confClose [2]) (withConf conf0)).confs[2] = none ∧
    (run (.confClose [2]) (withConf conf0)).notices.queue.map Notice.bytes = [[0x30, 2, 0, 0, 0, 0]] := by decide +kernel

/-- R160: 32 free places and a FREE conference. -/
theorem test_conf_read : replyTo (.confRead [2, 0]) State.reset = some ⟨0x95, .ok, [32, 0]⟩ := by decide +kernel

theorem test_hold_begin : (run (.holdBegin []) State.reset).hold = .opened [] .absent := by decide +kernel

/-- R165: the commit waits for the next line block start, and has no reply yet. -/
theorem test_hold_commit :
    let t := run (.holdCommit []) { State.reset with hold := .opened [] .absent }
    t.hold = .opened [] .pending ∧ t.link.leaving = none ∧ t.link.replies = [none] := by decide +kernel

/-- R164: the reply tells how many entries were dropped. -/
theorem test_hold_cancel :
    replyTo (.holdCancel []) { State.reset with hold := .opened [.park 3, .connect 3] .absent } =
      some ⟨0x98, .ok, [2]⟩ := by decide +kernel

/-- R172: an epoch length of 63 is brought to 64; the stride is made odd. -/
theorem test_param_set : replyTo (.paramSet [1, 0, 63]) State.reset = some ⟨0x99, .ok, [0, 64]⟩ ∧
    replyTo (.paramSet [8, 0x10, 0]) State.reset = some ⟨0x99, .ok, [0x10, 1]⟩ := by decide +kernel

/-- R172, R173: the defaults. -/
theorem test_param_read : replyTo (.paramRead []) State.reset =
    some ⟨0x9A, .ok, [1, 0, 0, 0, 0x07, 0xD0, 0, 60, 0, 0, 0, 3, 0x5A, 0x3C, 0x2F, 0x1B]⟩ := by decide +kernel

/-- R175: one of two entries is removed. -/
theorem test_notice_fetch :
    let s := (State.reset.notify .slip 0 1).notify .trunkLocked 0 7
    replyTo (.noticeFetch [1]) s = some ⟨0x9B, .ok, [0, 1, 1, 0x22, 0, 0, 1, 0, 0]⟩ ∧
      (run (.noticeFetch [1]) s).notices.attention = true := by decide +kernel

/-- R176: bit 22 set is refused, with the set option and without it. -/
theorem test_notice_mask : replyTo (.noticeMask [1, 0, 0x40, 0, 0]) State.reset = some ⟨0x9C, .badArgument, []⟩ ∧
    replyTo (.noticeMask [0, 0, 0x40, 0, 0]) State.reset = some ⟨0x9C, .badArgument, []⟩ ∧
    (run (.noticeMask [1, 0, 0, 0, 1]) State.reset).notices.mask = 1 := by decide +kernel

/-- R177: the legs are FREE, RESTARTED is the one notice. -/
theorem test_restart : (run (.restart []) (withLeg leg0)).legs[3] = none ∧
    (run (.restart []) (withLeg leg0)).notices.queue.map Notice.bytes = [[0x3F, 0, 0, 0, 0, 0]] ∧
    ((run (.restart []) (withLeg leg0)).record 0).map (·.state) = some .idle := by decide +kernel

/-- R170: the reply's code. -/
theorem test_unknown_request : replyTo (.unknownRequest 0x1E) State.reset = some ⟨0x9E, .unknownRequest, []⟩ ∧
    replyTo (.unknownRequest 0x80) State.reset = some ⟨0xFF, .unknownRequest, []⟩ := by decide +kernel

theorem test_bad_frame : replyTo .badFrame State.reset = some ⟨0xFF, .badFrame, []⟩ := by decide +kernel

theorem test_frame_length_discard :
    (run (.frameLengthDiscard 251) (State.reset.setAssembly .awaitLength)).link.assembly = .searching := by decide +kernel

theorem test_frame_gap_timeout :
    (run .frameGapTimeout (State.reset.setAssembly (.collecting 5 [1]))).link.assembly = .searching := by decide +kernel

/-- A link with 16 replies waiting and one leaving. -/
def fullLink : Link :=
  { assembly := .collecting 1 [], replies := List.replicate 16 (some ⟨0x9A, .ok, []⟩), leaving := some ⟨0x9A, .ok, []⟩ }

/-- R171: the frame is not taken and has no reply. -/
theorem test_frame_discarded : (run .frameDiscarded { State.reset with link := fullLink }).link =
    { fullLink with assembly := .searching } := by decide +kernel

theorem test_reply_departure :
    (run .replyDeparture { State.reset with link := ⟨.searching, [some ⟨0x9A, .ok, []⟩], some ⟨0xFF, .badFrame, []⟩⟩ }).link =
      ⟨.searching, [], some ⟨0x9A, .ok, []⟩⟩ := by decide +kernel

/-- R178: the lines fall silent; nothing is taken until the release. -/
theorem test_reset_assert : (run .resetAssert (withLeg leg0)).resetAsserted = true ∧
    (run (.holdBegin []) (run .resetAssert State.reset)).hold = .closed := by decide +kernel

theorem test_reset_release : run .resetRelease (run .resetAssert (withLeg leg0)) = State.reset := rfl

/-- R169: the start byte. -/
theorem test_link_byte_received : (run (.linkByteReceived 0xA7) State.reset).link.assembly = .awaitLength ∧
    (run (.linkByteReceived 0xA8) State.reset).link.assembly = .searching := by decide +kernel

/-! ### Witnesses: for each statement with hypotheses, states and operands that meet them, clause by clause -/

/-- What the witnesses check place by place is the hypothesis of the statements, which speaks of every occupied place. -/
theorem every_leg {s : State} {P : LegNo → Leg → Prop} (h : ∀ n : LegNo, ∀ l ∈ s.legs[n], P n l) :
    ∀ (n : LegNo) (l : Leg), s.legs[n] = some l → P n l := fun n l e => h n l e

/-- The same of what is checked handle by handle. -/
theorem every_record {s : State} {P : Handle → ExtRecord → Prop} (h : ∀ k : Handle, ∀ r ∈ s.record k, P k r) :
    ∀ (k : Handle) (r : ExtRecord), s.record k = some r → P k r := fun k r e => h k r e

theorem witness_StepTakesTheFrontCommand :
    ({ State.reset with pending := [.badFrame, .lineBlockStart] } : State).pending = .badFrame :: [.lineBlockStart] ∧
      State.reset.pending = [] := ⟨rfl, rfl⟩

theorem witness_ResetLineStopsThePart : (run .resetAssert (withLeg leg0)).resetAsserted = true ∧
    Instr.lineBlockStart ≠ .resetAssert ∧ Instr.lineBlockStart ≠ .resetRelease := ⟨rfl, by decide, by decide⟩

theorem witness_ExpansionOfEveryCode : 0 < 8 ∧ 7 < 8 ∧ 0 < 16 ∧ 15 < 16 := by decide

theorem witness_CompressionTruncatesAndRestores : (3952 : Int).natAbs ≤ 3952 ∧ (-3952 : Int).natAbs ≤ 3952 ∧
    (0 : Int).natAbs ≤ 3952 ∧ 7 ≤ 7 ∧ 16 * 2 ^ 7 ≤ (3952 : Int).natAbs + 16 ∧
    (3952 : Int) < 3953 ∧ (-3953 : Int) < -3952 := by decide

theorem witness_ScalingRoundsHalfAwayFromZero : (1 : Int) ≠ 0 ∧ (-1 : Int) ≠ 0 ∧ (0 : Int) ≤ 0 ∧
    (-6 : Int) ≤ -6 ∧ (-6 : Int) ≤ 6 ∧ (6 : Int) ≤ 6 := by decide

theorem witness_MinusOneMixOmitsTheMember : ([] : List (Member × Int)) = [] := rfl

theorem witness_PermutationNumbersAndArrangements : 0 < 40320 ∧ 40319 < 40320 ∧
    (#v[7, 6, 5, 4, 3, 2, 1, 0] : Block).toList.Perm [0, 1, 2, 3, 4, 5, 6, 7] ∧
    arrange 40319 #v[0, 1, 2, 3, 4, 5, 6, 7] = arrange 40319 #v[0, 1, 2, 3, 4, 5, 6, 7] ∧
    (2 : Position) ≠ 0 ∧ (2 : Position) ≠ 1 := by decide

theorem witness_CatchUpFindsTheNextBlock : 0 < 64 ∧ 0 + 1 < 64 ∧ 62 + 1 < 64 ∧ 63 < 64 ∧ 63 + 1 = 64 ∧ 4095 + 1 = 4096 := by
  decide

theorem witness_TrunkCellsReadBack :
    let sum (bytes : List Byte) : Byte := bytes.foldl (· + ·) 0
    (1 : Byte) ≠ 0 ∧ (0xFF : Byte) ≠ 0 ∧ [(0xC0 : Byte)].length ≠ 8 ∧ sum [0xC0, 0, 0, 0, 0, 0, 0, 0xE4] ≠ 0xA5 ∧
    sum [0xC0, 0, 0, 0, 0, 0, 0, 0xE5] = 0xA5 ∧ sum [0xC0, 1, 0, 0, 0, 0, 0, 0xE4] = 0xA5 ∧
    sum [0xC1, 0, 0, 0, 0, 0, 0, 0xE4] = 0xA5 ∧ sum [0xBF, 1, 0, 0, 0, 0, 0, 0xE5] = 0xA5 ∧
    sum [0xC4, 1, 0, 0, 0, 0, 0, 0xE0] = 0xA5 ∧ sum [0xC1, 0xFF, 0xFF, 0xFF, 0xFF, 0xFF, 0xFF, 0xEA] = 0xA5 ∧
    sum [0xC2, 0xFF, 0, 0, 0, 0, 0, 0xE4] = 0xA5 ∧ sum [0xC3, 1, 0, 0, 0, 0, 0, 0xE1] = 0xA5 := by
  decide +kernel

/-- LEG_OPEN's arguments at the ends of their ranges. -/
def openArgs : LegOpenArgs :=
  { leg := 31, owner := [9, 9, 9, 9, 9, 9], slot := 63, farTag := some 0xFF, setting := setting2, epoch := 0xFFFF,
    gain := -6, connect := true }

theorem witness_RequestBodiesReadBack : openArgs.valid = true ∧ { openArgs with farTag := none, gain := 6 }.valid = true ∧
    setting2.gen ≠ 0 ∧ validNumber [0, 0] = true ∧ validNumber [9, 9, 9, 9, 9, 9] = true ∧
    validRef (.number [1, 2]) = true ∧ validRef (.nextAt 255) = true ∧ (∀ h : Handle, ExtRef.number [1, 2] ≠ .nextAt h) ∧
    (∀ h : Handle, ExtRef.handle 255 ≠ .nextAt h) ∧ ([] : List (Slot × Bool)).length ≤ 63 ∧
    (List.replicate 63 ((63 : Slot), true)).length ≤ 63 ∧ (∀ c ∈ List.replicate 63 ((63 : Slot), true), c.1 ≠ 0) ∧
    1 ≤ 1 ∧ 8 ≤ 8 ∧ (0x3FFFFF : BitVec 32).toNat < 2 ^ 22 ∧
    (∀ r ∈ some (ExtRef.handle 255), validRef r = true ∧ ∀ h : Handle, r ≠ .nextAt h) ∧
    (∀ r ∈ (none : Option ExtRef), validRef r = true ∧ ∀ h : Handle, r ≠ .nextAt h) := by
  decide +kernel

theorem witness_LinkBytesAreTheRequest :
    requestOf (.legOpen openBody) = some (0x01, openBody) ∧ bodyFits openBody = true ∧
    requestOf (.holdBegin []) = some (0x16, []) ∧ bodyFits [] = true ∧ bodyFits (List.replicate 249 0) = true ∧
    knownRequest 0x00 = false ∧ knownRequest 0x1E = false ∧ (0x00 : Byte) ++ (0x00 : Byte) ≠ crc16 [1, 0x16] ∧
    State.reset.resetAsserted = false ∧ State.reset.link.assembly = .searching := by
  decide +kernel

theorem witness_WrongBodyLengthIsBadArgument : requestOf (.legOpen []) = some (0x01, []) ∧ State.reset.ready ∧
    ([] : List Byte).length ≠ requestLength 0x01 [] ∧ requestOf (.slotMap [0, 1, 5]) = some (0x10, [0, 1, 5]) ∧
    [0, 1, 5].length ≠ requestLength 0x10 [0, 1, 5] := by decide +kernel

/-- Arguments just out of range: leg 32, conference 8, a number of one digit, a reference of form 2 to EXT_REVOKE, slot 64
in SLOT_MAP, parameter 9, nine notices, bit 22 of the mask; and one in range beside each of three. -/
theorem witness_WrongBodyLengthIsBadArgument_ranges :
    (requestOf (.legConnect [32]) = some (0x03, [32]) ∧ State.reset.ready) ∧
    (¬ArgumentsFit 0x03 [32] ∧ ArgumentsFit 0x03 [31]) ∧ (¬ArgumentsFit 0x14 [8] ∧ ArgumentsFit 0x14 [7]) ∧
    ¬ArgumentsFit 0x0A [0, 1, 0x12, 0, 0] ∧ ¬ArgumentsFit 0x0F [2, 0, 0, 0, 0] ∧ ¬ArgumentsFit 0x10 [0, 1, 64, 1] ∧
    ¬ArgumentsFit 0x19 [9, 0, 0] ∧ (¬ArgumentsFit 0x1B [9] ∧ ArgumentsFit 0x1B [8]) ∧
    ¬ArgumentsFit 0x1C [0, 0, 0x40, 0, 0] := by
  refine ⟨by decide +kernel, ?_⟩
  simp [ArgumentsFit, RefFits, NumberFits, byteAt]

theorem witness_LinkEventsDriveTheAssembly : State.reset.resetAsserted = false ∧ State.reset.link.assembly = .searching ∧
    (0xA8 : Byte) ≠ 0xA7 ∧ (State.reset.setAssembly .awaitLength).link.assembly = .awaitLength ∧
    1 ≤ (1 : Byte).toNat ∧ (250 : Byte).toNat ≤ 250 ∧ (0 : Byte).toNat = 0 ∧ 250 < (251 : Byte).toNat ∧
    (State.reset.setAssembly (.collecting 1 [0x16])).link.assembly = .collecting 1 [0x16] ∧ [0x16].length + 1 < (1 : Byte).toNat + 2 ∧
    State.reset.link.waiting < Config.replyRoom ∧ knownRequest 0x1E = false ∧ (127 : Byte).toNat < 128 ∧
    128 ≤ (128 : Byte).toNat := by decide +kernel

/-- A part whose commit reply is outstanding ahead of another reply, a reply leaving before both. -/
def heldBack : State :=
  { State.reset with
    hold := .opened [.park 3] .pending
    link := { assembly := .searching, replies := [none, some ⟨0x9A, .ok, []⟩], leaving := some ⟨0x81, .ok, []⟩ } }

/-- A part with 16 replies waiting. -/
def fullPart : State := { State.reset with link := fullLink }

theorem witness_RepliesLeaveInOrderAndFramesAreDiscarded :
    fullPart.resetAsserted = false ∧ fullPart.link.replies = some ⟨0x9A, .ok, []⟩ :: List.replicate 15 (some ⟨0x9A, .ok, []⟩) ∧
    State.reset.link.replies = [] ∧ heldBack.link.replies = none :: [some ⟨0x9A, .ok, []⟩] ∧
    heldBack.link.leaving.isSome = true ∧ Config.replyRoom ≤ fullPart.link.waiting ∧
    (requestOf (.paramRead [])).isSome = true := by decide +kernel

/-- A part with n notices queued. -/
def noticed (n : Nat) : State :=
  { State.reset with notices := { State.reset.notices with queue := List.replicate n ⟨.slip, 0, 1, 0⟩, attention := true } }

theorem witness_NoticesJoinTheQueue :
    ({ State.reset.notices with mask := 0 } : NoticeUnit).enabled .slip = false ∧
    (noticed 63).notices.enabled .slip = true ∧ (noticed 63).notices.queue.length < 64 ∧
    (noticed 64).notices.enabled .slip = true ∧ (noticed 64).notices.queue.length = 64 := by decide +kernel

theorem witness_NoticeFetchAndMask : (noticed 64).ready ∧ 1 ≤ 1 ∧ 8 ≤ 8 ∧ (0 : Byte) = 0 ∧ 8 < (9 : Byte).toNat ∧
    (0x3FFFFF : BitVec 32).toNat < 2 ^ 22 ∧ 2 ^ 22 ≤ (0x400000 : BitVec 32).toNat ∧
    2 ^ 22 ≤ (0xFFFFFFFF : BitVec 32).toNat := by decide +kernel

theorem witness_ParamSetTakesTheValueInRange : State.reset.ready ∧ (withLeg leg0).ready ∧
    (∀ n : LegNo, State.reset.legs[n] = none) ∧ 64 = clampNat 64 4096 (63 : Half).toNat ∧
    4096 = clampNat 64 4096 (0xFFFF : Half).toNat ∧ clampNat 64 4096 (256 : Half).toNat = (withLeg leg0).params.epochLength ∧
    (withLeg leg0).legs[(3 : LegNo)] ≠ none ∧ clampNat 64 4096 (255 : Half).toNat ≠ (withLeg leg0).params.epochLength ∧
    (0 : Half).toNat = TrunkTiming.locked.value.toNat ∧ State.reset.params.timing = .locked ∧
    (1 : Half).toNat = TrunkTiming.independent.value.toNat ∧ State.reset.params.timing ≠ .independent ∧
    2 ≤ (2 : Half).toNat ∧ (0 : Byte) = 0 ∧ 8 < (9 : Byte).toNat := by decide +kernel

theorem witness_ParamReadReportsAllEight : State.reset.ready := by decide +kernel

theorem witness_RestartClearsAndKeeps : State.reset.ready ∧ State.reset.hold.mark = .absent ∧
    heldBack.ready ∧ heldBack.hold.mark ≠ .absent ∧ heldBack.link.leaving.isSome = true ∧
    heldBack.link.replies = [] ++ none :: [some ⟨0x9A, .ok, []⟩] ∧ (∀ r ∈ ([] : List (Option Reply)), r.isSome = true) ∧
    (run .replyDeparture heldBack).ready ∧ (run .replyDeparture heldBack).hold.mark ≠ .absent ∧
    (run .replyDeparture heldBack).link.leaving = none ∧
    (run .replyDeparture heldBack).link.replies = none :: [some ⟨0x9A, .ok, []⟩] := by
  decide +kernel

/-! #### Call legs -/

/-- What `openBody` spells. -/
def openedArgs : LegOpenArgs :=
  { leg := 3, owner := [1, 2], slot := 9, farTag := none, setting := ⟨1, .pass, ⟨1, 2⟩, ⟨3, 4⟩⟩, epoch := 2, gain := 0,
    connect := true }

/-- The check clauses of LEG_OPEN. -/
theorem witness_LegOpenChecksThenOpens :
    let shared := (withExt ext0).setLeg 0 (some leg0)
    State.reset.ready ∧ openBody.length = 26 ∧ byteAt (openBody.set 8 0) 8 = 0 ∧ (openBody.set 8 0).length = 26 ∧
    32 ≤ (byteAt (openBody.set 0 32) 0).toNat ∧ numberAt (openBody.set 1 7) 1 = none ∧ byteAt (openBody.set 5 0) 5 = 0 ∧
    63 < (byteAt (openBody.set 5 64) 5).toNat ∧ 1 < (byteAt (openBody.set 6 2) 6).toNat ∧
    (byteAt (openBody.set 6 1) 6 = 1 ∧ byteAt (openBody.set 6 1) 7 = 0) ∧ 2 < (byteAt (openBody.set 9 3) 9).toNat ∧
    1 < (byteAt (openBody.set 25 2) 25).toNat ∧ parseLegOpen openBody = some openedArgs ∧
    (withLeg leg0).legs[(3 : LegNo)] ≠ none ∧ shared.legs[(3 : LegNo)] = none ∧
    (∃ m : LegNo, ∃ k ∈ shared.legs[m], k.slot = 9 ∨ k.receiveTag = 9) ∧
    State.reset.legs[(3 : LegNo)] = none ∧ State.reset.findNumber [1, 2] = none := by
  decide +kernel

theorem witness_LegOpenChecksThenOpens_owner :
    let idle := withExt { ext0 with state := .idle }
    let unscrambled := withExt { ext0 with cls := ⟨false, true, true⟩ }
    (idle.findNumber [1, 2] = some 0 ∧ idle.admittedWith 0 (fun _ => true) = false) ∧
    (unscrambled.findNumber [1, 2] = some 0 ∧ unscrambled.admittedWith 0 (fun _ => true) = true ∧
      unscrambled.admittedWith 0 (·.mayScramble) = false) ∧
    ∀ m : LegNo, ∀ k ∈ (withExt ext0).legs[m], ¬(k.slot = 9 ∨ k.receiveTag = 9) := by
  decide +kernel

/-- An open LINE leg of extension 0 at number 4, its owner's slot given to it. -/
def withLineLeg : State :=
  let s := (withExt ext0).setLeg 4 (some { leg0 with slot := 10, endpoint := .line })
  { s with line := s.line.setSource (some 5) (.leg 4) }

/-- The clauses of an opening that succeeds. -/
theorem witness_LegOpenChecksThenOpens_opens :
    ((withExt ext0).ready ∧ (withExt ext0).legs[(3 : LegNo)] = none ∧ (withExt ext0).findNumber [1, 2] = some 0 ∧
      (withExt ext0).admittedWith 0 (·.mayScramble) = true ∧ (withExt ext0).localConf 0 = none ∧
      (withExt ext0).boundSlot 0 = some 5 ∧ (withExt ext0).lineLegOf 0 = none ∧
      ∀ m : LegNo, ∀ k ∈ (withExt ext0).legs[m], k.slot ≠ 9 ∧ k.receiveTag ≠ 9) ∧
    ((withConf { conf0 with members := [.loc 0] }).localConf 0).isSome = true ∧
    (withLineLeg.ready ∧ withLineLeg.legs[(3 : LegNo)] = none ∧ withLineLeg.findNumber [1, 2] = some 0 ∧
      (∀ m : LegNo, ∀ k ∈ withLineLeg.legs[m], k.slot ≠ 9 ∧ k.receiveTag ≠ 9) ∧
      withLineLeg.localConf 0 = none ∧ withLineLeg.boundSlot 0 = some 5 ∧ withLineLeg.lineLegOf 0 = some 4 ∧
      withLineLeg.legs[(4 : LegNo)] = some { leg0 with slot := 10, endpoint := .line }) := by
  decide +kernel

/-- A LINE leg 3 of extension 0 with its owner's slot. -/
def lineLeg : State :=
  let s := withLeg { leg0 with endpoint := .line }
  { s with line := s.line.setSource (some 5) (.leg 3) }

/-- A leg 3 of extension 0 in conference 2. -/
def confLeg : State := (withLeg { leg0 with endpoint := .conference 2 }).setConf 2 (some { conf0 with members := [.leg 3] })

theorem witness_LegCloseClearsTheLeg : parseLeg [3] = some 3 ∧ parseLeg [31] = some 31 ∧ State.reset.ready ∧
    State.reset.legs[(3 : LegNo)] = none ∧ (withLeg { leg0 with state := .clearing .fault }).ready ∧
    (withLeg leg0).ready ∧ (withLeg leg0).legs[(3 : LegNo)] = some leg0 ∧ leg0.state.isOpen = true ∧ leg0.endpoint = .parked ∧
    lineLeg.ready ∧ lineLeg.legs[(3 : LegNo)] = some { leg0 with endpoint := .line } ∧ lineLeg.boundSlot 0 = some 5 ∧
    lineLeg.line.outMap[(5 : Slot)] = .leg 3 ∧ confLeg.ready ∧
    confLeg.legs[(3 : LegNo)] = some { leg0 with endpoint := .conference 2 } ∧
    confLeg.confs[(2 : ConfNo)] = some { conf0 with members := [.leg 3] } := by decide +kernel

theorem witness_LegConnectTakesTheOwnersSlot : State.reset.ready ∧ State.reset.hold = .closed ∧ parseLeg [3] = some 3 ∧
    State.reset.legs[(3 : LegNo)] = none ∧ ({ leg0 with state := .clearing .host } : Leg).state.isOpen = false ∧
    confLeg.ready ∧ confLeg.hold = .closed ∧ confLeg.legs[(3 : LegNo)] = some { leg0 with endpoint := .conference 2 } ∧
    ((withLeg leg0).setConf 2 (some { conf0 with members := [.loc 0] })).ready ∧
    (((withLeg leg0).setConf 2 (some { conf0 with members := [.loc 0] })).localConf 0).isSome = true ∧
    lineLeg.ready ∧ lineLeg.hold = .closed ∧ lineLeg.localConf 0 = none ∧
    (withLeg leg0).ready ∧ (withLeg leg0).hold = .closed ∧ (withLeg leg0).localConf 0 = none ∧
    (withLeg leg0).boundSlot 0 = some 5 ∧ (withLeg leg0).lineLegOf 0 = none ∧
    (withLineLeg.setLeg 3 (some leg0)).ready ∧ (withLineLeg.setLeg 3 (some leg0)).legs[(3 : LegNo)] = some leg0 ∧
    (withLineLeg.setLeg 3 (some leg0)).localConf 0 = none ∧ (withLineLeg.setLeg 3 (some leg0)).boundSlot 0 = some 5 ∧
    (withLineLeg.setLeg 3 (some leg0)).lineLegOf 0 = some 4 ∧
    (withLineLeg.setLeg 3 (some leg0)).legs[(4 : LegNo)] = some { leg0 with slot := 10, endpoint := .line } ∧
    (∀ c, leg0.endpoint ≠ .conference c) ∧ leg0.state.isOpen = true := by decide +kernel

theorem witness_LegParkAndLevelChangeTheLeg : State.reset.ready ∧ State.reset.hold = .closed ∧ parseLeg [3] = some 3 ∧
    parseLegLevel [3, 0x80] = some (3, -6) ∧ parseLegLevel [3, 7] = some (3, 6) ∧ State.reset.legs[(3 : LegNo)] = none ∧
    (withLeg leg0).ready ∧ (withLeg leg0).hold = .closed ∧ (withLeg leg0).legs[(3 : LegNo)] = some leg0 ∧
    leg0.state.isOpen = true ∧ leg0.endpoint = .parked ∧ ({ leg0 with state := .clearing .host } : Leg).state.isOpen = false ∧
    lineLeg.ready ∧ lineLeg.hold = .closed ∧ lineLeg.legs[(3 : LegNo)] = some { leg0 with endpoint := .line } ∧
    lineLeg.boundSlot 0 = some 5 ∧ lineLeg.line.outMap[(5 : Slot)] = .leg 3 := by decide +kernel

/-- A Trunk Cell Queue with no room. -/
def fullQueue : List CellRequest := List.replicate 16 ⟨.sync, 30⟩

theorem witness_LegRekeySetsThePendingKey : parseLegRekey (rekeyBody 3 setting2) = some (3, setting2) ∧
    State.reset.ready ∧ State.reset.legs[(3 : LegNo)] = none ∧ (withLeg leg0).ready ∧
    (withLeg leg0).legs[(3 : LegNo)] = some leg0 ∧ leg0.state.isOpen = true ∧
    ({ setting2 with gen := 1 } : KeySetting).gen = leg0.txKey.gen ∧ setting2.gen ≠ leg0.txKey.gen ∧
    ({ leg0 with pendingKey := some setting2 } : Leg).pendingKey.isSome = true ∧ leg0.state ≠ .holding (.key setting2.gen) ∧
    leg0.pendingKey = none ∧
    ({ leg0 with state := .holding (.key 2), pendingKey := some setting2 } : Leg).state = .holding (.key setting2.gen) ∧
    ⟨.roll, 3⟩ ∈ [CellRequest.mk .roll 3] ∧ ⟨.roll, 3⟩ ∉ (withLeg leg0).cellQueue ∧
    (withLeg leg0).cellQueue.length < 16 ∧ leg0.wantsRoll = false ∧ ⟨.roll, 3⟩ ∉ fullQueue ∧ 16 ≤ fullQueue.length ∧
    ({ leg0 with wantsRoll := true } : Leg).wantsRoll = true := by decide +kernel

theorem witness_ReadsReportAndClear : parseLegRead [3, 1] = some (3, true) ∧ State.reset.ready ∧
    State.reset.legs[(3 : LegNo)] = none ∧ (withLeg leg0).ready ∧ (withLeg leg0).legs[(3 : LegNo)] = some leg0 ∧
    parseRef true [2, 0, 0, 0, 0] = some (.nextAt 0) ∧ (withExt ext0).lookup (.nextAt 0) = some 0 ∧
    (withExt ext0).record 0 = some ext0 ∧ parseRef true [0, 2, 0x12, 0xFF, 0xFF] = some (.number [1, 2]) ∧
    State.reset.lookup (.number [1, 2]) = none ∧ State.reset.lookup (.nextAt 255) = none ∧
    ((0 : Handle) ≤ 0 ∧ ∀ j : Handle, 0 ≤ j → j < 0 → (withExt ext0).record j = none) ∧
    parseConfRead [7, 0] = some (7, false) ∧ State.reset.confs[(7 : ConfNo)] = none ∧ (withConf conf0).ready ∧
    parseConfRead [2, 1] = some (2, true) ∧ (withConf conf0).confs[(2 : ConfNo)] = some conf0 := by
  decide +kernel

theorem witness_NoReplyDependsOnASecret : (requestOf (.legRead [3, 0])).isSome = true ∧
    exec (.legRead [3, 0]) (withLeg leg0) = .next (run (.legRead [3, 0]) (withLeg leg0)) := ⟨rfl, rfl⟩

/-! #### The trunk -/

/-- What a leg sent in the trunk transmit block in progress. -/
def sent0 : Emission := { epoch := 2, index := 5, gen := 1, codes := silentBlock }

theorem witness_LegBlockScrambled : (withLeg leg0).resetAsserted = false ∧ (withLeg leg0).legs[(3 : LegNo)] = some leg0 ∧
    leg0.gathered = none ∧ ({ leg0 with gathered := some silentBlock } : Leg).gathered = some silentBlock ∧
    leg0.state.isOpen = true ∧ ({ leg0 with tx := ⟨2, 255, 0⟩ } : Leg).tx.index ≠ 0 ∧ leg0.tx.index = 0 ∧
    leg0.switchEpoch ≠ some leg0.tx.epoch ∧ ⟨.sync, 3⟩ ∈ [CellRequest.mk .sync 3] ∧
    ⟨.sync, 3⟩ ∉ (withLeg leg0).cellQueue ∧ (withLeg leg0).cellQueue.length < 16 ∧ ⟨.sync, 3⟩ ∉ fullQueue ∧
    16 ≤ fullQueue.length ∧ ({ leg0 with switchEpoch := some 2 } : Leg).pendingKey = none ∧
    ({ leg0 with switchEpoch := some 2, pendingKey := some setting2 } : Leg).switchEpoch = some leg0.tx.epoch ∧
    ({ leg0 with switchEpoch := some 2, pendingKey := some setting2 } : Leg).pendingKey = some setting2 := by
  decide +kernel

/-- A part at a trunk transmit block start with one leg and its request. -/
def departing (l : Leg) (kind : RequestKind) : State :=
  { withLeg l with cellQueue := [⟨kind, 3⟩], trunk := { State.reset.trunk with cellDue := true } }

theorem witness_TrunkCellDeparts :
    let keyed : Leg := { leg0 with pendingKey := some setting2 }
    let full : Leg := { keyed with gathered := some silentBlock }
    ((departing leg0 .sync).resetAsserted = false ∧ (departing leg0 .sync).trunk.cellDue = true ∧
      ∀ n : LegNo, ∀ l ∈ (departing leg0 .sync).legs[n], l.wantsRoll = false ∧ l.wantsClear = false) ∧
    ({ departing leg0 .sync with cellQueue := [] } : State).cellQueue = [] ∧
    ((departing { leg0 with emission := some sent0 } .sync).cellQueue = ⟨.sync, 3⟩ :: [] ∧
      (departing { leg0 with emission := some sent0 } .sync).legs[(3 : LegNo)] = some { leg0 with emission := some sent0 } ∧
      leg0.gathered = none) ∧
    ((departing full .sync).legs[(3 : LegNo)] = some full ∧ full.gathered = some silentBlock) ∧
    ((departing keyed .roll).cellQueue = ⟨.roll, 3⟩ :: [] ∧ keyed.pendingKey = some setting2 ∧ keyed.emission = none) ∧
    ((departing full .roll).cellQueue = ⟨.roll, 3⟩ :: [] ∧ (departing full .roll).legs[(3 : LegNo)] = some full ∧
      ∀ n : LegNo, ∀ l ∈ (departing full .roll).legs[n], l.wantsRoll = false ∧ l.wantsClear = false) ∧
    ((departing { leg0 with state := .clearing .host } .clear).cellQueue = ⟨.clear, 3⟩ :: [] ∧
      ({ leg0 with state := .clearing .fault } : Leg).state = .clearing .fault) := by
  decide +kernel

theorem witness_WaitingLegsAreServed :
    let s : State := { (departing { leg0 with wantsRoll := true, pendingKey := some setting2 } .sync).setLeg 31
      (some { leg0 with slot := 10, state := .clearing .host, wantsClear := true }) with cellQueue := fullQueue }
    s.resetAsserted = false ∧ s.trunk.cellDue = true ∧ s.cellQueue.length ≤ 16 ∧
      ∀ n : LegNo, ∀ l ∈ s.legs[n], ¬(l.wantsRoll = true ∧ l.wantsClear = true) := by
  decide +kernel

/-- R79: of legs 3 and 31, which both wait for the one free place, leg 3 is served. -/
theorem test_lowest_waiting_leg_served :
    let t := run .trunkCellDeparture { (departing { leg0 with wantsRoll := true, pendingKey := some setting2 } .sync).setLeg 31
      (some { leg0 with slot := 10, state := .clearing .host, wantsClear := true }) with cellQueue := fullQueue }
    t.cellQueue[15]? = some ⟨.roll, 3⟩ ∧ t.cellQueue.length = 16 ∧ (t.legs[3]).map (·.wantsRoll) = some false ∧
      (t.legs[31]).map (·.wantsClear) = some true := by decide +kernel

theorem witness_SlipsAreRecordedAndMoveThePhaseOnce :
    let before : TrunkPort := { State.reset.trunk with lastDirection := some .minus, changes := 1 }
    (-32767 : Int) ≤ 32767 ∧ (-32767 : Int) ≤ -32767 ∧ (2 : Nat) ≤ 2 ∧ State.reset.trunk.netSlips = 0 ∧
    State.reset.trunk.changes = 0 ∧
    before.lastDirection = some (match SlipDirection.plus with | .plus => .minus | .minus => .plus) ∧
    before.changeFlag = false ∧ (State.handleSlip { State.reset with trunk := before } .plus).trunk.changes = 2 ∧
    (∀ p : Position, State.reset.framer.mode ≠ .presync p) ∧ Framer.reset.mode = .hunt ∧
    ({ Framer.reset with mode := .presync 7 } : Framer).mode = .presync 7 ∧
    ({ Framer.reset with mode := .sync 0, slipMark := 1 } : Framer).slipMark ≠ 0 ∧
    ({ Framer.reset with mode := .sync 0 } : Framer).slipMark = 0 ∧
    ({ withLeg leg0 with framer := { Framer.reset with mode := .presync 0 } } : State).framer.mode = .presync 0 := by
  decide +kernel

theorem witness_TrunkFramesJoinTheStore : State.reset.resetAsserted = false ∧ State.reset.params.timing = .locked ∧
    (State.reset.setTiming .independent).params.timing = .independent ∧
    (State.reset.setTiming .independent).framer.blockEnded = false ∧
    [silenceFrame].length < 2 ∧ [silenceFrame, silenceFrame] = [silenceFrame, silenceFrame] := by decide +kernel

/-- The clause of a completion already due. -/
theorem witness_TrunkFramesJoinTheStore_due :
    let s := withBlock idleTrunkCell (State.reset.setTiming .independent)
    s.resetAsserted = false ∧ s.params.timing = .independent ∧ s.framer.blockEnded = true ∧
    exec .trunkReceiveBlockCompletion s = .next (run .trunkReceiveBlockCompletion s) := ⟨rfl, rfl, rfl, rfl⟩

/-- The bytes of a SYNC for trunk slot 9 at (2, 5), generation 1. -/
def syncCell : Cell := (TrunkCell.sync 9 2 5 1).build

theorem witness_CompletionTakesEachLegsBlock :
    let l : Leg := { leg0 with rxAssembly := silentBlock.toList }
    let s := withBlock idleTrunkCell (withLeg l)
    let bad := withBlock (Vector.replicate 8 0) (withLeg { leg0 with state := .holding (.key 2) })
    (s.resetAsserted = false ∧ s.framer.mode = .sync 0 ∧ s.framer.blockEnded = true ∧ s.framer.slipMark = 0 ∧
      parseTrunkCell s.framer.window = some .idle ∧ s.legs[(3 : LegNo)] = some l ∧ l.state = .running ∧
      l.rxAssembly = silentBlock.toList ∧
      ∀ n : LegNo, ∀ l ∈ s.legs[n],
        (∀ r ∈ l.announced, l.state.counts = true → l.rx.index = 0 → r.epoch ≠ l.rx.epoch) ∧
        (∀ g : Byte, l.state = .holding (.key g) → ∀ k ∈ l.pendingKey, k.gen ≠ g)) ∧
    (bad.framer.mode = .sync 0 ∧ bad.framer.slipMark = 0 ∧ parseTrunkCell bad.framer.window = none ∧ bad.framer.badRun < 3 ∧
      ∀ n : LegNo, ∀ l ∈ bad.legs[n], l.announced = none ∧ l.pendingKey = none) ∧
    (State.reset.legs[(3 : LegNo)] = none ∧ ({ leg0 with state := .waiting } : Leg).state = .waiting ∧
      ({ leg0 with state := .clearing .host } : Leg).state = .clearing .host ∧ (-6 : Int) ≠ 0 ∧ (6 : Int) ≠ 0) := by
  intro l s bad
  refine ⟨?_, by decide +kernel, by decide +kernel⟩
  have quiet : ∀ n : LegNo, ∀ k ∈ s.legs[n], k.announced = none ∧ k.pendingKey = none := by decide +kernel
  have shape : s.resetAsserted = false ∧ s.framer.mode = .sync 0 ∧ s.framer.blockEnded = true ∧ s.framer.slipMark = 0 ∧
      parseTrunkCell s.framer.window = some .idle ∧ s.legs[(3 : LegNo)] = some l ∧ l.state = .running ∧
      l.rxAssembly = silentBlock.toList := by decide +kernel
  simp only [shape, true_and, Option.mem_def]
  intro n k e
  simp [quiet n k e]

theorem witness_CellsActOnTheirLeg :
    let s := withBlock syncCell (withLeg leg0)
    let locking : State := { s with framer := { s.framer with mode := .presync 7 } }
    (s.resetAsserted = false ∧ s.framer.mode = .sync 0 ∧ s.framer.blockEnded = true ∧ s.framer.slipMark = 0 ∧
      parseTrunkCell s.framer.window = some (.sync 9 2 5 1)) ∧
    (locking.framer.mode = .presync 7 ∧ locking.framer.blockEnded = true ∧
      parseTrunkCell locking.framer.window = some (.sync 9 2 5 1)) ∧
    (∀ n : LegNo, ∀ l ∈ s.legs[n], l.state.isOpen = true → l.receiveTag ≠ 10) ∧
    (s.legs[(3 : LegNo)] = some leg0 ∧ leg0.state.isOpen = true ∧ leg0.receiveTag = 9 ∧
      ∀ m : LegNo, ∀ k ∈ s.legs[m], k.state.isOpen = true → k.receiveTag = 9 → m = 3) ∧
    s.params.epochLength ≤ (256 : BitVec 12).toNat ∧ (255 : BitVec 12).toNat < s.params.epochLength := by
  decide +kernel

/-- The clauses about the leg itself. -/
theorem witness_CellsActOnTheirLeg_leg :
    (1 : Byte) = leg0.rxKey.gen ∧ (1 : Byte) ≠ 0 ∧ (2 : Byte) ≠ leg0.rxKey.gen ∧ leg0.state = .running ∧
    (leg0.rx.epoch = 2 ∧ leg0.rx.index = (0 : BitVec 12).toNat) ∧
    ¬(leg0.rx.epoch = 2 ∧ leg0.rx.index = (5 : BitVec 12).toNat) ∧ ({ leg0 with state := .waiting } : Leg).state ≠ .running ∧
    ({ leg0 with pendingKey := some setting2 } : Leg).pendingKey = some setting2 ∧ setting2.gen = 2 ∧
    (∀ p ∈ leg0.pendingKey, p.gen ≠ 2) ∧ ({ leg0 with state := .holding (.key 2) } : Leg).state = .holding (.key 2) ∧
    leg0.state ≠ .holding (.key 2) ∧ ({ leg0 with state := .holding .farCleared } : Leg).state = .holding .farCleared ∧
    leg0.state ≠ .holding .farCleared := by
  decide +kernel

theorem witness_AnnouncedRollsAndAwaitedKeys :
    let rolling : Leg := { leg0 with announced := some ⟨2, 2⟩, pendingKey := some setting2 }
    let awaiting : Leg := { leg0 with state := .holding (.key 2) }
    (withLeg leg0).legs[(3 : LegNo)] = some leg0 ∧ leg0.state = .running ∧ leg0.announced = none ∧
    (awaiting.state = .holding (.key 2) ∧ awaiting.announced = none ∧ awaiting.pendingKey = none) ∧
    (let told : Leg := { awaiting with announced := some ⟨2, 2⟩ }
     told.state = .holding (.key 2) ∧ told.rx.index = 0 ∧ told.announced = some ⟨2, told.rx.epoch⟩ ∧
       (∀ p ∈ told.pendingKey, p.gen ≠ 2) ∧ (2 : Byte) ≠ told.rxKey.gen) ∧
    ({ awaiting with announced := some ⟨1, 2⟩ } : Leg).announced = some ⟨awaiting.rxKey.gen, awaiting.rx.epoch⟩ ∧
    (∀ p ∈ some setting2, p.gen ≠ awaiting.rxKey.gen) ∧ leg0.rx.index = 0 ∧
    rolling.announced = some ⟨setting2.gen, rolling.rx.epoch⟩ ∧ rolling.pendingKey = some setting2 ∧ setting2.gen = 2 ∧
    (∀ p ∈ leg0.pendingKey, p.gen ≠ 1) ∧ (1 : Byte) = leg0.rxKey.gen ∧ (2 : Byte) ≠ leg0.rxKey.gen ∧
    leg0.state ≠ .holding (.key 2) ∧ awaiting.state ≠ .running ∧ ({ leg0 with rx := ⟨2, 255, 0⟩ } : Leg).rx.index ≠ 0 := by
  decide +kernel

theorem witness_BadCellsHuntAndStraddledBlocksMute :
    let awaiting : Leg := { leg0 with slot := 10, state := .holding (.key 2) }
    let s := withBlock (Vector.replicate 8 0) ((withLeg leg0).setLeg 4 (some awaiting))
    let fourth : State := { s with framer := { s.framer with badRun := 3 } }
    let slipped : State := { s with framer := { s.framer with slipMark := 1 } }
    let twice : State := { s with framer := { s.framer with slipMark := 2, badRun := 2 } }
    let unlocked : State := { s with framer := { s.framer with mode := .presync 0 } }
    (fourth.resetAsserted = false ∧ fourth.framer.blockEnded = true ∧ fourth.framer.mode = .sync 0 ∧ fourth.framer.badRun = 3 ∧
      fourth.framer.slipMark = 0 ∧ parseTrunkCell fourth.framer.window = none ∧ leg0.state.isOpen = true) ∧
    (slipped.framer.slipMark = 1 ∧ slipped.framer.mode = .sync 0 ∧ twice.framer.slipMark = 2 ∧ twice.framer.badRun < 3 ∧
      slipped.legs[(3 : LegNo)] = some leg0 ∧ leg0.announced = none ∧ leg0.state = .running ∧
      slipped.legs[(4 : LegNo)] = some awaiting ∧ awaiting.announced = none ∧ awaiting.state = .holding (.key 2) ∧
      (∀ k ∈ awaiting.pendingKey, k.gen ≠ 2) ∧ ({ leg0 with state := .waiting } : Leg).state.counts = false) ∧
    (unlocked.framer.mode = .presync 0 ∧ unlocked.framer.blockEnded = true ∧ parseTrunkCell unlocked.framer.window = none) := by
  decide +kernel

/-- The clause of the locking completion. -/
theorem witness_BadCellsHuntAndStraddledBlocksMute_locks :
    let s := withBlock idleTrunkCell (withLeg { leg0 with state := .waiting })
    let locking : State := { s with framer := { s.framer with mode := .presync 0 } }
    locking.framer.mode = .presync 0 ∧ locking.framer.blockEnded = true ∧ parseTrunkCell locking.framer.window = some .idle ∧
      ∀ n : LegNo, ∀ l ∈ locking.legs[n], l.state.counts = false := by
  decide +kernel

/-! #### The line side -/

theorem witness_LineBlockStartIsTakenOnce :
    let l : Leg := { leg0 with txAssembly := silentBlock.toList }
    let ended := withBlock idleTrunkCell State.reset
    State.reset.resetAsserted = false ∧ State.reset.line.framePos = 0 ∧ State.reset.line.startTaken = false ∧
    State.reset.framer.blockEnded = false ∧ ({ State.reset.line with framePos := 1 } : LinePort).framePos ≠ 0 ∧
    ({ State.reset.line with startTaken := true } : LinePort).startTaken = true ∧ State.reset.legs[(3 : LegNo)] = none ∧
    (withLeg l).legs[(3 : LegNo)] = some l ∧ l.state.isOpen = true ∧ l.gathering = true ∧ l.txAssembly = silentBlock.toList ∧
    ({ l with gathering := false } : Leg).gathering = false ∧ ({ l with state := .clearing .host } : Leg).state.isOpen = false ∧
    (ended.line.framePos = 0 ∧ ended.line.startTaken = false ∧
      (run .trunkReceiveBlockCompletion ended).framer.blockEnded = false) := by
  decide +kernel

theorem witness_LineBlockStartIsTakenOnce_completes :
    exec .trunkReceiveBlockCompletion (withBlock idleTrunkCell State.reset) =
      .next (run .trunkReceiveBlockCompletion (withBlock idleTrunkCell State.reset)) := rfl

/-- A part between block starts with a LINE leg and a conference in which extension 1 is a local member on slot 6. -/
def talking : State :=
  let s := ((lineLeg.setRecord 1 (some { ext0 with number := [3, 4], state := .admitted 6 none })).setConf 2
    (some { conf0 with members := [.loc 1], mixSet := some [.loc 1] }))
  { s with line := { s.line.setSource (some 6) (.conference 2) with framePos := 3 } }

theorem talking_settles : talking.settle = talking := by
  have hb : talking.framer.blockEnded = false := rfl
  have hp : ¬ talking.line.framePos = 0 := by decide
  simp only [State.settle, State.completeBlock, hb, hp, if_false, Bool.false_eq_true]

theorem witness_LineFrameTakesAndGivesTheSlots : talking.resetAsserted = false ∧ talking.line.framePos ≠ 0 ∧
    talking.framer.blockEnded = false ∧ (5 : Slot) ≠ 0 ∧ (63 : Slot) ≠ 0 ∧
    talking.line.outMap[(63 : Slot)] = .vacant ∧ talking.line.outMap[(5 : Slot)] = .leg 3 ∧
    talking.legs[(3 : LegNo)] = some { leg0 with endpoint := .line } ∧ talking.line.outMap[(6 : Slot)] = .conference 2 ∧
    talking.confs[(2 : ConfNo)] = some { conf0 with members := [.loc 1], mixSet := some [.loc 1] } ∧
    talking.boundTo 6 = some 1 ∧ .loc 1 ∈ ({ conf0 with members := [.loc 1] } : Conf).members ∧
    (∀ n : LegNo, ∀ l ∈ talking.legs[n], l.state.isOpen = true → l.slot ≠ 63) ∧
    (∀ n : LegNo, ∀ l ∈ talking.legs[n], l.state.isOpen = true → l.slot = 9 → n = 3) ∧ talking.legs[(4 : LegNo)] = none := by
  decide +kernel

/-- The clauses of the trunk's two timing modes, and a read from an empty primed store. -/
theorem witness_LineFrameTakesAndGivesTheSlots_timing :
    let free := talking.setTiming .independent
    let slipping : State := { free with trunk := { free.trunk with primed := true } }
    talking.params.timing = .locked ∧ talking.framer.mode = .hunt ∧
    ¬(talking.params.timing = .independent ∧ talking.trunk.store = [] ∧ talking.trunk.primed = true) ∧
    (free.params.timing = .independent ∧ free.trunk.store = [] ∧ free.trunk.primed = false) ∧
    (slipping.params.timing = .independent ∧ slipping.trunk.store = [] ∧ slipping.trunk.primed = true) ∧
    ({ free.trunk with store := [silenceFrame] } : TrunkPort).store = silenceFrame :: [] ∧
    ({ slipping.framer with mode := .sync 7 }.slip .minus).mode ≠ .hunt := by
  decide +kernel

/-- At position 3, with no completion reached, a line frame finds no work due before it. -/
theorem witness_LineFrameTakesAndGivesTheSlots_settled : talking.settle = talking := talking_settles

/-! #### Extensions and admission -/

/-- EXT_LOAD's arguments for number 34, and its body. -/
def loadArgs : ExtLoadArgs :=
  { number := [3, 4], credential := ⟨1, 2⟩, cls := ⟨true, false, false⟩, group := 15, scope := .group }

/-- A part with every handle in use, none of them number 34. -/
def fullTable : State := { State.reset with ext := { State.reset.ext with records := Vector.replicate 256 (some ext0) } }

theorem witness_ExtensionRecordsAreLoadedAndRemoved :
    parseExtLoad loadArgs.body = some loadArgs ∧ (withExt ext0).ready ∧
    (∀ k : Handle, ∀ r ∈ (withExt ext0).record k, r.number ≠ loadArgs.number) ∧
    (withExt ext0).record 1 = none ∧ (∀ k : Handle, k < 1 → (withExt ext0).record k ≠ none) ∧
    (withExt { ext1 with state := .admitted 5 none }).findNumber [3, 4] = some 0 ∧
    ({ ext1 with state := .admitted 5 none } : ExtRecord).state.slot?.isSome = true ∧
    (withExt ext1).findNumber [3, 4] = some 0 ∧ ext1.state.slot? = none ∧
    parseRef false [1, 0, 0, 0, 0] = some (.handle 0) ∧ (withExt ext1).lookup (.handle 0) = some 0 ∧
    (withExt ext1).record 0 = some ext1 ∧
    (∃ c : ConfNo, ∃ k ∈ (withConf { conf0 with chair := some 0 }).confs[c], k.chair = some 0) ∧
    (∀ c : ConfNo, ∀ k ∈ (withExt ext1).confs[c], k.chair ≠ some 0) ∧
    State.reset.lookup (.handle 255) = none ∧ (withExt ext1).lookup (.number [3, 4]) = some 0 := by
  decide +kernel

/-- The clause of a full table. -/
theorem witness_ExtensionRecordsAreLoadedAndRemoved_full : fullTable.ready ∧ (∀ k : Handle, fullTable.record k ≠ none) ∧
    ∀ k : Handle, ∀ r ∈ fullTable.record k, r.number ≠ loadArgs.number := by
  decide +kernel

theorem witness_ExtensionAdministrationByState : (withExt ext1).ready ∧ parseRef false [1, 0, 0, 0, 0] = some (.handle 0) ∧
    (withExt ext1).lookup (.handle 0) = some 0 ∧ (withExt ext1).record 0 = some ext1 ∧ ext1.state = .idle ∧
    ({ ext1 with state := .challenged 63 0 1 } : ExtRecord).state = .challenged 63 0 1 ∧
    ({ ext1 with state := .suspended } : ExtRecord).state = .suspended ∧ ext1.state ≠ .suspended ∧
    ({ ext1 with state := .barred 0 } : ExtRecord).state = .barred 0 ∧ ext1.state.isBarred = false ∧
    ext1.state.slot? = none ∧ State.reset.lookup (.handle 0) = none := by
  decide +kernel

theorem witness_SlotMapFiltersAdmissionCells : State.reset.ready ∧ (List.replicate 63 ((63 : Slot), true)).length ≤ 63 ∧
    (∀ c ∈ List.replicate 63 ((63 : Slot), true), c.1 ≠ 0) ∧
    (withCell idleAdmissionCell State.reset).resetAsserted = false ∧
    (withCell idleAdmissionCell State.reset).line.cellDue = false ∧
    (withCell idleAdmissionCell State.reset).line.arrival = some idleAdmissionCell ∧
    judgeAdmissionCell idleAdmissionCell = .idle ∧ judgeAdmissionCell (Vector.replicate 8 0) = .bad ∧
    judgeAdmissionCell (buildCell 0xD1 63 6 0x12 0x34 0x56 0) = .hello 63 [1, 2, 3, 4, 5, 6] ∧
    (withCell idleAdmissionCell State.reset).ext.listen[(63 : Slot)] = false ∧
    (withCell idleAdmissionCell State.reset).ext.listen[(5 : Slot)] = true ∧
    judgeAdmissionCell (buildCell 0xD6 5 0 0 0 0 0) = .bye 5 ∧
    (withCell idleAdmissionCell State.reset).boundTo 5 = none := by
  decide +kernel

/-- The conditions of a cell's judging, at the ends of their ranges. -/
theorem witness_SlotMapFiltersAdmissionCells_judged :
    let sum (cell : Cell) : Byte := cell.toList.foldl (· + ·) 0
    let hello (slot count digits : Byte) : Cell := buildCell 0xD1 slot count digits 0xFF 0xFF 0
    let kinds : List Byte := [0xD1, 0xD3, 0xD6]
    sum (Vector.replicate 8 0) ≠ 0xA5 ∧ sum idleAdmissionCell = 0xA5 ∧ sum (buildCell 0xD2 5 0 0 0 0 0) = 0xA5 ∧
    (0xD2 : Byte) ≠ 0xD0 ∧ (0xD2 : Byte) ∉ kinds ∧ sum (hello 0 2 0x34) = 0xA5 ∧ (hello 0 2 0x34)[1] = 0 ∧
    63 < ((hello 64 2 0x34)[1]).toNat ∧ (hello 63 2 0x34)[1] = byteOf (63 : Slot) ∧
    judgeAdmissionCell (hello 63 7 0x34) = .bad ∧ judgeAdmissionCell (hello 63 2 0x3A) = .bad ∧
    judgeAdmissionCell (hello 63 2 0x39) = .hello 63 [3, 9] ∧ judgeAdmissionCell (hello 64 2 0x34) = .bad := by
  decide +kernel

/-- R120: a cell that is taken after the line block start comes behind that start's departure: a REFUSE queued then does
not leave at it. -/
theorem test_arrival_after_start_departs_behind :
    let s := withCell (buildCell 0xD1 5 2 0x34 0xFF 0xFF 0) State.reset
    let t := run .admissionCellArrival { s with line := { s.line with cellDue := true } }
    t.line.cellOut = idleAdmissionCell ∧ t.line.cellDue = false ∧ t.admQueue = [buildCell 0xD5 5 1 0 0 0 0] := by
  decide +kernel

theorem witness_SlotMapFiltersAdmissionCells_departs :
    let s := withCell idleAdmissionCell State.reset
    s.line.arrival ≠ none ∧ exec .admissionCellDeparture s = .next (run .admissionCellDeparture s) := ⟨by decide +kernel, rfl⟩

/-- A HELLO for extension 34 from slot 5, and the part it arrives at. -/
def helloCell : Cell := buildCell 0xD1 5 2 0x34 0xFF 0xFF 0
def greeted (a : Admission) : State := withCell helloCell (withExt { ext1 with state := a })

/-- The same with extension 12 on slot 5 in the given state. -/
def greetedOn (a : Admission) : State := withCell helloCell ((withExt ext1).setRecord 1 (some { ext0 with state := a }))

theorem witness_HelloChallengesOrIsRefused : (greeted .idle).resetAsserted = false ∧
    (greeted .idle).line.arrival = some helloCell ∧ (greeted .idle).line.cellDue = false ∧ judgeAdmissionCell helloCell = .hello 5 [3, 4] ∧
    (greeted .idle).ext.listen[(5 : Slot)] = true ∧ (withCell helloCell (withExt ext0)).findNumber [3, 4] = none ∧
    (greeted .idle).findNumber [3, 4] = some 0 ∧ (greeted .idle).record 0 = some ext1 ∧
    (greeted .suspended).findNumber [3, 4] = some 0 ∧ (greeted (.barred 1)).findNumber [3, 4] = some 0 ∧
    (greeted (.admitted 6 none)).findNumber [3, 4] = some 0 ∧ (Admission.admitted 6 none).isAdmitted = true ∧
    (Admission.admitted 6 none).slot? = some 6 ∧ (6 : Slot) ≠ 5 ∧
    helloRefusal 5 .idle = none ∧ (greetedOn (.admitted 5 none)).boundTo 5 = some 1 ∧ (1 : Handle) ≠ 0 ∧
    (greetedOn (.admitted 5 none)).record 1 = some ext0 ∧ (greetedOn (.challenged 5 7 9)).boundTo 5 = some 1 ∧
    (Admission.challenged 5 7 9).isAdmitted = false ∧ (greeted .idle).boundTo 5 = none ∧
    (greeted (.refreshing 5 7 9)).boundTo 5 = some 0 ∧ helloRefusal 5 (.refreshing 5 7 9) = none ∧
    helloRefusal 5 (.challenged 5 7 9) = none ∧ helloRefusal 5 (.admitted 5 none) = none ∧
    (greeted .idle).admQueue.length < 8 ∧ 8 ≤ (List.replicate 8 idleAdmissionCell).length := by
  decide +kernel

/-- An ANSWER from slot 5 with the word of extension 34's credential and nonce 7, and one with another word. -/
def answerCell (w : WheelWord) : Cell :=
  buildCell 0xD3 5 (byteOf (w.toNat / 65536)) (byteOf (w.toNat / 256)) (byteOf w.toNat) 0 0

def answered (a : Admission) (failures : Nat) (cell : Cell) : State :=
  withCell cell (withExt { ext1 with state := a, failures := failures })

theorem witness_AnswersAdmitOrCountAFailure :
    let good := admissionWord ext1.credential 7
    let s := answered (.challenged 5 7 9) 0 (answerCell good)
    s.resetAsserted = false ∧ s.line.arrival = some (answerCell good) ∧ s.line.cellDue = false ∧ s.ext.listen[(5 : Slot)] = true ∧
    judgeAdmissionCell (answerCell good) = .answer 5 good ∧ State.reset.boundTo 5 = none ∧
    s.boundTo 5 = some 0 ∧ s.record 0 = some { ext1 with state := .challenged 5 7 9 } ∧
    good = blockWord (wheelSteps ext1.credential 4 (epochSeed ext1.credential 7)) ∧
    (answered (.admitted 5 none) 0 (answerCell good)).boundTo 5 = some 0 ∧
    (answered (.refreshing 5 7 9) 0 (answerCell good)).boundTo 5 = some 0 ∧
    judgeAdmissionCell (answerCell (good + 1)) = .answer 5 (good + 1) ∧ good + 1 ≠ admissionWord ext1.credential 7 ∧
    1 + 1 < State.reset.params.failureLimit ∧ State.reset.params.failureLimit ≤ 2 + 1 ∧
    judgeAdmissionCell (buildCell 0xD6 5 0 0 0 0 0) = .bye 5 := by
  decide +kernel

/-- A part with extension 0 admitted, its refresh due, and an open leg or none. -/
def refreshDue (leg : Option Leg) : State := (withExt { ext0 with state := .admitted 5 (some 0) }).setLeg 3 leg

theorem witness_AdmissionTimersAndDeparture :
    let due : State := { State.reset with line := { State.reset.line with cellDue := true } }
    due.resetAsserted = false ∧ due.line.cellDue = true ∧ due.admQueue = [] ∧
    ({ due with admQueue := [idleAdmissionCell] } : State).admQueue = idleAdmissionCell :: [] ∧
    (withExt { ext1 with state := .challenged 5 7 0 }).record 0 = some { ext1 with state := .challenged 5 7 0 } ∧
    1 + 1 < State.reset.params.failureLimit ∧ State.reset.params.failureLimit ≤ 2 + 1 ∧
    (withExt { ext1 with state := .barred 0 }).record 0 = some { ext1 with state := .barred 0 } := by
  decide +kernel

/-- The clauses of the refresh timer: the lowest record due is at handle 0, which is engaged through leg 3 or not at all. -/
theorem witness_AdmissionTimersAndDeparture_refresh :
    (refreshDue none).record 0 = some { ext0 with state := .admitted 5 (some 0) } ∧
    (∀ k : Handle, k < 0 → ∀ q ∈ (refreshDue none).record k, ∀ x : Slot, q.state ≠ .admitted x (some 0)) ∧
    ((∀ n : LegNo, ∀ l ∈ (refreshDue none).legs[n], ¬(l.owner = 0 ∧ l.state.isOpen = true)) ∧
      (refreshDue none).localConf 0 = none) ∧
    (ext0.cls.refresh = true ∧ ∃ n : LegNo, ∃ l ∈ (refreshDue (some leg0)).legs[n], l.owner = 0 ∧ l.state.isOpen = true) ∧
    (refreshDue (some leg0)).admQueue.length < 8 ∧ 8 ≤ (List.replicate 8 idleAdmissionCell).length := by
  decide +kernel

/-! #### A part in the middle of its calls -/

/-- Legs 3 (LINE), 4 (in conference 2) and 6 (CLEARING), all of extension 0. -/
def callLegs : Vector (Option Leg) 32 :=
  (((Vector.replicate 32 none).set 3 (some { leg0 with endpoint := .line })).set 4
    (some { leg0 with slot := 10, farTag := some 0xFF, endpoint := .conference 2 })).set 6
    (some { leg0 with slot := 11, state := .clearing .host, gathering := false })

/-- Conference 2, its chair extension 0, its one member leg 4. -/
def callConfs : Vector (Option Conf) 8 :=
  (Vector.replicate 8 none).set 2 (some { conf0 with chair := some 0, members := [.leg 4] })

/-- Line slot 5 is driven from leg 3. -/
def callMap : Vector SlotSource 64 := (Vector.replicate 64 .vacant).set 5 (.leg 3)

/-- A part with extension 0's record, the legs and the conference above, the framer in SYNC, the hold OPEN with one entry,
an arrival handed over, and commands waiting. -/
def call (r : ExtRecord) (arrival : Option Cell) (commands : List Instr) : State :=
  { State.reset with
    line := { State.reset.line with outMap := callMap, arrival := arrival }
    ext := { State.reset.ext with records := (Vector.replicate 256 none).set 0 (some r),
                                  listen := (Vector.replicate 64 false).set 5 true }
    legs := callLegs
    confs := callConfs
    cellQueue := [⟨.sync, 3⟩, ⟨.clear, 6⟩]
    framer := { State.reset.framer with mode := .sync 0, window := idleTrunkCell.toList }
    hold := .opened [.level 3 (-6)] .absent
    pending := commands }

theorem call_record {r q : ExtRecord} {a : Option Cell} {p : List Instr} {h : Handle} (e : (call r a p).record h = some q) :
    h = 0 ∧ q = r := by
  by_cases hz : h = 0
  · subst hz
    have : (call r a p).record 0 = some r := rfl
    exact ⟨rfl, Option.some.inj (e.symm.trans this)⟩
  · have : (call r a p).record h = none := by
      show ((Vector.replicate 256 none).set 0 (some r))[h.val] = none
      rw [Vector.getElem_set_ne]
      · exact Vector.getElem_replicate ..
      · intro hc; exact hz (Fin.ext hc.symm)
    rw [this] at e; cases e

theorem call_leg {P : LegNo → Leg → Prop} (r : ExtRecord) (a : Option Cell) (p : List Instr)
    (h : ∀ n : LegNo, ∀ l ∈ callLegs[n], P n l) (n : LegNo) (l : Leg) (e : (call r a p).legs[n] = some l) : P n l := h n l e

theorem call_boundSlot {r : ExtRecord} {a : Option Cell} {p : List Instr} {h : Handle} {k : Slot}
    (hs : r.state.slot? = some 5) : (call r a p).boundSlot h = some k ↔ h = 0 ∧ k = 5 := by
  constructor
  · intro e
    obtain ⟨q, hq, hk⟩ := Option.bind_eq_some_iff.mp e
    obtain ⟨rfl, rfl⟩ := call_record hq
    exact ⟨rfl, (Option.some.inj (hs.symm.trans hk)).symm⟩
  · rintro ⟨rfl, rfl⟩
    exact hs

theorem call_members (r : ExtRecord) (a : Option Cell) (p : List Instr) (c : ConfNo) :
    (call r a p).membersOf c = if c = 2 then [.leg 4] else [] := by
  revert c
  have : ∀ c : ConfNo, State.membersOf { State.reset with confs := callConfs } c = if c = 2 then [.leg 4] else [] := by
    decide +kernel
  exact this

theorem call_admitted {r : ExtRecord} {a : Option Cell} {p : List Instr} (f : ExtClass → Bool)
    (ha : r.state.isAdmitted = true) (hf : f r.cls = true) : (call r a p).admittedWith 0 f = true := by
  have : (call r a p).record 0 = some r := rfl
  simp [State.admittedWith, this, ha, hf]

theorem call_members_leg {r : ExtRecord} {a : Option Cell} {p : List Instr} {c : ConfNo} {n : LegNo} :
    .leg n ∈ (call r a p).membersOf c ↔ c = 2 ∧ n = 4 := by
  rw [call_members]; split <;> simp_all

theorem call_members_loc {r : ExtRecord} {a : Option Cell} {p : List Instr} {c : ConfNo} {h : Handle} :
    .loc h ∉ (call r a p).membersOf c := by
  rw [call_members]; split <;> simp

/-- Leg 4 is the one open leg in a conference, and leg 3 the one on LINE. -/
theorem call_endpoints {r : ExtRecord} {a : Option Cell} {p : List Instr} {n : LegNo} {l : Leg}
    (e : (call r a p).legs[n] = some l) :
    (∀ c, l.state.isOpen = true → l.endpoint = .conference c → c = 2 ∧ n = 4) ∧ (l.endpoint = .line → n = 3) :=
  call_leg (P := fun n l => (∀ c, l.state.isOpen = true → l.endpoint = .conference c → c = 2 ∧ n = 4) ∧
    (l.endpoint = .line → n = 3)) r a p (by decide +kernel) n l e

theorem call_memberLaws {r : ExtRecord} (a : Option Cell) (p : List Instr) (ha : r.state.isAdmitted = true)
    (hc : r.cls.mayConference = true) : (call r a p).MemberLaws where
  pool := by simp only [call_members]; decide
  room c := by rw [call_members]; split <;> decide
  once c := by rw [call_members]; split <;> decide
  onlyOnce c d m h h' := by
    rw [call_members] at h h'
    split at h <;> split at h' <;> simp_all
  legs c n := by
    rw [call_members_leg]
    refine ⟨?_, fun ⟨l, e, ho, he⟩ => (call_endpoints e).1 c ho he⟩
    rintro ⟨rfl, rfl⟩
    exact ⟨_, rfl, rfl, rfl⟩
  locals c h e := absurd e call_members_loc
  chairs c k h e e' := by
    have key : ∀ c : ConfNo, ∀ k ∈ callConfs[c], k.chair = some 0 := by decide +kernel
    obtain rfl : 0 = h := Option.some.inj ((key c k e).symm.trans e')
    exact call_admitted _ ha hc

theorem call_mapLaws {r : ExtRecord} (a : Option Cell) (p : List Instr) (hs : r.state.slot? = some 5) :
    (call r a p).MapLaws where
  legs k n := by
    have key : ∀ (k : Slot) (n : LegNo), callMap[k] = .leg n ↔ k = 5 ∧ n = 3 := by decide +kernel
    refine (key k n).trans ⟨?_, fun ⟨l, e, _, he, hb⟩ => ⟨((call_boundSlot hs).mp hb).2, (call_endpoints e).2 he⟩⟩
    rintro ⟨rfl, rfl⟩
    exact ⟨_, rfl, rfl, rfl, (call_boundSlot hs).mpr ⟨rfl, rfl⟩⟩
  conferences k c := by
    have key : ∀ (k : Slot) (c : ConfNo), callMap[k] ≠ .conference c := by decide +kernel
    exact ⟨fun e => absurd e (key k c), fun ⟨h, e, _⟩ => absurd e call_members_loc⟩

/-- The part in its calls keeps the laws of the line side, whatever admission state on slot 5 its extension is in. -/
theorem call_lineLaws (r : ExtRecord) (a : Option Cell) (p : List Instr) (ha : r.state.isAdmitted = true)
    (hs : r.state.slot? = some 5) (hc : r.cls = ⟨true, true, true⟩) : (call r a p).LineLaws where
  records.slots h k slot e e' := ((call_boundSlot hs).mp e).1.trans ((call_boundSlot hs).mp e').1.symm
  records.numbers h k x y e e' _ := (call_record e).1.trans (call_record e').1.symm
  owners n l e _ := by
    rw [call_leg (P := fun _ l => l.owner = 0) r a p (by decide +kernel) n l e]
    exact call_admitted _ ha (by rw [hc])
  members := call_memberLaws a p ha (by rw [hc])
  map := call_mapLaws a p hs
  parked := call_leg r a p (by decide +kernel)

/-- Extension 0 in an admitted state, with a fault scope. -/
def caller (st : Admission) (scope : FaultScope) : ExtRecord := { ext0 with state := st, scope := scope }

/-- The parts the five ways of losing admission start from: at rest, at a BYE, at a wrong answer to a refresh, and at the
refresh's timeout. -/
def resting (scope : FaultScope) : State := call (caller (.admitted 5 none) scope) none []
def leavingCall (scope : FaultScope) : State :=
  call (caller (.admitted 5 none) scope) (some (buildCell 0xD6 5 0 0 0 0 0)) []
def wrongWord : WheelWord := admissionWord ext0.credential 7 + 1
def failingRefresh (scope : FaultScope) : State := call (caller (.refreshing 5 7 9) scope) (some (answerCell wrongWord)) []
def expiredRefresh (scope : FaultScope) : State := call (caller (.refreshing 5 7 0) scope) none []

/-- Each keeps the laws of the line side, under each scope. -/
theorem witness_LossOfAdmissionEndsTheCalls_laws (scope : FaultScope) :
    (resting scope).LineLaws ∧ (leavingCall scope).LineLaws ∧ (failingRefresh scope).LineLaws ∧
      (expiredRefresh scope).LineLaws := by
  have laws (st : Admission) (a : Option Cell) (ha : st.isAdmitted = true) (hs : st.slot? = some 5) :
      (call (caller st scope) a []).LineLaws := call_lineLaws _ _ _ ha hs rfl
  exact ⟨laws _ _ rfl rfl, laws _ _ rfl rfl, laws _ _ rfl rfl, laws _ _ rfl rfl⟩

/-- And each meets its cause, with X's record, the reply, the admission queue and the notices that the cause gives. -/
theorem witness_LossOfAdmissionEndsTheCalls_causes (scope : FaultScope) :
    ((resting scope).ready ∧ (resting scope).record 0 = some (caller (.admitted 5 none) scope) ∧
      (caller (.admitted 5 none) scope).state.isAdmitted = true ∧ (caller (.admitted 5 none) scope).state.slot? = some 5 ∧
      (parseRef false [1, 0, 0, 0, 0]).bind (resting scope).lookup = some 0) ∧
    ((leavingCall scope).resetAsserted = false ∧ (leavingCall scope).line.cellDue = false ∧
      (leavingCall scope).line.arrival.map judgeAdmissionCell = some (.bye 5) ∧
      (leavingCall scope).ext.listen[(5 : Slot)] = true) ∧
    ((failingRefresh scope).line.cellDue = false ∧
      (failingRefresh scope).line.arrival.map judgeAdmissionCell = some (.answer 5 wrongWord) ∧
      wrongWord ≠ admissionWord ext0.credential 7) ∧
    (expiredRefresh scope).record 0 = some (caller (.refreshing 5 7 0) scope) ∧
    (∃ (after : ExtRecord) (link : Link) (cells : List Cell) (told : State), cells = (resting scope).admQueue ∧
      told = resting scope ∧ after = { caller (.admitted 5 none) scope with state := .suspended } ∧
      link = ((resting scope).answered 0x0C .ok [2]).link) := by
  cases scope <;> exact ⟨by decide +kernel, by decide +kernel, by decide +kernel, by decide +kernel, by simp⟩

/-- All the hypotheses of a suspension together. -/
theorem witness_LossOfAdmissionEndsTheCalls (scope : FaultScope) :
    (resting scope).LineLaws ∧ (resting scope).resetAsserted = false ∧
    (resting scope).record 0 = some (caller (.admitted 5 none) scope) ∧
    (caller (.admitted 5 none) scope).state.isAdmitted = true ∧ (caller (.admitted 5 none) scope).state.slot? = some 5 ∧
    (resting scope).ready ∧ (parseRef false [1, 0, 0, 0, 0]).bind (resting scope).lookup = some 0 :=
  have ⟨⟨ready, rest⟩, _⟩ := witness_LossOfAdmissionEndsTheCalls_causes scope
  ⟨(witness_LossOfAdmissionEndsTheCalls_laws scope).1, ready.1, rest.1, rest.2.1, rest.2.2.1, ready, rest.2.2.2⟩

/-! #### Conferences and holds -/

theorem witness_ConferencesOpenAndClose : (withConf conf0).ready ∧ parseConfOpen [2, 0, 0, 0, 0, 0, 0] = some (2, none) ∧
    (withConf conf0).confs[(2 : ConfNo)] ≠ none ∧ (withExt ext0).ready ∧ (withExt ext0).confs[(2 : ConfNo)] = none ∧
    parseConfOpen [2, 1, 1, 0, 0, 0, 0] = some (2, some (.handle 0)) ∧ State.reset.lookup (.handle 0) = none ∧
    (withExt ext0).lookup (.handle 0) = some 0 ∧ (withExt ext0).record 0 = some ext0 ∧ ext1.state.isAdmitted = false ∧
    ext0.state.isAdmitted = true ∧ ({ ext0 with cls := ⟨true, false, true⟩ } : ExtRecord).cls.mayConference = false ∧
    ext0.cls.mayConference = true ∧ parseConf [7] = some 7 ∧ State.reset.confs[(7 : ConfNo)] = none ∧
    confLeg.ready ∧ parseConf [2] = some 2 ∧ confLeg.confs[(2 : ConfNo)] = some { conf0 with members := [.leg 3] } := by
  decide +kernel

/-- A conference with room, beside a parked leg. -/
def meeting : State := (withLeg leg0).setConf 2 (some conf0)

/-- Conference 2 holding extension 0's handset, its slot mixed to it. -/
def localMember : State :=
  let s := withConf { conf0 with members := [.loc 0] }
  { s with line := s.line.setSource (some 5) (.conference 2) }

theorem witness_MembersJoinAndLeave : meeting.ready ∧ meeting.hold = .closed ∧
    parseConfMember [2, 0, 3, 0, 0, 0, 0, 0] = some (2, .leg 3) ∧
    parseConfMember [2, 1, 0, 1, 0, 0, 0, 0] = some (2, .loc (.handle 0)) ∧ (withLeg leg0).confs[(2 : ConfNo)] = none ∧
    meeting.confs[(2 : ConfNo)] = some conf0 ∧ meeting.legs[(3 : LegNo)] = some leg0 ∧ meeting.legs[(4 : LegNo)] = none ∧
    leg0.state.isOpen = true ∧ (∀ d, leg0.endpoint ≠ .conference d) ∧
    confLeg.ready ∧ confLeg.hold = .closed ∧ confLeg.legs[(3 : LegNo)] = some { leg0 with endpoint := .conference 2 } ∧
    .leg 3 ∈ ({ conf0 with members := [.leg 3] } : Conf).members ∧ .leg 3 ∉ conf0.members ∧
    (meeting.record 0).any (·.cls.mayConference) = true ∧
    ((meeting.setRecord 0 (some { ext0 with cls := ⟨true, false, true⟩ })).record 0).any (·.cls.mayConference) = false ∧
    8 ≤ (List.replicate 8 (Member.leg 9)).length ∧ ¬(8 ≤ conf0.members.length ∨ meeting.freePlaces = 0) ∧
    meeting.lookup (.handle 9) = none ∧ meeting.lookup (.handle 0) = some 0 ∧ meeting.record 0 = some ext0 ∧
    ext1.state.isAdmitted = false ∧ ext0.state.isAdmitted = true ∧ meeting.localConf 0 = none ∧
    (localMember.localConf 0).isSome = true ∧ ext0.state.slot? = some 5 ∧ meeting.lineLegOf 0 = none ∧
    (withLineLeg.setConf 2 (some conf0)).ready ∧ (withLineLeg.setConf 2 (some conf0)).lineLegOf 0 = some 4 ∧
    (withLineLeg.setConf 2 (some conf0)).legs[(4 : LegNo)] = some { leg0 with slot := 10, endpoint := .line } ∧
    .loc 0 ∉ conf0.members ∧ localMember.ready ∧ localMember.hold = .closed ∧
    localMember.confs[(2 : ConfNo)] = some { conf0 with members := [.loc 0] } ∧
    localMember.line.outMap[(5 : Slot)] = .conference 2 := by
  decide +kernel

theorem witness_GovernorJudgesTheBlock : (withConf { conf0 with judged := some true }).resetAsserted = false ∧
    (withConf { conf0 with judged := some true }).confs[(2 : ConfNo)] = some { conf0 with judged := some true } ∧
    0 < 2 - 1 ∧ 183 + 8 < 192 ∧ 192 ≤ 184 + 8 ∧ 192 ≤ 191 + 8 ∧ 1 - 1 = 0 ∧ conf0.attenuation < 5 ∧
    5 ≤ ({ conf0 with attenuation := 5 } : Conf).attenuation ∧ ({ conf0 with overload := true } : Conf).overload = true ∧
    conf0.overload = false ∧ 1 < ({ conf0 with attenuation := 2 } : Conf).attenuation ∧
    ({ conf0 with attenuation := 1 } : Conf).attenuation ≤ 1 := by
  decide +kernel

/-- A part with the hold OPEN and n entries staged. -/
def staging (n : Nat) (mark : CommitMark) : State := { withLeg leg0 with hold := .opened (List.replicate n (.park 3)) mark }

theorem witness_HeldRequestsAreStaged : State.reset.ready ∧ State.reset.hold = .closed ∧ (staging 15 .absent).ready ∧
    (staging 15 .absent).hold = .opened (List.replicate 15 (.park 3)) .absent ∧ CommitMark.pending ≠ .absent ∧
    (staging 0 .absent).link.replies = [] ∧ parseLeg [3] = some 3 ∧ parseLegLevel [3, 6] = some (3, 6) ∧
    parseConfMember [2, 0, 3, 0, 0, 0, 0, 0] = some (2, .leg 3) ∧
    parseConfMember [2, 1, 0, 1, 9, 0, 0, 0] = some (2, .loc (.handle 9)) ∧ (staging 15 .absent).lookup (.handle 9) = none ∧
    (List.replicate 15 (HeldChange.park 3)).length < 16 ∧ 16 ≤ (List.replicate 16 (HeldChange.park 3)).length := by
  decide +kernel

/-- A PARK names no extension, so it is never an entry of an unknown one. -/
theorem witness_HeldRequestsAreStaged_known : ¬(∃ k ref, (HeldChange.park 3 = .join k (.loc ref) ∨
    HeldChange.park 3 = .leave k (.loc ref)) ∧ (staging 15 .absent).lookup ref = none) := by
  simp

theorem witness_CommitAppliesTheEntriesInOrder : (staging 16 .due).resetAsserted = false ∧
    (staging 16 .due).hold = .opened (List.replicate 16 (.park 3)) .due ∧
    (applyChange (.park 3) State.reset).2 = .now .state [] ∧ Status.state ≠ .ok ∧
    (withLeg leg0).ready ∧ (withLeg leg0).hold = .closed ∧ parseLeg [3] = some 3 ∧ parseLegLevel [3, 6] = some (3, 6) ∧
    parseConfMember [2, 0, 3, 0, 0, 0, 0, 0] = some (2, .leg 3) ∧
    (∀ x ∈ ([] : List (Option Reply)), x.isSome = true) ∧
    heldBack.link.replies = [] ++ none :: [some ⟨0x9A, .ok, []⟩] ∧ heldBack.link.leaving.isSome = true := by
  decide +kernel

/-! #### The invariants -/

/-- The part in its calls with two commands waiting. -/
def calling : State := call ext0 none [.lineBlockStart, .paramRead []]

theorem calling_steps : step calling = .next (run .lineBlockStart { calling with pending := [.paramRead []] }) := rfl

theorem calling_leg {P : LegNo → Leg → Prop} (h : ∀ n : LegNo, ∀ l ∈ callLegs[n], P n l) (n : LegNo) (l : Leg)
    (e : calling.legs[n] = some l) : P n l := h n l e

theorem witness_StepsKeepTheRanges_bounded : calling.Bounded where
  cellQueue := by decide
  admQueue := by decide
  notices := by decide
  attention _ := rfl
  store := by decide
  netSlips := by decide
  changes := by decide
  cellIn := rfl
  window := by decide
  badRun := by decide
  framerCounters := by decide
  extCounters := by decide
  held := by decide
  heldGains n g h := by
    obtain ⟨rfl, rfl⟩ := HeldChange.level.inj (List.mem_singleton.mp h)
    decide
  legs n l e := by
    have h := calling_leg (P := fun _ l => l.rxOutput = [] ∧ l.gain = 0 ∧ l.realigns = 0 ∧ l.mutedBlocks = 0 ∧
      l.skippedSyncs = 0) (by decide +kernel) n l e
    constructor <;> simp [h]
  confs c k e := by
    have key : ∀ c : ConfNo, ∀ k ∈ callConfs[c], k = { conf0 with chair := some 0, members := [.leg 4] } := by decide +kernel
    rw [key c k e]
    constructor <;> decide
  params := by constructor <;> decide

theorem witness_StepsKeepTheRanges_replies : calling.RepliesInOrder where
  room := by decide
  outstanding := rfl
  leaving _ _ _ _ h := by cases h

theorem witness_StepsKeepTheRanges : calling.Bounded ∧ calling.RepliesInOrder ∧
    step calling = .next (run .lineBlockStart { calling with pending := [.paramRead []] }) :=
  ⟨witness_StepsKeepTheRanges_bounded, witness_StepsKeepTheRanges_replies, calling_steps⟩

theorem witness_StepsKeepTheTables : calling.LegsDistinct ∧ calling.RecordsDistinct ∧ calling.params.Bounded ∧
    calling.FailureLaw := by
  refine ⟨?_, (call_lineLaws ext0 _ _ rfl rfl rfl).records, witness_StepsKeepTheRanges_bounded.params, ?_⟩
  · have key : ∀ n m : LegNo, ∀ l ∈ callLegs[n], ∀ k ∈ callLegs[m], n ≠ m → l.slot ≠ k.slot ∧ l.receiveTag ≠ k.receiveTag := by
      decide +kernel
    exact fun n m l k e e' => key n m l e k e'
  · intro h r e
    obtain ⟨-, rfl⟩ := call_record e
    decide

theorem witness_StepsKeepTheQueueAndKeys_queue : calling.CellQueueLaws where
  once := by decide
  owners r h := by
    rcases List.mem_cons.mp h with rfl | h
    · exact ⟨_, rfl, rfl⟩
    · rw [List.mem_singleton.mp h]; exact ⟨_, rfl, rfl⟩
  wantsClear := calling_leg (by decide +kernel)
  wantsRoll := calling_leg (by decide +kernel)
  cleared n l e := by
    have key : ∀ n : LegNo, ∀ l ∈ callLegs[n], l.state.isClearing = true →
        l.wantsClear = true ∨ { kind := .clear, leg := n } ∈ [CellRequest.mk .sync 3, ⟨.clear, 6⟩] := by decide +kernel
    exact key n l e

theorem witness_StepsKeepTheQueueAndKeys_keys : calling.KeyLaws where
  epochLength := by decide
  legs n l e := by
    have h := calling_leg (P := fun _ l => (l.tx.index = 0 ∧ l.rx.index = 0 ∧ l.txKey.gen = l.rxKey.gen ∧
      l.switchEpoch = none) ∧ (l.state = .running ∨ l.state = .clearing .host)) (by decide +kernel) n l e
    have hlen : calling.params.epochLength = 256 := rfl
    constructor <;> rcases h with ⟨h, hst | hst⟩ <;> simp [h, hst, hlen]
  rolls n l e h := by
    have key : ∀ n : LegNo, ∀ l ∈ callLegs[n],
        ¬(l.wantsRoll = true ∨ { kind := .roll, leg := n } ∈ [CellRequest.mk .sync 3, ⟨.clear, 6⟩]) := by decide +kernel
    exact absurd h (key n l e)

theorem witness_StepsKeepTheQueueAndKeys : calling.CellQueueLaws ∧ calling.KeyLaws ∧
    step calling = .next (run .lineBlockStart { calling with pending := [.paramRead []] }) :=
  ⟨witness_StepsKeepTheQueueAndKeys_queue, witness_StepsKeepTheQueueAndKeys_keys, calling_steps⟩

theorem witness_StepsKeepTheReceiveSide : calling.ReceiveLaws where
  hunt := nofun
  presync := nofun
  sync p h := by
    obtain rfl : 0 = p := FramerMode.sync.inj h
    exact { window := rfl, position := rfl, frames := by decide, ended := rfl, length := .inl ⟨rfl, rfl⟩ }
  counting n l e _ := ⟨⟨0, rfl⟩, calling_leg (P := fun _ l => l.rxAssembly.length = 0) (by decide +kernel) n l e⟩

theorem witness_StepsKeepTheLineSide : calling.LineLaws := call_lineLaws ext0 _ _ rfl rfl rfl

end Sys2Proof.Tests
end

section
/-! PROOFS. Slips (R13, R85, R86): the slip record, what a slip leaves of the part, and the framer's three answers. -/

namespace Sys2Proof.Machine

/-! ### The slip record (R13) -/

/-- R13: the direction that a slip of direction `d` is a change from. -/
def SlipDirection.opposite : SlipDirection → SlipDirection
  | .plus => .minus | .minus => .plus

/-- R13: the detail of the slip notice. -/
def SlipDirection.noticeDetail : SlipDirection → Half
  | .plus => 1 | .minus => 0xFFFF

theorem clampSlips_eq_max_min (n : Int) : clampSlips n = max (-32767) (min 32767 n) := by
  unfold clampSlips
  split
  · omega
  · split <;> omega

theorem SlipDirection.ne_iff_eq_opposite (a d : SlipDirection) : a ≠ d ↔ a = d.opposite := by
  cases a <;> cases d <;> decide

theorem TrunkPort.reverses_iff (t : TrunkPort) (d : SlipDirection) :
    t.reverses d = true ↔ t.lastDirection = some d.opposite := by
  cases h : t.lastDirection with
  | none => simp [TrunkPort.reverses, h]
  | some a => simp [TrunkPort.reverses, h, SlipDirection.ne_iff_eq_opposite]

@[simp] theorem TrunkPort.recordSlip_lastDirection (d : SlipDirection) (t : TrunkPort) :
    (t.recordSlip d).lastDirection = some d := rfl
@[simp] theorem TrunkPort.recordSlip_store (d : SlipDirection) (t : TrunkPort) : (t.recordSlip d).store = t.store := rfl
@[simp] theorem TrunkPort.recordSlip_primed (d : SlipDirection) (t : TrunkPort) : (t.recordSlip d).primed = t.primed := rfl
@[simp] theorem TrunkPort.recordSlip_lastDelivered (d : SlipDirection) (t : TrunkPort) :
    (t.recordSlip d).lastDelivered = t.lastDelivered := rfl

theorem TrunkPort.recordSlip_changeFlag (d : SlipDirection) (t : TrunkPort) :
    (t.recordSlip d).changeFlag = (t.changeFlag || decide ((t.recordSlip d).changes = 2)) := rfl

theorem TrunkPort.recordSlip_netSlips (d : SlipDirection) (t : TrunkPort) :
    (t.recordSlip d).netSlips = max (-32767) (min 32767 (t.netSlips + d.value)) :=
  clampSlips_eq_max_min _

theorem TrunkPort.recordSlip_changes_of_turn {d : SlipDirection} {t : TrunkPort}
    (h : t.lastDirection = some d.opposite) : (t.recordSlip d).changes = min 2 (t.changes + 1) := by
  have hr : t.reverses d = true := (t.reverses_iff d).2 h
  simp only [TrunkPort.recordSlip, hr, if_true]
  split <;> omega

theorem TrunkPort.recordSlip_changes_of_no_turn {d : SlipDirection} {t : TrunkPort}
    (h : t.lastDirection ≠ some d.opposite) : (t.recordSlip d).changes = t.changes := by
  have hr : ¬ t.reverses d = true := mt (t.reverses_iff d).1 h
  simp only [TrunkPort.recordSlip, hr]; rfl

/-! ### What a slip changes of the part (R13, R82) -/

/-- R82: what a slip makes of the legs, by the framer's mode before it. -/
def FramerMode.slipLegs (legs : Vector (Option Leg) 32) : FramerMode → Vector (Option Leg) 32
  | .presync _ => emptyAssemblies legs
  | _ => legs

theorem FramerMode.slipLegs_of_not_presync {m : FramerMode} {legs : Vector (Option Leg) 32}
    (h : ∀ p, m ≠ .presync p) : m.slipLegs legs = legs := by
  cases m with
  | presync p => exact absurd rfl (h p)
  | hunt => rfl
  | sync p => rfl

/-- R82: each leg keeps everything but its receive assembly. -/
theorem getElem_emptyAssemblies (legs : Vector (Option Leg) 32) (n : LegNo) :
    (emptyAssemblies legs)[n] = (legs[n]).map fun l => { l with rxAssembly := [] } := by
  simp [emptyAssemblies]

/-- R13: the notices after a slip: its own and, where it sets the change flag, the wander it tells of. -/
def State.slipNotices (s : State) (d : SlipDirection) : NoticeUnit :=
  let noticed := s.notify .slip 0 d.noticeDetail
  if (s.trunk.recordSlip d).changeFlag && !s.trunk.changeFlag then
    (noticed.notify .wander 0 (halfOfInt (s.trunk.recordSlip d).netSlips)).notices
  else noticed.notices

/-- A slip touches the slip record, the framer, the legs and the notices, and nothing else. -/
theorem State.handleSlip_eq (s : State) (d : SlipDirection) :
    s.handleSlip d = { s with
      trunk := s.trunk.recordSlip d, framer := s.framer.slip d
      legs := s.framer.mode.slipLegs s.legs, notices := s.slipNotices d } := by
  unfold State.handleSlip State.slipNotices
  dsimp only
  generalize ((s.trunk.recordSlip d).changeFlag && !s.trunk.changeFlag) = fresh
  cases fresh <;> rfl

@[simp] theorem State.handleSlip_trunk (s : State) (d : SlipDirection) :
    (s.handleSlip d).trunk = s.trunk.recordSlip d :=
  congrArg State.trunk (s.handleSlip_eq d)

@[simp] theorem State.handleSlip_framer (s : State) (d : SlipDirection) :
    (s.handleSlip d).framer = s.framer.slip d :=
  congrArg State.framer (s.handleSlip_eq d)

@[simp] theorem State.handleSlip_legs (s : State) (d : SlipDirection) :
    (s.handleSlip d).legs = s.framer.mode.slipLegs s.legs :=
  congrArg State.legs (s.handleSlip_eq d)

@[simp] theorem State.handleSlip_notices (s : State) (d : SlipDirection) :
    (s.handleSlip d).notices = s.slipNotices d :=
  congrArg State.notices (s.handleSlip_eq d)

theorem State.slipNotices_of_wander {s : State} {d : SlipDirection} (hf : s.trunk.changeFlag = false)
    (hc : (s.trunk.recordSlip d).changes = 2) :
    s.slipNotices d = ((s.notify .slip 0 d.noticeDetail).notify .wander 0
      (halfOfInt (s.trunk.recordSlip d).netSlips)).notices :=
  if_pos (by simp [TrunkPort.recordSlip_changeFlag, hf, hc])

theorem State.slipNotices_of_no_wander {s : State} {d : SlipDirection}
    (h : s.trunk.changeFlag = true ∨ (s.trunk.recordSlip d).changes ≠ 2) :
    s.slipNotices d = (s.notify .slip 0 d.noticeDetail).notices := by
  refine if_neg ?_
  rw [TrunkPort.recordSlip_changeFlag]
  rcases h with hf | hc
  · simp [hf]
  · simp [hc]

/-! ### What a slip does to the framer (R85, R86) -/

theorem Framer.slip_of_hunt {f : Framer} {d : SlipDirection} (h : f.mode = .hunt) : f.slip d = f := by
  simp [Framer.slip, h]

theorem Framer.slip_of_presync {f : Framer} {d : SlipDirection} {p : Position} (h : f.mode = .presync p) :
    f.slip d = f.toHunt := by
  simp [Framer.slip, h]

theorem Framer.slip_of_sync_marked {f : Framer} {d : SlipDirection} {p : Position} (h : f.mode = .sync p)
    (hm : f.slipMark ≠ 0) : f.slip d = { f with slipMark := 2 } := by
  simp [Framer.slip, h, hm]

theorem Framer.slip_plus_of_sync {f : Framer} {p : Position} (h : f.mode = .sync p) (hm : f.slipMark = 0) :
    f.slip .plus = { f with
      mode := .sync (p + 7), slipMark := 1, blockLength := 7, blockEnded := decide (7 ≤ f.blockFrames) } := by
  simp [Framer.slip, h, hm]

theorem Framer.slip_minus_of_sync {f : Framer} {p : Position} (h : f.mode = .sync p) (hm : f.slipMark = 0) :
    f.slip .minus = { f with mode := .sync (p + 1), slipMark := 1, blockLength := 9 } := by
  simp [Framer.slip, h, hm]

/-- Settles O35: the record by the lemmas on `recordSlip`, the notices by whether the change flag is newly set, the
legs by whether the framer is in PRESYNC, the framer by its mode and slip mark. -/
theorem slipsAreRecordedAndMoveThePhaseOnce : Obligations.SlipsAreRecordedAndMoveThePhaseOnce := by
  unfold Obligations.SlipsAreRecordedAndMoveThePhaseOnce
  refine ⟨fun s d _ _ _ => ?record, fun f d => ?framer⟩
  case record =>
    dsimp only
    rw [State.handleSlip_trunk, State.handleSlip_notices, State.handleSlip_legs]
    exact ⟨TrunkPort.recordSlip_netSlips d s.trunk, TrunkPort.recordSlip_lastDirection d s.trunk,
      TrunkPort.recordSlip_changes_of_turn, TrunkPort.recordSlip_changes_of_no_turn,
      TrunkPort.recordSlip_changeFlag d s.trunk,
      State.slipNotices_of_wander, State.slipNotices_of_no_wander,
      TrunkPort.recordSlip_store d s.trunk, TrunkPort.recordSlip_primed d s.trunk,
      TrunkPort.recordSlip_lastDelivered d s.trunk, State.handleSlip_eq s d,
      FramerMode.slipLegs_of_not_presync,
      fun p hp n => by rw [hp]; exact getElem_emptyAssemblies s.legs n⟩
  case framer =>
    refine ⟨Framer.slip_of_hunt, fun p hp => ?_, fun p => Framer.slip_of_sync_marked, fun p hp hm hd => ?_,
      fun p hp hm hd => ?_⟩
    · rw [Framer.slip_of_presync hp]
      exact ⟨rfl, rfl⟩
    · subst hd
      exact Framer.slip_plus_of_sync hp hm
    · subst hd
      exact Framer.slip_minus_of_sync hp hm

end Sys2Proof.Machine
end

section
/-! PROOFS. The sample code and its level arithmetic (R16 to R19, R21 to R23, R27): the fields of a code, expansion, the
segment that compression takes, saturation, scaling and sign inversion. -/

namespace Sys2Proof.Machine

/-! ### The fields of a code (R16) -/

theorem codeSegment_lt (c : Code) : codeSegment c < 8 := Nat.mod_lt _ (by decide)

theorem codeStep_lt (c : Code) : codeStep c < 16 := Nat.mod_lt _ (by decide)

theorem codePositive_iff {c : Code} : codePositive c = true ↔ 128 ≤ c.toNat := decide_eq_true_iff

section
variable {p : Bool} {seg step : Nat} (hseg : seg < 8) (hstep : step < 16)
include hseg hstep

theorem toNat_makeCode : (makeCode p seg step).toNat = (if p then 128 else 0) + 16 * seg + step :=
  Nat.mod_eq_of_lt (by split <;> omega)

theorem codePositive_makeCode : codePositive (makeCode p seg step) = p := by
  rw [Bool.eq_iff_iff, codePositive_iff, toNat_makeCode hseg hstep]
  cases p with
  | true => exact iff_of_true (by rw [if_pos rfl]; omega) rfl
  | false => exact iff_of_false (by rw [if_neg nofun]; omega) nofun

theorem codeSegment_makeCode : codeSegment (makeCode p seg step) = seg := by
  rw [codeSegment, toNat_makeCode hseg hstep]
  split <;> omega

theorem codeStep_makeCode : codeStep (makeCode p seg step) = step := by
  rw [codeStep, toNat_makeCode hseg hstep]
  split <;> omega

end

/-- A code is the code with its own fields. -/
theorem makeCode_fields (c : Code) : makeCode (codePositive c) (codeSegment c) (codeStep c) = c := by
  apply BitVec.eq_of_toNat_eq
  rw [toNat_makeCode (codeSegment_lt c) (codeStep_lt c)]
  simp only [codePositive_iff, codeSegment, codeStep]
  split <;> omega

/-! ### Magnitude and expansion (R16, R17) -/

/-- The subtraction in `magnitude` takes nothing below 0. -/
theorem magnitude_add_sixteen (c : Code) : magnitude c + 16 = (codeStep c + 16) * 2 ^ codeSegment c := by
  have hpow : 1 ≤ 2 ^ codeSegment c := Nat.one_le_two_pow
  have hle : 16 * 1 ≤ (codeStep c + 16) * 2 ^ codeSegment c := Nat.mul_le_mul (by omega) hpow
  exact Nat.sub_add_cancel hle

theorem magnitude_le (c : Code) : magnitude c ≤ 3952 := by
  have hpow : 2 ^ codeSegment c ≤ 2 ^ 7 := Nat.pow_le_pow_right (by decide) (Nat.le_of_lt_succ (codeSegment_lt c))
  have hle : (codeStep c + 16) * 2 ^ codeSegment c ≤ 31 * 2 ^ 7 :=
    Nat.mul_le_mul (by have := codeStep_lt c; omega) hpow
  have := magnitude_add_sixteen c
  omega

theorem expand_of_positive {c : Code} (h : codePositive c = true) : expand c = magnitude c := if_pos h

theorem expand_of_negative {c : Code} (h : codePositive c = false) : expand c = -(magnitude c : Int) :=
  if_neg (by simp [h])

theorem natAbs_expand (c : Code) : (expand c).natAbs = magnitude c := by
  cases h : codePositive c with
  | true => rw [expand_of_positive h, Int.natAbs_natCast]
  | false => rw [expand_of_negative h, Int.natAbs_neg, Int.natAbs_natCast]

theorem magnitude_makeCode {p : Bool} {seg step : Nat} (hseg : seg < 8) (hstep : step < 16) :
    (magnitude (makeCode p seg step) : Int) = ((step + 16) * 2 ^ seg : Nat) - 16 := by
  have h := magnitude_add_sixteen (makeCode p seg step)
  rw [codeSegment_makeCode hseg hstep, codeStep_makeCode hseg hstep] at h
  omega

/-- Settles O5: the codes of each segment and step by their fields, the range by the largest magnitude. -/
theorem expansionOfEveryCode : Obligations.ExpansionOfEveryCode := by
  unfold Obligations.ExpansionOfEveryCode
  refine ⟨fun seg hseg step hstep => ⟨?positive, ?negative⟩, fun c => ?range, by decide, by decide, by decide, by decide⟩
  case positive =>
    have hcode : BitVec.ofNat 8 (128 + 16 * seg + step) = makeCode true seg step := rfl
    rw [hcode, expand_of_positive (codePositive_makeCode hseg hstep), magnitude_makeCode hseg hstep]
  case negative =>
    have hcode : BitVec.ofNat 8 (16 * seg + step) = makeCode false seg step := by simp [makeCode, byteOf]
    rw [hcode, expand_of_negative (codePositive_makeCode hseg hstep), magnitude_makeCode hseg hstep]
  case range =>
    have hle := magnitude_le c
    rw [← natAbs_expand c] at hle
    omega

/-! ### The segment that compression takes (R18) -/

theorem segmentOf_le (m : Nat) : ∀ top, segmentOf m top ≤ top
  | 0 => Nat.le_refl 0
  | top + 1 => by
    rw [segmentOf]
    split
    · exact Nat.le_refl _
    · exact Nat.le_succ_of_le (segmentOf_le m top)

theorem segmentOf_fits (m : Nat) : ∀ top, 16 * 2 ^ segmentOf m top ≤ m + 16
  | 0 => by simp [segmentOf]
  | top + 1 => by
    rw [segmentOf]
    split
    next hfits => exact hfits
    next => exact segmentOf_fits m top

theorem le_segmentOf {m k : Nat} (hfits : 16 * 2 ^ k ≤ m + 16) : ∀ {top}, k ≤ top → k ≤ segmentOf m top
  | 0, hk => hk
  | top + 1, hk => by
    rw [segmentOf]
    split
    next => exact hk
    next hno =>
      have hne : k ≠ top + 1 := by rintro rfl; exact hno hfits
      exact le_segmentOf hfits (by omega)

/-- The segment whose magnitudes hold `m` is the one taken. -/
theorem segmentOf_eq {m seg top : Nat} (htop : seg ≤ top) (hfits : 16 * 2 ^ seg ≤ m + 16)
    (hnext : m + 16 < 16 * 2 ^ (seg + 1)) : segmentOf m top = seg := by
  refine Nat.le_antisymm (Nat.le_of_lt_succ ?_) (le_segmentOf hfits htop)
  have hlt : 2 ^ segmentOf m top < 2 ^ (seg + 1) := by
    have := segmentOf_fits m top
    omega
  exact (Nat.pow_lt_pow_iff_right (by decide)).1 hlt

/-- A saturated magnitude is below the smallest one of the segment after the one taken. -/
theorem lt_segmentOf_succ {m : Nat} (hm : m ≤ 3952) : m + 16 < 16 * 2 ^ (segmentOf m 7 + 1) := by
  by_contra hge
  have hfits : 16 * 2 ^ (segmentOf m 7 + 1) ≤ m + 16 := Nat.le_of_not_lt hge
  rcases Nat.lt_or_ge (segmentOf m 7) 7 with hlt | htop
  · have := le_segmentOf hfits hlt
    omega
  · rw [Nat.le_antisymm (segmentOf_le m 7) htop] at hfits
    omega

/-- The step and its offset 16, the whole number of the segment's steps in a saturated magnitude. -/
theorem steps_in_segment {m : Nat} (hm : m ≤ 3952) :
    16 ≤ (m + 16) / 2 ^ segmentOf m 7 ∧ (m + 16) / 2 ^ segmentOf m 7 < 32 := by
  have hpos : 0 < 2 ^ segmentOf m 7 := Nat.two_pow_pos _
  have hnext := lt_segmentOf_succ hm
  rw [Nat.pow_succ] at hnext
  exact ⟨(Nat.le_div_iff_mul_le hpos).2 (segmentOf_fits m 7), (Nat.div_lt_iff_lt_mul hpos).2 (by omega)⟩

/-! ### Compression (R18, R19) -/

theorem compress_eq (x : Int) : compress x = makeCode (decide (0 ≤ x)) (segmentOf x.natAbs 7)
    ((x.natAbs + 16) / 2 ^ segmentOf x.natAbs 7 - 16) := rfl

section
variable {x : Int} (hx : x.natAbs ≤ 3952)
include hx

theorem compress_fields : segmentOf x.natAbs 7 < 8 ∧ (x.natAbs + 16) / 2 ^ segmentOf x.natAbs 7 - 16 < 16 := by
  have := segmentOf_le x.natAbs 7
  have := steps_in_segment hx
  omega

theorem codePositive_compress : codePositive (compress x) = decide (0 ≤ x) :=
  codePositive_makeCode (compress_fields hx).1 (compress_fields hx).2

/-- Compression takes whole steps of the segment: the multiple of the step at or below. -/
theorem magnitude_compress_add_sixteen : magnitude (compress x) + 16 =
    (x.natAbs + 16) / 2 ^ segmentOf x.natAbs 7 * 2 ^ segmentOf x.natAbs 7 := by
  obtain ⟨hseg, hstep⟩ := compress_fields hx
  rw [magnitude_add_sixteen, compress_eq, codeSegment_makeCode hseg hstep, codeStep_makeCode hseg hstep,
    Nat.sub_add_cancel (steps_in_segment hx).1]

theorem magnitude_compress_le : magnitude (compress x) ≤ x.natAbs := by
  have hsteps := magnitude_compress_add_sixteen hx
  have := Nat.div_mul_le_self (x.natAbs + 16) (2 ^ segmentOf x.natAbs 7)
  omega

theorem lt_magnitude_compress_add : x.natAbs < magnitude (compress x) + 2 ^ segmentOf x.natAbs 7 := by
  have hsteps := magnitude_compress_add_sixteen hx
  have := Nat.lt_div_mul_add (a := x.natAbs + 16) (Nat.two_pow_pos (segmentOf x.natAbs 7))
  omega

end

/-- The segment taken for the magnitude of a code is the code's own. -/
theorem segmentOf_magnitude (c : Code) : segmentOf (magnitude c) 7 = codeSegment c := by
  have hsteps := magnitude_add_sixteen c
  have hstep := codeStep_lt c
  refine segmentOf_eq (Nat.le_of_lt_succ (codeSegment_lt c)) ?_ ?_
  · rw [hsteps]
    exact Nat.mul_le_mul_right _ (by omega)
  · rw [hsteps, Nat.pow_succ', ← Nat.mul_assoc]
    exact Nat.mul_lt_mul_of_pos_right (by omega) (Nat.two_pow_pos _)

/-- R19: compression gives back segment and step, and the sign as that of the value. -/
theorem compress_expand_eq_makeCode (c : Code) :
    compress (expand c) = makeCode (decide (0 ≤ expand c)) (codeSegment c) (codeStep c) := by
  rw [compress_eq, natAbs_expand, segmentOf_magnitude, magnitude_add_sixteen,
    Nat.mul_div_cancel _ (Nat.two_pow_pos _), Nat.add_sub_cancel]

/-- Negative zero is the only code of a negative sign whose value is not below 0. -/
theorem expand_lt_zero_of_negative {c : Code} (hc : codePositive c = false) (h0 : c ≠ 0x00) : expand c < 0 := by
  have hpos : 0 < magnitude c := by
    refine Nat.pos_of_ne_zero fun hzero => h0 ?_
    have hsteps := magnitude_add_sixteen c
    have hseg : codeSegment c = 0 := by rw [← segmentOf_magnitude, hzero]; rfl
    have hstep : codeStep c = 0 := by
      rw [hzero, hseg] at hsteps
      omega
    rw [← makeCode_fields c, hc, hseg, hstep]
    rfl
  rw [expand_of_negative hc]
  omega

theorem compress_expand {c : Code} (h0 : c ≠ 0x00) : compress (expand c) = c := by
  have hsign : decide (0 ≤ expand c) = codePositive c := by
    cases hc : codePositive c with
    | true =>
      rw [expand_of_positive hc]
      exact decide_eq_true (Int.natCast_nonneg _)
    | false => exact decide_eq_false (Int.not_le.2 (expand_lt_zero_of_negative hc h0))
  rw [compress_expand_eq_makeCode, hsign, makeCode_fields]

/-! ### Saturation (R23) -/

theorem saturate_of_above {y : Int} (h : 3952 < y) : saturate y = (3952, true) := if_pos h

theorem saturate_of_below {y : Int} (h : y < -3952) : saturate y = (-3952, true) := by
  rw [saturate, if_neg (by omega), if_pos h]

theorem saturate_of_within {y : Int} (h : y.natAbs ≤ 3952) : saturate y = (y, false) := by
  rw [saturate, if_neg (by omega), if_neg (by omega)]

/-- The three cases of a value before saturation. -/
theorem above_or_below_or_within (y : Int) : 3952 < y ∨ y < -3952 ∨ y.natAbs ≤ 3952 := by omega

theorem natAbs_saturate_le (y : Int) : (saturate y).1.natAbs ≤ 3952 := by
  obtain h | h | h := above_or_below_or_within y
  · simp [saturate_of_above h]
  · simp [saturate_of_below h]
  · rwa [saturate_of_within h]

theorem saturate_clipped_iff (y : Int) : (saturate y).2 = true ↔ 3952 < y.natAbs := by
  obtain h | h | h := above_or_below_or_within y
  · exact iff_of_true (congrArg Prod.snd (saturate_of_above h)) (by omega)
  · exact iff_of_true (congrArg Prod.snd (saturate_of_below h)) (by omega)
  · rw [saturate_of_within h]
    exact iff_of_false nofun (Nat.not_lt.2 h)

/-- Settles O6: the segment is the one that `segmentOf` finds, and the whole number of its steps gives the rest. -/
theorem compressionTruncatesAndRestores : Obligations.CompressionTruncatesAndRestores := by
  unfold Obligations.CompressionTruncatesAndRestores
  refine ⟨fun x hx => ?truncates, fun c => ?restores, fun y => ?saturates⟩
  case truncates =>
    have hsteps := steps_in_segment hx
    have hslack := lt_magnitude_compress_add hx
    exact ⟨segmentOf x.natAbs 7, segmentOf_le _ 7, segmentOf_fits _ 7, fun _ hk hfits => le_segmentOf hfits hk,
      hsteps.1, by omega, compress_eq x, codePositive_compress hx, magnitude_compress_le hx,
      Nat.sub_le_iff_le_add'.2 hslack.le, by rintro rfl; rfl, natAbs_saturate_le⟩
  case restores =>
    split
    next h0 => subst h0; rfl
    next h0 => exact compress_expand h0
  case saturates =>
    exact ⟨fun h => congrArg Prod.fst (saturate_of_above h), fun h => congrArg Prod.fst (saturate_of_below h),
      fun h => congrArg Prod.fst (saturate_of_within h), saturate_clipped_iff y⟩

/-! ### Scaling by a multiplier (R21, R22) -/

theorem natAbs_scale {x : Int} (m : Nat) (hx : x ≠ 0) : (scale x m).natAbs = (x.natAbs * m + 2048) / 4096 := by
  rw [scale, Int.natAbs_mul, Int.natAbs_sign_of_ne_zero hx, Nat.one_mul, Int.natAbs_natCast]

theorem scale_neg (x : Int) (m : Nat) : scale (-x) m = -scale x m := by
  simp [scale]

theorem scale_nonneg {x : Int} (m : Nat) (hx : 0 ≤ x) : 0 ≤ scale x m :=
  Int.mul_nonneg (Int.sign_nonneg_iff.2 hx) (Int.natCast_nonneg _)

theorem scale_nonpos {x : Int} (m : Nat) (hx : x ≤ 0) : scale x m ≤ 0 := by
  have := scale_nonneg m (Int.neg_nonneg_of_nonpos hx)
  rw [scale_neg] at this
  omega

theorem scale_unity (x : Int) : scale x 4096 = x := by
  have hround : (x.natAbs * 4096 + 2048) / 4096 = x.natAbs := by omega
  rw [scale, hround, Int.sign_mul_natAbs]

/-- R22: the whole number nearest to `x.natAbs * m / 4096`, an exact half rounded up. -/
theorem scale_rounds {x : Int} (m : Nat) (hx : x ≠ 0) :
    (scale x m).natAbs * 4096 ≤ x.natAbs * m + 2048 ∧ x.natAbs * m + 2048 < ((scale x m).natAbs + 1) * 4096 := by
  rw [natAbs_scale m hx]
  omega

theorem scale_ne_zero {x : Int} {m : Nat} (hx : x ≠ 0) (hm : 2048 ≤ m) : scale x m ≠ 0 := by
  intro hzero
  have hlt := (scale_rounds m hx).2
  rw [hzero] at hlt
  have hle : m ≤ x.natAbs * m := Nat.le_mul_of_pos_left m (Int.natAbs_pos.2 hx)
  omega

/-- R21: every multiplier is above one half. -/
theorem half_lt_multiplier {g : Int} (hlow : -6 ≤ g) (hhigh : g ≤ 6) : 2048 < multiplier g := by
  interval_cases g <;> decide

/-- Settles O7: the formula by the sign of the value, the rest by the lemmas on `scale` and the table. -/
theorem scalingRoundsHalfAwayFromZero : Obligations.ScalingRoundsHalfAwayFromZero := by
  unfold Obligations.ScalingRoundsHalfAwayFromZero
  refine ⟨fun x m => ?formula, fun _ m => scale_rounds m,
    fun x m => ⟨scale_nonneg m, scale_nonpos m, scale_neg x m⟩, scale_unity, by decide,
    fun _ => half_lt_multiplier,
    fun _ _ hlow hhigh hx => scale_ne_zero hx (half_lt_multiplier hlow hhigh).le, by decide⟩
  case formula =>
    have hsign : x.sign = if 0 < x then 1 else if x < 0 then -1 else 0 := by
      obtain h | rfl | h := lt_trichotomy x 0
      · rw [Int.sign_eq_neg_one_of_neg h, if_neg (by omega), if_pos h]
      · rfl
      · rw [Int.sign_eq_one_of_pos h, if_pos h]
    rw [scale, hsign]

/-! ### Sign inversion (R27) -/

/-- Flipping bit 7 adds 128 modulo 256. -/
theorem invertSign_eq_add (c : Code) : invertSign c = c + 0x80 := by
  revert c
  decide

theorem toNat_invertSign (c : Code) : (invertSign c).toNat = (c.toNat + 128) % 256 := by
  rw [invertSign_eq_add, BitVec.toNat_add]
  rfl

@[simp] theorem codePositive_invertSign (c : Code) : codePositive (invertSign c) = !codePositive c := by
  rw [Bool.eq_iff_iff, codePositive_iff, toNat_invertSign, Bool.not_eq_true', ← Bool.not_eq_true, codePositive_iff]
  omega

@[simp] theorem codeSegment_invertSign (c : Code) : codeSegment (invertSign c) = codeSegment c := by
  rw [codeSegment, toNat_invertSign, codeSegment]
  omega

@[simp] theorem codeStep_invertSign (c : Code) : codeStep (invertSign c) = codeStep c := by
  rw [codeStep, toNat_invertSign, codeStep]
  omega

@[simp] theorem magnitude_invertSign (c : Code) : magnitude (invertSign c) = magnitude c := by
  simp [magnitude]

@[simp] theorem expand_invertSign (c : Code) : expand (invertSign c) = -expand c := by
  cases h : codePositive c with
  | true => rw [expand_of_negative (by simp [h]), magnitude_invertSign, expand_of_positive h]
  | false => rw [expand_of_positive (by simp [h]), magnitude_invertSign, expand_of_negative h, Int.neg_neg]

@[simp] theorem invertSign_invertSign (c : Code) : invertSign (invertSign c) = c := by
  rw [invertSign, invertSign, BitVec.xor_assoc, BitVec.xor_self, BitVec.xor_zero]

/-- Settles O8: field by field. -/
theorem signInversionTwiceRestores : Obligations.SignInversionTwiceRestores := by
  unfold Obligations.SignInversionTwiceRestores
  exact fun c => ⟨codePositive_invertSign c, codeSegment_invertSign c, codeStep_invertSign c, magnitude_invertSign c,
    expand_invertSign c, invertSign_invertSign c, rfl, rfl⟩

end Sys2Proof.Machine
end

section
/-! PROOFS. The key wheel (R29, R30), and the block arrangements of the permutation numbers (R32): each number stands
for a permutation of the eight positions, the product of its swaps. -/

namespace Sys2Proof.Machine

/-! ### The wheel (R29, R30) -/

theorem toNat_epochSeed (k : Key) (e : Half) :
    (epochSeed k e).toNat = k.hi.toNat ^^^ (e.toNat * 257 % 2 ^ 24) := by
  rw [epochSeed, BitVec.toNat_xor, BitVec.toNat_ofNat]

theorem toNat_wheelStep (k : Key) (v : WheelWord) :
    (wheelStep k v).toNat = (v.toNat * 5 + (k.lo.toNat ||| 1)) % 2 ^ 24 := by
  rw [wheelStep, BitVec.toNat_add, BitVec.toNat_mul, BitVec.toNat_or, Nat.mod_add_mod]
  rfl

theorem wheelSteps_eq_iterate (k : Key) (n : Nat) (v : WheelWord) : wheelSteps k n v = (wheelStep k)^[n] v := by
  induction n generalizing v with
  | zero => rfl
  | succ n ih => rw [wheelSteps, ih, Function.iterate_succ_apply]

theorem blockValue_eq_iterate (k : Key) (e : Half) (b : Nat) :
    blockValue k e b = (wheelStep k)^[b + 1] (epochSeed k e) :=
  wheelSteps_eq_iterate k (b + 1) _

theorem blockValue_zero (k : Key) (e : Half) : blockValue k e 0 = wheelStep k (epochSeed k e) := rfl

theorem blockValue_succ (k : Key) (e : Half) (b : Nat) : blockValue k e (b + 1) = wheelStep k (blockValue k e b) := by
  rw [blockValue_eq_iterate, blockValue_eq_iterate, Function.iterate_succ_apply']

/-- Settles O10: the words as numbers, and the block values as iterates of the step. -/
theorem wheelStepsThroughTheEpoch : Obligations.WheelStepsThroughTheEpoch := by
  unfold Obligations.WheelStepsThroughTheEpoch
  exact ⟨toNat_epochSeed, toNat_wheelStep, blockValue_zero, blockValue_succ, blockValue_eq_iterate⟩

/-! ### One swap of codes (R32) -/

theorem getElem_swapCodes_right (b : Block) (i j : Position) : (swapCodes b (i, j))[j] = b[i] :=
  Vector.getElem_set_self j.isLt

theorem getElem_swapCodes_of_ne (b : Block) {i j k : Position} (hi : k ≠ i) (hj : k ≠ j) :
    (swapCodes b (i, j))[k] = b[k] :=
  (Vector.getElem_set_ne j.isLt k.isLt (Fin.val_ne_of_ne hj.symm)).trans
    (Vector.getElem_set_ne i.isLt k.isLt (Fin.val_ne_of_ne hi.symm))

theorem getElem_swapCodes_left (b : Block) (i j : Position) : (swapCodes b (i, j))[i] = b[j] := by
  obtain rfl | hij := eq_or_ne i j
  · exact getElem_swapCodes_right b i i
  · exact (Vector.getElem_set_ne j.isLt i.isLt (Fin.val_ne_of_ne hij.symm)).trans (Vector.getElem_set_self i.isLt)

/-! ### Blocks rearranged by a permutation of the positions -/

/-- The block whose position `i` holds what position `σ i` of `b` holds. -/
def permuted (σ : Equiv.Perm Position) (b : Block) : Block := Vector.ofFn fun i => b[σ i]

theorem getElem_permuted (σ : Equiv.Perm Position) (b : Block) (i : Position) :
    (permuted σ b)[i] = b[σ i] := by
  simp [permuted]

theorem block_ext {b b' : Block} (h : ∀ i : Position, b[i] = b'[i]) : b = b' :=
  Vector.ext fun i hi => h ⟨i, hi⟩

theorem permuted_one (b : Block) : permuted 1 b = b :=
  block_ext fun i => getElem_permuted 1 b i

theorem permuted_permuted (σ τ : Equiv.Perm Position) (b : Block) :
    permuted τ (permuted σ b) = permuted (σ * τ) b :=
  block_ext fun i => by simp only [getElem_permuted, Equiv.Perm.mul_apply]

theorem swapCodes_eq_permuted (b : Block) (i j : Position) : swapCodes b (i, j) = permuted (Equiv.swap i j) b := by
  refine block_ext fun k => ?_
  rw [getElem_permuted]
  by_cases hi : k = i
  · subst hi
    simp only [getElem_swapCodes_left, Equiv.swap_apply_left]
  · by_cases hj : k = j
    · subst hj
      simp only [getElem_swapCodes_right, Equiv.swap_apply_right]
    · simp only [getElem_swapCodes_of_ne b hi hj, Equiv.swap_apply_of_ne_of_ne hi hj]

/-! ### The permutation of a list of swaps (R32) -/

/-- The product of the swaps, the first swap made standing leftmost. -/
def swapsPerm (swaps : List (Position × Position)) : Equiv.Perm Position :=
  (swaps.map fun ij => Equiv.swap ij.1 ij.2).prod

theorem swapsPerm_cons (i j : Position) (swaps : List (Position × Position)) :
    swapsPerm ((i, j) :: swaps) = Equiv.swap i j * swapsPerm swaps := by
  simp [swapsPerm]

theorem foldl_swapCodes (swaps : List (Position × Position)) (b : Block) :
    swaps.foldl swapCodes b = permuted (swapsPerm swaps) b := by
  induction swaps generalizing b with
  | nil => exact (permuted_one b).symm
  | cons ij swaps ih =>
    rw [List.foldl_cons, ih, swapCodes_eq_permuted, permuted_permuted, ← swapsPerm_cons]

theorem arrange_eq_permuted (p : Nat) (b : Block) : arrange p b = permuted (swapsPerm (swapsOf p)) b :=
  foldl_swapCodes _ b

/-! ### The number is read off its permutation, digit by digit -/

theorem val_digit {pos : Nat} (p : Nat) (hpos : pos + 1 < 8) :
    (Fin.ofNat 8 (p % (pos + 2))).val = p % (pos + 2) :=
  Nat.mod_eq_of_lt ((Nat.mod_lt p (Nat.succ_pos _)).trans_le hpos)

/-- The swaps for positions up to `pos` leave every later position alone. -/
theorem swapsPerm_swapsFrom_of_lt {pos : Nat} {k : Position} (p : Nat) (hk : pos < k) :
    swapsPerm (swapsFrom pos p) k = k := by
  induction pos generalizing p with
  | zero => rfl
  | succ pos ih =>
    have hpos : pos + 1 < 8 := hk.trans k.isLt
    have hfirst : k ≠ Fin.ofNat 8 (pos + 1) := by
      rw [ne_eq, Fin.ext_iff, Fin.val_ofNat]
      omega
    have hsecond : k ≠ Fin.ofNat 8 (p % (pos + 2)) := by
      have : p % (pos + 2) < pos + 2 := Nat.mod_lt p (Nat.succ_pos _)
      rw [ne_eq, Fin.ext_iff, val_digit p hpos]
      omega
    rw [swapsFrom, swapsPerm_cons, Equiv.Perm.mul_apply, ih _ (by omega), Equiv.swap_apply_of_ne_of_ne hfirst hsecond]

/-- The permutation takes the highest position to the lowest digit of the number. -/
theorem swapsPerm_swapsFrom_last {pos : Nat} (p : Nat) (hpos : pos + 1 < 8) :
    swapsPerm (swapsFrom (pos + 1) p) (Fin.ofNat 8 (pos + 1)) = Fin.ofNat 8 (p % (pos + 2)) := by
  have hlast : pos < (Fin.ofNat 8 (pos + 1)).val := by
    rw [Fin.val_ofNat]
    omega
  rw [swapsFrom, swapsPerm_cons, Equiv.Perm.mul_apply, swapsPerm_swapsFrom_of_lt _ hlast, Equiv.swap_apply_left]

theorem swapsFrom_inj {pos p q : Nat} (hpos : pos < 8) (hp : p < (pos + 1).factorial) (hq : q < (pos + 1).factorial)
    (h : swapsPerm (swapsFrom pos p) = swapsPerm (swapsFrom pos q)) : p = q := by
  induction pos generalizing p q with
  | zero => simp at hp hq; omega
  | succ pos ih =>
    have hdigit : p % (pos + 2) = q % (pos + 2) := by
      rw [← val_digit p hpos, ← val_digit q hpos, ← swapsPerm_swapsFrom_last p hpos, h,
        swapsPerm_swapsFrom_last q hpos]
    have hrest : p / (pos + 2) = q / (pos + 2) := by
      rw [swapsFrom, swapsFrom, swapsPerm_cons, swapsPerm_cons, hdigit] at h
      exact ih (by omega) (Nat.div_lt_of_lt_mul hp) (Nat.div_lt_of_lt_mul hq) (mul_left_cancel h)
    rw [← Nat.div_add_mod p (pos + 2), hdigit, hrest, Nat.div_add_mod]

theorem swapsOf_inj {p q : Nat} (hp : p < 40320) (hq : q < 40320)
    (h : swapsPerm (swapsOf p) = swapsPerm (swapsOf q)) : p = q :=
  swapsFrom_inj (pos := 7) (by decide) hp hq h

/-- There are as many permutations of the positions as numbers, so each is some number's. -/
theorem exists_swapsOf (σ : Equiv.Perm Position) : ∃ p < 40320, swapsPerm (swapsOf p) = σ := by
  have hinj : Function.Injective fun p : Fin 40320 => swapsPerm (swapsOf p) :=
    fun p q h => Fin.ext (swapsOf_inj p.isLt q.isLt h)
  have hcard : Fintype.card (Fin 40320) = Fintype.card (Equiv.Perm Position) := by
    rw [Fintype.card_perm, Fintype.card_fin, Fintype.card_fin]
    rfl
  obtain ⟨p, hp⟩ := ((Fintype.bijective_iff_injective_and_card _).2 ⟨hinj, hcard⟩).2 σ
  exact ⟨p, p.isLt, hp⟩

/-! ### Arrangements of the arrival order -/

theorem getElem_arrivalOrder (i : Position) : arrivalOrder[i] = BitVec.ofNat 8 i := by
  revert i
  decide

theorem permuted_arrivalOrder_inj {σ τ : Equiv.Perm Position} (h : permuted σ arrivalOrder = permuted τ arrivalOrder) :
    σ = τ := by
  refine Equiv.ext fun i => Fin.ext ?_
  have hi := congrArg (fun b : Block => b[i].toNat) h
  simp only [getElem_permuted, getElem_arrivalOrder, BitVec.toNat_ofNat] at hi
  omega

theorem arrange_arrivalOrder_inj {p q : Nat} (hp : p < 40320) (hq : q < 40320)
    (h : arrange p arrivalOrder = arrange q arrivalOrder) : p = q := by
  rw [arrange_eq_permuted, arrange_eq_permuted] at h
  exact swapsOf_inj hp hq (permuted_arrivalOrder_inj h)

/-- A block with the codes of the arrival order holds each once, so its codes are the permutation. -/
theorem exists_permuted_of_perm {b : Block} (h : b.toList.Perm arrivalOrder.toList) :
    ∃ σ, permuted σ arrivalOrder = b := by
  have hcode : ∀ i : Position, b[i].toNat < 8 := by
    have hall : ∀ c ∈ arrivalOrder.toList, c.toNat < 8 := by decide
    exact fun i => hall _ (h.subset (by simp))
  have hnodup : b.toList.Nodup := h.nodup_iff.2 (by decide)
  have hinj : Function.Injective fun i : Position => (⟨b[i].toNat, hcode i⟩ : Position) := by
    intro i j hij
    have hcodes : b[i] = b[j] := BitVec.eq_of_toNat_eq (congrArg (fun k : Position => k.val) hij)
    exact Fin.ext ((hnodup.getElem_inj_iff (hi := by simp) (hj := by simp)).1 (by simpa using hcodes))
  refine ⟨Equiv.ofBijective _ (Finite.injective_iff_bijective.1 hinj), block_ext fun i => ?_⟩
  rw [getElem_permuted, getElem_arrivalOrder, Equiv.ofBijective_apply, BitVec.ofNat_toNat, BitVec.setWidth_eq]

theorem exists_arrange_of_perm {b : Block} (h : b.toList.Perm arrivalOrder.toList) :
    ∃ p < 40320, arrange p arrivalOrder = b := by
  obtain ⟨σ, rfl⟩ := exists_permuted_of_perm h
  obtain ⟨p, hp, rfl⟩ := exists_swapsOf σ
  exact ⟨p, hp, arrange_eq_permuted p arrivalOrder⟩

theorem arrange_last_arrivalOrder : arrange 40319 arrivalOrder = arrivalOrder := by decide

/-- Settles O11: the swaps as transpositions, the rest by the permutation that each number stands for. 40319 alone gives
the arrival order, since it does and no two numbers give the same. -/
theorem permutationNumbersAndArrangements : Obligations.PermutationNumbersAndArrangements := by
  unfold Obligations.PermutationNumbersAndArrangements
  refine ⟨fun p b => ?swaps, fun b i j => ⟨getElem_swapCodes_left b i j,
    getElem_swapCodes_right b i j, fun _ => getElem_swapCodes_of_ne b⟩, fun _ _ => arrange_arrivalOrder_inj,
    fun _ => exists_arrange_of_perm, fun p hp => ⟨fun h => ?last, fun h => h ▸ arrange_last_arrivalOrder⟩⟩
  case swaps =>
    simp only [arrange, swapsOf, swapsFrom, List.foldl_cons, List.foldl_nil, Nat.div_div_eq_div_mul]
    rfl
  case last => exact arrange_arrivalOrder_inj hp (by decide) (h.trans arrange_last_arrivalOrder.symm)

end Sys2Proof.Machine
end

section
/-! PROOFS. The reads (R69, R70, R93, R109, R160): the bytes of their replies in the terms of section 12.7, and what
their options clear. -/

namespace Sys2Proof.Machine

/-! ### Bits and digits in a byte (section 12.7) -/

/-- The number whose bit `i` is set where the `i`-th field is present. -/
def presenceSum (present : List Bool) : Nat := (present.zipIdx.map fun p => if p.1 then 2 ^ p.2 else 0).sum

theorem presenceSum_nil : presenceSum [] = 0 := rfl

theorem presenceSum_cons (b : Bool) (rest : List Bool) : presenceSum (b :: rest) = 2 * presenceSum rest + b.toNat := by
  have hshift : (fun p : Bool × Nat => if p.1 then 2 ^ p.2 else 0) ∘ Prod.map id (· + 1) =
      fun p => 2 * if p.1 then 2 ^ p.2 else 0 := by
    funext ⟨b, i⟩
    cases b
    · rfl
    · exact pow_succ' 2 i
  rw [presenceSum, List.zipIdx_cons', List.map_cons, List.map_map, hshift, List.sum_cons, List.sum_map_mul_left,
    add_comm, presenceSum]
  cases b <;> rfl

theorem byteOf_twice_add (n : Nat) (b : Bool) : byteOf (2 * (byteOf n).toNat + b.toNat) = byteOf (2 * n + b.toNat) := by
  refine BitVec.eq_of_toNat_eq ?_
  simp only [byteOf, BitVec.toNat_ofNat]
  omega

theorem presenceByte_eq_byteOf (present : List Bool) : presenceByte present = byteOf (presenceSum present) := by
  induction present with
  | nil => rfl
  | cons b rest ih => rw [presenceByte, List.foldr_cons, ← presenceByte, ih, byteOf_twice_add, presenceSum_cons]

theorem ExtClass.value_eq_byteOf (c : ExtClass) :
    c.value = byteOf (presenceSum [c.mayScramble, c.mayConference, c.refresh]) := by
  simp only [ExtClass.value, presenceSum_cons, presenceSum_nil]
  congr 1
  omega

theorem byteOf_two_flags (a b : Bool) : byteOf (a.toNat + 2 * b.toNat) = byteOf (presenceSum [a, b]) := by
  simp only [presenceSum_cons, presenceSum_nil]
  congr 1
  omega

theorem byteOf_two_digits (a b : BitVec 4) : byteOf (a.toNat * 16 + b.toNat) = a ++ b := by
  refine BitVec.eq_of_toNat_eq ?_
  rw [BitVec.toNat_append, ← Nat.shiftLeft_add_eq_or_of_lt b.isLt, Nat.shiftLeft_eq, byteOf, BitVec.toNat_ofNat]
  omega

theorem numberBytes_eq (n : ExtNumber) : numberBytes n =
    [byteOf n.length, n.getD 0 0xF ++ n.getD 1 0xF, n.getD 2 0xF ++ n.getD 3 0xF, n.getD 4 0xF ++ n.getD 5 0xF] := by
  simp only [numberBytes, byteOf_two_digits]

/-! ### The bytes of fields that may be absent (section 12.7) -/

theorem getD_map_toNat (o : Option Half) : (o.map (·.toNat)).getD 0 = (o.getD 0).toNat := by
  cases o <;> rfl

theorem ConfNo.getD_byteOf (o : Option ConfNo) :
    ((o >>= fun c => pure c.val).map byteOf).getD 0 = match o with | some c => byteOf c | none => 0 := by
  cases o <;> rfl

theorem HoldReason.getD_value (o : Option HoldReason) :
    (o.map (·.value)).getD 0 = match o with | some (.key _) => 1 | some .farCleared => 2 | _ => 0 := by
  obtain _ | _ | _ | _ := o <;> rfl

theorem CloseCause.getD_value (o : Option CloseCause) :
    (o.map (·.value)).getD 0 = match o with | some .fault => 1 | _ => 0 := by
  obtain _ | _ | _ := o <;> rfl

/-! ### Lookups and counts the reads report (R109, R146) -/

theorem State.lookup_nextAt {s : State} {h k : Handle} {r : ExtRecord} (hr : s.record h = some r) (hk : k ≤ h)
    (hbefore : ∀ j : Handle, k ≤ j → j < h → s.record j = none) : s.lookup (.nextAt k) = some h := by
  refine firstPlace_eq_some (by simp [hk, hr]) fun j hj => ?_
  by_cases hkj : k ≤ j
  · simp [hbefore j hkj hj]
  · simp [hkj]

theorem State.length_membersOf (s : State) (c : ConfNo) :
    (s.membersOf c).length = match s.confs[c] with | some k => k.members.length | none => 0 := by
  unfold State.membersOf
  cases s.confs[c] <;> rfl

/-! ### What a read answers and clears (R69, R70, R93, R160) -/

theorem readLeg_free {s : State} {n : LegNo} (o : Bool) (h : s.legs[n] = none) :
    readLeg (n, o) s = (s, .now .ok [0]) := by
  simp [readLeg, h, okay]

theorem readLeg_leg {s : State} {n : LegNo} {l : Leg} (o : Bool) (h : s.legs[n] = some l) : readLeg (n, o) s =
    ({ s with legs := if o then s.legs.set n (some l.clearCounters) else s.legs }, .now .ok l.report) := by
  cases o <;> simp [readLeg, h, okay, State.setLeg]

theorem readConf_free {s : State} {c : ConfNo} (o : Bool) (h : s.confs[c] = none) :
    readConf (c, o) s = (s, .now .ok [byteOf s.freePlaces, 0]) := by
  simp [readConf, h, okay]

theorem readConf_conf {s : State} {c : ConfNo} {k : Conf} (o : Bool) (h : s.confs[c] = some k) : readConf (c, o) s =
    ({ s with confs := if o then s.confs.set c (some { k with clippedBlocks := 0 }) else s.confs },
      .now .ok (byteOf s.freePlaces :: k.report)) := by
  cases o <;> simp [readConf, h, okay, State.setConf]

theorem parseOpt_bitByte (o : Bool) : parseOpt [bitByte o] = some o := by
  cases o <;> rfl

/-- Settles O30: each reply body of the statement is the report of the record (the fields that decide where bytes stand
split, the others byte for byte), and each read answers with that report. -/
theorem readsReportAndClear : Obligations.ReadsReportAndClear := by
  unfold Obligations.ReadsReportAndClear
  intro bits legBody extBody confBody
  have hleg : ∀ l, l.report = legBody l := by
    intro l
    simp only [Leg.report, presenceByte_eq_byteOf, byteOf_two_flags, HoldReason.getD_value, CloseCause.getD_value,
      ConfNo.getD_byteOf, getD_map_toNat]
    dsimp only [legBody, bits]
    cases l.announced <;> cases l.pendingKey <;> simp only [bytes16, List.cons_append, List.nil_append] <;> rfl
  have hext : ∀ h r count limit, r.report h count limit = extBody h r count limit := by
    intro h r count limit
    simp only [ExtRecord.report, presenceByte_eq_byteOf, ExtClass.value_eq_byteOf, numberBytes_eq]
    dsimp only [extBody, bits]
    cases r.state <;>
      simp only [Admission.nonce?, Admission.answer?, Option.map_none, Option.getD_none, bytes32, bytes16,
        List.cons_append, List.nil_append] <;> rfl
  have hconf : ∀ k, k.report = confBody k := by
    intro k
    rw [Conf.report]
    dsimp only [confBody]
    cases k.chair <;> rfl
  refine ⟨fun a => by cases a <;> rfl, fun s hs => ?_⟩
  intro records free
  have hfree : s.freePlaces = free := by
    simp only [State.freePlaces, State.length_membersOf]
    rfl
  refine ⟨fun body n o ha hl => exec_legRead_now hs ha (readLeg_free o hl), fun body n o l ha hl => ?leg,
    fun o => exec_trunkRead_now hs (parseOpt_bitByte o) rfl, fun body ref h r ha hl hr => ?ext,
    fun body ref => exec_extRead_missing hs, fun h k r => State.lookup_nextAt, fun body c o ha hc => ?confFree,
    fun body c o k ha hc => ?conf⟩
  case leg => exact hleg l ▸ exec_legRead_now hs ha (readLeg_leg o hl)
  case ext => exact hext h r _ _ ▸ exec_extRead_now hs ha hl hr rfl
  case confFree => exact hfree ▸ exec_confRead_now hs ha (readConf_free o hc)
  case conf => exact hfree ▸ hconf k ▸ exec_confRead_now hs ha (readConf_conf o hc)

end Sys2Proof.Machine
end

section
/-! PROOFS. EXT_SUSPEND, EXT_RESUME, EXT_UNBAR and EXT_REVOKE (R110 to R112) of a record that is not admitted: what each
makes of the record and answers, by the record's state. -/

namespace Sys2Proof.Machine

section
variable {s : State} {h : Handle} {r : ExtRecord}

/-! ### A record changed at its handle -/

theorem State.updateRecord_of_record (hr : s.record h = some r) (f : ExtRecord → ExtRecord) :
    s.updateRecord h f = s.setRecord h (some (f r)) := by
  have hget : s.ext.records[h] = some r := hr
  simp only [State.updateRecord, State.setRecord, hget, Option.map_some]

theorem State.setAdmission_of_record (hr : s.record h = some r) (a : Admission) :
    s.setAdmission h a = s.setRecord h (some { r with state := a }) :=
  State.updateRecord_of_record hr _

/-! ### EXT_SUSPEND (R110) -/

theorem suspendExt_of_idle_or_challenged (hr : s.record h = some r)
    (hst : r.state = .idle ∨ ∃ k n t, r.state = .challenged k n t) :
    suspendExt h r s = (s.setRecord h (some { r with state := .suspended }), .now .ok [r.state.value]) := by
  obtain hst | ⟨k, n, t, hst⟩ := hst <;> simp only [suspendExt, hst, okay, State.setAdmission_of_record hr]

theorem suspendExt_of_suspended (hst : r.state = .suspended) : suspendExt h r s = (s, .now .ok [5]) := by
  simp only [suspendExt, hst, okay, Admission.value]

theorem suspendExt_of_barred (hr : s.record h = some r) {t : Nat} (hst : r.state = .barred t) : suspendExt h r s =
    (s.setRecord h (some { r with state := .suspended, failures := s.params.failureLimit - 1 }), .now .ok [4]) := by
  simp only [suspendExt, hst, okay, State.updateRecord_of_record hr, Admission.value]

/-! ### EXT_RESUME and EXT_UNBAR (R111) -/

theorem resumeExt_of_suspended (hr : s.record h = some r) (hst : r.state = .suspended) :
    resumeExt h r s = (s.setRecord h (some { r with state := .idle }), .now .ok []) := by
  simp only [resumeExt, hst, okay, State.setAdmission_of_record hr]

theorem resumeExt_of_not_suspended (hst : r.state ≠ .suspended) : resumeExt h r s = (s, .now .state []) := by
  unfold resumeExt
  split
  case h_1 hsusp => exact absurd hsusp hst
  case h_2 => rfl

theorem unbarExt_of_barred (hr : s.record h = some r) {t : Nat} (hst : r.state = .barred t) :
    unbarExt h r s = (s.setRecord h (some { r with state := .idle, failures := 0 }), .now .ok []) := by
  simp only [unbarExt, hst, okay, State.updateRecord_of_record hr]

theorem unbarExt_of_not_barred (hst : ∀ t, r.state ≠ .barred t) : unbarExt h r s = (s, .now .state []) := by
  unfold unbarExt
  split
  case h_1 t hbar => exact absurd hbar (hst t)
  case h_2 => rfl

/-! ### EXT_REVOKE (R112) -/

theorem revokeExt_of_challenged (hr : s.record h = some r) {k : Slot} {n : Half} {t : Nat}
    (hst : r.state = .challenged k n t) :
    revokeExt h r s = (s.setRecord h (some { r with state := .idle }), .now .ok [1]) := by
  simp only [revokeExt, hst, okay, State.setAdmission_of_record hr, Admission.value]

theorem revokeExt_of_unbound (hst : r.state.slot? = none) : revokeExt h r s = (s, .now .state []) := by
  unfold revokeExt
  cases hs : r.state with
  | idle | barred t | suspended => rfl
  | challenged k n t | admitted k t | refreshing k n t => simp [hs, Admission.slot?] at hst

end

/-- Settles O44: each request is answered as the equation of its operation for the record's state says; a request that
names no record is refused before any of them. -/
theorem extensionAdministrationByState : Obligations.ExtensionAdministrationByState := by
  unfold Obligations.ExtensionAdministrationByState
  refine ⟨fun s body ref hs ha hl => ⟨exec_extSuspend_missing hs ha hl, exec_extResume_missing hs ha hl,
    exec_extUnbar_missing hs ha hl, exec_extRevoke_missing hs ha hl⟩, fun s body ref h r hs ha hl hr => ?_⟩
  intro put idle
  refine ⟨fun hst => ?suspend, fun hst => ?suspendAgain, fun t hst => ?suspendBarred, fun hst => ?resume,
    fun hst => ?resumeRefused, fun t hst => ?unbar, fun hst => ?unbarRefused, fun k n t hst => ?revoke,
    fun hst => ?revokeRefused⟩
  case suspend => exact exec_extSuspend_now hs ha hl hr (suspendExt_of_idle_or_challenged hr hst)
  case suspendAgain => exact exec_extSuspend_now hs ha hl hr (suspendExt_of_suspended hst)
  case suspendBarred => exact exec_extSuspend_now hs ha hl hr (suspendExt_of_barred hr hst)
  case resume => exact exec_extResume_now hs ha hl hr (resumeExt_of_suspended hr hst)
  case resumeRefused => exact exec_extResume_now hs ha hl hr (resumeExt_of_not_suspended hst)
  case unbar => exact exec_extUnbar_now hs ha hl hr (unbarExt_of_barred hr hst)
  case unbarRefused => exact exec_extUnbar_now hs ha hl hr (unbarExt_of_not_barred hst)
  case revoke => exact exec_extRevoke_now hs ha hl hr (revokeExt_of_challenged hr hst)
  case revokeRefused => exact exec_extRevoke_now hs ha hl hr (revokeExt_of_unbound hst)

end Sys2Proof.Machine
end

section
/-! PROOFS. Held changes (R163 to R165): HOLD_BEGIN, HOLD_COMMIT and HOLD_CANCEL by the state of the hold, and the five
kinds of request that are staged while it is OPEN. -/

namespace Sys2Proof.Machine

section
variable {s t : State} {entries : List HeldChange} {mark : CommitMark} {e : HeldChange} {c : Instr} {body b : List Byte}
  {st : Status}

/-! ### HOLD_BEGIN, HOLD_COMMIT and HOLD_CANCEL by the state of the hold -/

theorem beginHold_of_closed (h : s.hold = .closed) :
    beginHold () s = ({ s with hold := .opened [] .absent }, .now .ok []) := by
  simp only [beginHold, h, okay]

theorem beginHold_of_opened (h : s.hold = .opened entries mark) : beginHold () s = (s, .now .state []) := by
  simp only [beginHold, h, refuse]

theorem commitHold_of_closed (h : s.hold = .closed) : commitHold () s = (s, .now .state []) := by
  simp only [commitHold, h, refuse]

theorem commitHold_of_unmarked (h : s.hold = .opened entries .absent) :
    commitHold () s = ({ s with hold := .opened entries .pending }, .later) := by
  simp only [commitHold, h]

theorem commitHold_of_marked (h : s.hold = .opened entries mark) (hm : mark ≠ .absent) :
    commitHold () s = (s, .now .busy []) := by
  cases mark with
  | absent => exact absurd rfl hm
  | pending | due => simp only [commitHold, h, refuse]

theorem cancelHold_of_closed (h : s.hold = .closed) : cancelHold () s = (s, .now .state []) := by
  simp only [cancelHold, h, refuse]

theorem cancelHold_of_unmarked (h : s.hold = .opened entries .absent) :
    cancelHold () s = ({ s with hold := .closed }, .now .ok [byteOf entries.length]) := by
  simp only [cancelHold, h, okay]

theorem cancelHold_of_marked (h : s.hold = .opened entries mark) (hm : mark ≠ .absent) :
    cancelHold () s = (s, .now .busy []) := by
  cases mark with
  | absent => exact absurd rfl hm
  | pending | due => simp only [cancelHold, h, refuse]

/-! ### The place kept for the commit's reply (R165, R171) -/

theorem exec_holdCommit_later {a : Unit} (hs : s.ready) (ha : parseEmpty body = some a)
    (h : commitHold a s = (t, .later)) :
    exec (.holdCommit body) s = .next { t with link := t.link.push none } := by
  have hd : holdCommitRequest body s = (t, .later) := by rw [holdCommitRequest, withArgs_some ha, h]
  rw [exec, execHoldCommit, whenInService_next hs.1, takeRequest_later hs.2 hd]

/-- Behind a reply that is leaving, an outstanding place, or no reply at all, an outstanding place joins the reply list
and nothing is sent. -/
theorem Link.push_none_of_held {l : Link}
    (h : l.leaving.isSome = true ∨ l.replies = [] ∨ l.replies.head? = some none) :
    l.push none = { l with replies := l.replies ++ [none] } := by
  rcases Link.send_cases { l with replies := l.replies ++ [none] } with ⟨r, rest, hleave, hhead, -⟩ | ⟨hsend, -⟩
  · exfalso
    rcases h with h | h | h
    · simp [show l.leaving = none from hleave] at h
    · simp [h] at hhead
    · obtain ⟨tl, hl⟩ := List.head?_eq_some_iff.1 h
      simp [hl] at hhead
  · exact hsend

/-! ### Staging (R163) -/

/-- R163: the request commands that are staged while the hold is OPEN, each with the entry its body reads as. -/
inductive StagedRequest : Instr → HeldChange → Prop
  | connect {body n} : parseLeg body = some n → StagedRequest (.legConnect body) (.connect n)
  | park {body n} : parseLeg body = some n → StagedRequest (.legPark body) (.park n)
  | level {body n g} : parseLegLevel body = some (n, g) → StagedRequest (.legLevel body) (.level n g)
  | join {body k m} : parseConfMember body = some (k, m) → StagedRequest (.confJoin body) (.join k m)
  | leave {body k m} : parseConfMember body = some (k, m) → StagedRequest (.confLeave body) (.leave k m)

theorem stagedRequest_iff : StagedRequest c e ↔
    (∃ body n, c = .legConnect body ∧ parseLeg body = some n ∧ e = .connect n) ∨
    (∃ body n, c = .legPark body ∧ parseLeg body = some n ∧ e = .park n) ∨
    (∃ body n g, c = .legLevel body ∧ parseLegLevel body = some (n, g) ∧ e = .level n g) ∨
    (∃ body k m, c = .confJoin body ∧ parseConfMember body = some (k, m) ∧ e = .join k m) ∨
    (∃ body k m, c = .confLeave body ∧ parseConfMember body = some (k, m) ∧ e = .leave k m) := by
  constructor
  · rintro (h | h | h | h | h)
    · exact .inl ⟨_, _, rfl, h, rfl⟩
    · exact .inr (.inl ⟨_, _, rfl, h, rfl⟩)
    · exact .inr (.inr (.inl ⟨_, _, _, rfl, h, rfl⟩))
    · exact .inr (.inr (.inr (.inl ⟨_, _, _, rfl, h, rfl⟩)))
    · exact .inr (.inr (.inr (.inr ⟨_, _, _, rfl, h, rfl⟩)))
  · rintro (⟨_, _, rfl, h, rfl⟩ | ⟨_, _, rfl, h, rfl⟩ | ⟨_, _, _, rfl, h, rfl⟩ | ⟨_, _, _, rfl, h, rfl⟩ |
      ⟨_, _, _, rfl, h, rfl⟩)
    · exact .connect h
    · exact .park h
    · exact .level h
    · exact .join h
    · exact .leave h

/-- R163: whether the extension an entry names, if it names one, exists. -/
def HeldChange.named : HeldChange → State → Bool
  | .connect _ | .park _ | .level _ _ => fun _ => true
  | .join _ m | .leave _ m => memberExists m

theorem memberExists_eq_false_iff {m : MemberRef} :
    memberExists m s = false ↔ ∃ ref, m = .loc ref ∧ s.lookup ref = none := by
  cases m <;> simp [memberExists]

theorem HeldChange.named_eq_false_iff : e.named s = false ↔
    ∃ k ref, (e = .join k (.loc ref) ∨ e = .leave k (.loc ref)) ∧ s.lookup ref = none := by
  cases e with
  | connect _ | park _ | level _ _ => simp [HeldChange.named]
  | join _ _ | leave _ _ => simp [HeldChange.named, memberExists_eq_false_iff]

/-- Each of the five requests is its entry staged, or applied at once where the hold is CLOSED. -/
theorem StagedRequest.exec_now (h : StagedRequest c e) (hs : s.ready)
    (hd : stageOr e e.named (applyChange e) s = (t, .now st b)) : exec c s = .next (t.answered e.code st b) := by
  cases h with
  | connect ha => exact exec_legConnect_now hs ha hd
  | park ha => exact exec_legPark_now hs ha hd
  | level ha => exact exec_legLevel_now hs ha hd
  | join ha => exact exec_confJoin_now hs ha hd
  | leave ha => exact exec_confLeave_now hs ha hd

theorem stageOr_of_unknown {named : State → Bool} {f : State → State × Answer} (h : s.hold = .opened entries mark)
    (hn : named s = false) : stageOr e named f s = (s, .now .notFound []) := by
  rw [stageOr_opened h, if_pos hn]

theorem stageOr_of_room {named : State → Bool} {f : State → State × Answer} (h : s.hold = .opened entries mark)
    (hn : named s ≠ false) (hroom : entries.length < 16) : stageOr e named f s =
      ({ s with hold := .opened (entries ++ [e]) mark }, .now .staged [byteOf (entries.length + 1)]) := by
  rw [stageOr_opened h, if_neg hn]
  exact if_pos hroom

theorem stageOr_of_full {named : State → Bool} {f : State → State × Answer} (h : s.hold = .opened entries mark)
    (hn : named s ≠ false) (hfull : 16 ≤ entries.length) : stageOr e named f s = (s, .now .full []) := by
  rw [stageOr_opened h, if_neg hn]
  exact if_neg (Nat.not_lt.2 hfull)

end

/-- Settles O53: the three hold requests are answered as their operation's equation for the state of the hold says; the
five staged requests share one taking, whose outcome is read off the entry's extension and the length of the list. -/
theorem heldRequestsAreStaged : Obligations.HeldRequestsAreStaged := by
  unfold Obligations.HeldRequestsAreStaged
  intro s hs
  refine ⟨fun hclosed => ⟨?begin, ?commit, ?cancel⟩, fun entries mark hopen =>
    ⟨?beginAgain, fun hmark => ⟨?commitMarked, ?cancelMarked⟩, ?unmarked, fun c e hce => ?staging⟩⟩
  case begin => exact exec_holdBegin_now hs rfl (beginHold_of_closed hclosed)
  case commit => exact exec_holdCommit_now hs rfl (commitHold_of_closed hclosed)
  case cancel => exact exec_holdCancel_now hs rfl (cancelHold_of_closed hclosed)
  case beginAgain => exact exec_holdBegin_now hs rfl (beginHold_of_opened hopen)
  case commitMarked => exact exec_holdCommit_now hs rfl (commitHold_of_marked hopen hmark)
  case cancelMarked => exact exec_holdCancel_now hs rfl (cancelHold_of_marked hopen hmark)
  case unmarked =>
    rintro rfl
    exact ⟨exec_holdCancel_now hs rfl (cancelHold_of_unmarked hopen),
      _, exec_holdCommit_later hs rfl (commitHold_of_unmarked hopen), rfl, rfl, Link.push_none_of_held⟩
  case staging =>
    have hreq : StagedRequest c e := stagedRequest_iff.2 hce
    intro unknown
    have hunknown : e.named s = false ↔ unknown := HeldChange.named_eq_false_iff
    exact ⟨fun hu => hreq.exec_now hs (stageOr_of_unknown hopen (hunknown.2 hu)),
      fun hu hroom => hreq.exec_now hs (stageOr_of_room hopen (mt hunknown.1 hu) hroom),
      fun hu hfull => hreq.exec_now hs (stageOr_of_full hopen (mt hunknown.1 hu) hfull)⟩

end Sys2Proof.Machine
end

section
/-! PROOFS. PARAM_READ, NOTICE_FETCH and NOTICE_MASK (R173, R175, R176): the bytes of a word and of a notice entry,
which bodies read, and what each request makes of its arguments. -/

namespace Sys2Proof.Machine

/-! ### The bytes of a word (R169) -/

theorem byteOf_div_two_pow {w : Nat} (v : BitVec w) (k : Nat) : byteOf (v.toNat / 2 ^ k) = v.extractLsb' k 8 :=
  congrArg (BitVec.ofNat 8) (Nat.shiftRight_eq_div_pow _ k).symm

theorem byteOf_toNat_eq_extractLsb' {w : Nat} (v : BitVec w) : byteOf v.toNat = v.extractLsb' 0 8 := by
  simpa using byteOf_div_two_pow v 0

theorem bytes16_toNat {w : Nat} (v : BitVec w) : bytes16 v.toNat = [v.extractLsb' 8 8, v.extractLsb' 0 8] := by
  have hhigh : byteOf (v.toNat / 256) = v.extractLsb' 8 8 := byteOf_div_two_pow v 8
  rw [bytes16, hhigh, byteOf_toNat_eq_extractLsb']

theorem bytes32_toNat {w : Nat} (v : BitVec w) :
    bytes32 v.toNat = [v.extractLsb' 24 8, v.extractLsb' 16 8, v.extractLsb' 8 8, v.extractLsb' 0 8] := by
  have hfirst : byteOf (v.toNat / 65536 / 256) = v.extractLsb' 24 8 :=
    Nat.div_div_eq_div_mul v.toNat 65536 256 ▸ byteOf_div_two_pow v 24
  have hsecond : byteOf (v.toNat / 65536) = v.extractLsb' 16 8 := byteOf_div_two_pow v 16
  rw [bytes32, bytes16, hfirst, hsecond, bytes16_toNat]
  rfl

/-- R169: the four bytes of a word, read as two halves, spell the word again. -/
theorem halfAt_append_halfAt_bytes32 (b : Byte) (v : BitVec 32) :
    (halfAt (b :: bytes32 v.toNat) 1 ++ halfAt (b :: bytes32 v.toNat) 3 : BitVec 32) = v := by
  have hhigh : halfAt (b :: bytes32 v.toNat) 1 = v.extractLsb' 16 16 := by
    rw [bytes32_toNat]
    exact BitVec.extractLsb'_append_extractLsb'_eq_extractLsb' rfl
  have hlow : halfAt (b :: bytes32 v.toNat) 3 = v.extractLsb' 0 16 := by
    rw [bytes32_toNat]
    exact BitVec.extractLsb'_append_extractLsb'_eq_extractLsb' rfl
  calc halfAt (b :: bytes32 v.toNat) 1 ++ halfAt (b :: bytes32 v.toNat) 3
      = v.extractLsb' 16 16 ++ v.extractLsb' 0 16 := by rw [hhigh, hlow]
    _ = v.extractLsb' 0 32 := BitVec.extractLsb'_append_extractLsb'_eq_extractLsb' rfl
    _ = v := BitVec.extractLsb'_eq_self

theorem optOf_bitByte (o : Bool) : optOf (bitByte o) = some o := by
  cases o <;> rfl

/-! ### Which bodies read (R175, R176) -/

theorem parseFetch_byteOf {n : Nat} (hlow : 1 ≤ n) (hhigh : n ≤ 8) : parseFetch [byteOf n] = some n := by
  have hn : (byteAt [byteOf n] 0).toNat = n := BitVec.toNat_ofNat n 8 ▸ Nat.mod_eq_of_lt (by omega)
  simp [parseFetch, hn, hlow, hhigh]

theorem parseFetch_eq_none {b : Byte} (h : b = 0 ∨ 8 < b.toNat) : parseFetch [b] = none := by
  have hcount : byteAt [b] 0 = b := rfl
  have hrange : ¬(1 ≤ b.toNat ∧ b.toNat ≤ 8) := by
    rcases h with rfl | hb
    · decide
    · omega
  simp only [parseFetch, hcount]
  simpa using hrange

theorem parseNoticeMask_eq (o : Bool) (m : BitVec 32) : parseNoticeMask (bitByte o :: bytes32 m.toNat) =
    if 2 ^ 22 ≤ m.toNat then none else some (if o then some m else none) := by
  have hlength : (bitByte o :: bytes32 m.toNat).length = 5 := rfl
  have hopt : optOf (byteAt (bitByte o :: bytes32 m.toNat) 0) = some o := optOf_bitByte o
  simp only [parseNoticeMask, hlength, hopt, halfAt_append_halfAt_bytes32]
  rfl

theorem parseNoticeMask_of_lt (o : Bool) {m : BitVec 32} (h : m.toNat < 2 ^ 22) :
    parseNoticeMask (bitByte o :: bytes32 m.toNat) = some (if o then some m else none) := by
  rw [parseNoticeMask_eq, if_neg h.not_ge]

theorem parseNoticeMask_of_le (o : Bool) {m : BitVec 32} (h : 2 ^ 22 ≤ m.toNat) :
    parseNoticeMask (bitByte o :: bytes32 m.toNat) = none := by
  rw [parseNoticeMask_eq, if_pos h]

/-! ### What the requests answer and change (R173, R175, R176) -/

/-- Section 12.7: the code of the kind and the subject, then the detail and the stamp, most significant byte first. -/
theorem Notice.bytes_eq (e : Notice) : e.bytes = [e.kind.value, e.subject, e.detail.extractLsb' 8 8,
    e.detail.extractLsb' 0 8, e.stamp.extractLsb' 8 8, e.stamp.extractLsb' 0 8] := by
  rw [Notice.bytes, bytes16_toNat, bytes16_toNat]
  rfl

theorem fetchNotices_eq (n : Nat) (s : State) : fetchNotices n s =
    ({ s with notices := { s.notices with queue := s.notices.queue.drop n, overrun := false,
                                          attention := !(s.notices.queue.drop n).isEmpty } },
      .now .ok ([bitByte s.notices.overrun, byteOf (s.notices.queue.length - n),
        byteOf (min n s.notices.queue.length)] ++ (s.notices.queue.take n).flatMap Notice.bytes)) := by
  simp only [fetchNotices, okay, NoticeUnit.fetch, List.length_drop, List.length_take]

theorem Params.report_eq (p : Params) : p.report = bytes16 p.epochLength ++ bytes16 p.timing.value.toNat ++
    bytes16 p.answerTimeout ++ bytes16 p.barTime ++ bytes16 p.refreshInterval ++ bytes16 p.failureLimit ++
    bytes16 p.seed.toNat ++ bytes16 p.stride.toNat := rfl

theorem readParams_eq (s : State) : readParams () s = (s, .now .ok s.params.report) := rfl

/-- Settles O21: the six bytes of an entry are its equation; each request is answered by what its body reads as and the
equation of what it makes of its arguments. -/
theorem noticeFetchAndMask : Obligations.NoticeFetchAndMask := by
  unfold Obligations.NoticeFetchAndMask
  refine ⟨fun e => ?entry, fun s hs => ⟨fun n hlow hhigh => ?fetch, fun b hb => ?badCount, fun m hm => ?set,
    fun o m hm => ?badMask, fun m hm => ?report⟩⟩
  case entry => exact e.bytes_eq
  case fetch => exact exec_noticeFetch_now hs (parseFetch_byteOf hlow hhigh) (fetchNotices_eq n s)
  case badCount => exact exec_noticeFetch_bad hs (parseFetch_eq_none hb)
  case set => exact exec_noticeMask_now hs (parseNoticeMask_of_lt true hm) rfl
  case badMask => exact exec_noticeMask_bad hs (parseNoticeMask_of_le o hm)
  case report => exact exec_noticeMask_now hs (parseNoticeMask_of_lt false hm) rfl

/-- Settles O23: the reply is the report of the parameters, whose timing byte is read off its two cases, and PARAM_READ
hands the state on as it is. -/
theorem paramReadReportsAllEight : Obligations.ParamReadReportsAllEight := by
  unfold Obligations.ParamReadReportsAllEight
  intro s hs
  rw [exec_paramRead_now hs rfl (readParams_eq s), Params.report_eq]
  cases s.params.timing <;> rfl

end Sys2Proof.Machine
end

section
/-! PROOFS. The part as a whole: the step, the reset line and the reset-pin values (R178), and what every command that
is not the reset line's own is: an effect taken while the line is released. -/

namespace Sys2Proof.Machine

variable {s t : State} {c : Instr} {code : Byte} {body : List Byte}

/-! ### Requests by their frame, events by their effect -/

/-- R170: a host request is the taking of the frame that spells it. -/
theorem exec_request (h : requestOf c = some (code, body)) :
    exec c s = whenInService s (State.takeFrame code body) := by
  cases c <;> cases h <;> rfl

/-- Every command but the reset line's own is an effect taken while the line is released. -/
theorem exec_eq_whenInService (ha : c ≠ .resetAssert) (hr : c ≠ .resetRelease) :
    ∃ f : State → State, ∀ s, exec c s = whenInService s f := by
  cases c
  case resetAssert => exact absurd rfl ha
  case resetRelease => exact absurd rfl hr
  all_goals exact ⟨_, fun _ => rfl⟩

/-- Settles O1: the two cases of the queue. -/
theorem stepTakesTheFrontCommand : Obligations.StepTakesTheFrontCommand := by
  unfold Obligations.StepTakesTheFrontCommand
  refine ⟨fun s c rest h => ?front, fun s h => ?idle⟩
  case front => rw [step, h]
  case idle => rw [step, h]

/-- Settles O3: a command that is not the line's own is an effect that the asserted line stops; the two of the line are
their definitions. -/
theorem resetLineStopsThePart : Obligations.ResetLineStopsThePart := by
  unfold Obligations.ResetLineStopsThePart
  refine ⟨fun c s hs ha hr => ?stopped, fun s => ?asserted, fun s => rfl⟩
  case stopped =>
    obtain ⟨f, hf⟩ := exec_eq_whenInService ha hr
    rw [hf, whenInService_reset hs]
  case asserted =>
    refine ⟨_, rfl, rfl, fun k => ?_, rfl, rfl, rfl⟩
    exact ⟨Vector.getElem_replicate _, Vector.getElem_replicate _⟩

/-! ### The values after the reset pin -/

@[simp] theorem getElem_reset_legs (n : LegNo) : State.reset.legs[n.val] = none := Vector.getElem_replicate _

@[simp] theorem getElem_reset_confs (c : ConfNo) : State.reset.confs[c.val] = none := Vector.getElem_replicate _

@[simp] theorem record_reset (h : Handle) : State.reset.record h = none := Vector.getElem_replicate _

@[simp] theorem boundSlot_reset (h : Handle) : State.reset.boundSlot h = none := by simp [State.boundSlot]

@[simp] theorem membersOf_reset (c : ConfNo) : State.reset.membersOf c = [] := by simp [State.membersOf]

@[simp] theorem getElem_reset_outMap (k : Slot) : State.reset.line.outMap[k.val] = .vacant := Vector.getElem_replicate _

/-- R174: after the reset pin the mask enables every kind. -/
theorem enabled_reset (k : NoticeKind) : State.reset.notices.enabled k = true := by
  cases k <;> decide

/-- Settles O4: the places of the tables one by one, every other field by its definition. -/
theorem resetPinValues : Obligations.ResetPinValues := by
  unfold Obligations.ResetPinValues
  have hlisten : ∀ k : Slot, State.reset.ext.listen[k] = false := fun k => Vector.getElem_replicate _
  have hdelivered : ∀ k : Slot, State.reset.trunk.lastDelivered[k] = silence := fun k => Vector.getElem_replicate _
  exact ⟨rfl, rfl, rfl, getElem_reset_outMap, rfl, rfl, hdelivered, rfl, rfl, rfl, rfl, rfl, rfl, rfl, rfl, rfl, rfl,
    rfl, rfl, getElem_reset_legs, record_reset, hlisten, rfl, rfl, rfl, rfl, getElem_reset_confs,
    by simp [State.freePlaces], rfl, rfl, rfl, rfl, rfl, rfl, enabled_reset, rfl⟩

/-- A part with no leg, no record, no member and nothing on the map is in accord. -/
theorem LineLaws_reset : State.reset.LineLaws where
  records := ⟨by simp, by simp⟩
  owners := by simp [State.OwnersAdmitted]
  members := ⟨by simp, by simp, by simp, by simp, by simp, by simp, by simp⟩
  map := ⟨by simp, by simp⟩
  parked := by simp

theorem Bounded_reset : State.reset.Bounded where
  cellQueue := Nat.zero_le _
  admQueue := Nat.zero_le _
  notices := Nat.zero_le _
  attention _ := rfl
  store := Nat.zero_le _
  netSlips := by decide
  changes := Nat.zero_le _
  cellIn := rfl
  window := Nat.zero_le _
  badRun := Nat.zero_le _
  framerCounters := by decide
  extCounters := by decide
  held := Nat.zero_le _
  heldGains _ _ h := absurd h List.not_mem_nil
  legs := by simp
  confs := by simp
  params := ⟨by decide, by decide, by decide, by decide, by decide, by decide⟩

/-- Settles O55: the lists are empty and the tables hold nothing. -/
theorem lawsHoldAtReset : Obligations.LawsHoldAtReset := by
  unfold Obligations.LawsHoldAtReset
  refine ⟨Bounded_reset, ?replies, by simp [State.LegsDistinct], by simp [State.FailureLaw], ?queue, ?keys, ?receive,
    LineLaws_reset⟩
  case replies => exact ⟨Nat.zero_le _, rfl, fun _ _ _ _ h => nomatch h⟩
  case queue => exact ⟨List.nodup_nil, fun _ h => absurd h List.not_mem_nil, by simp, by simp, by simp⟩
  case keys => exact ⟨by decide, by simp, by simp⟩
  case receive => exact ⟨fun _ => ⟨rfl, rfl⟩, fun _ h => (nomatch h), fun _ h => (nomatch h), by simp⟩

end Sys2Proof.Machine
end

section
/-! PROOFS. The minus-one mix (R155), the block scrambler's inverse (R33 to R35) and the counters after a load (R37,
R43, R44). -/

namespace Sys2Proof.Machine

/-! ### The minus-one mix (R155) -/

theorem levelled_eq (x : Int) (m : Nat) :
    levelled x m = (compress (saturate (scale x m)).1, decide (3952 < (scale x m).natAbs)) := by
  have hclip : (saturate (scale x m)).2 = decide (3952 < (scale x m).natAbs) := by
    rw [Bool.eq_iff_iff, saturate_clipped_iff, decide_eq_true_iff]
  exact congrArg (Prod.mk _) hclip

theorem scale_zero (m : Nat) : scale 0 m = 0 := by
  simp [scale]

theorem levelled_zero (m : Nat) : levelled 0 m = (silence, false) := by
  rw [levelled_eq, scale_zero]
  rfl

/-- Settles O9: the total less the member's input is the sum of the others; a lone member's others sum to 0. -/
theorem minusOneMixOmitsTheMember : Obligations.MinusOneMixOmitsTheMember := by
  unfold Obligations.MinusOneMixOmitsTheMember
  intro att before rest m x others
  have htotal : ((before ++ (m, x) :: rest).map (·.2)).sum - x = others := by
    simp [others]
    omega
  refine ⟨?others, ?lone⟩
  case others =>
    rw [minusOne, List.getElem?_map, List.getElem?_append_right (Nat.le_refl _), Nat.sub_self]
    simp only [List.getElem?_cons_zero, Option.map_some, htotal, levelled_eq]
  case lone => simp [minusOne, levelled_zero]

/-! ### The block scrambler (R31, R33 to R35) -/

theorem getElem_invertMasked (mask : Nat) (b : Block) (i : Position) :
    (invertMasked mask b)[i] = if mask.testBit i.val then invertSign b[i] else b[i] := by
  simp [invertMasked]

theorem invertMasked_invertMasked (mask : Nat) (b : Block) : invertMasked mask (invertMasked mask b) = b := by
  refine block_ext fun i => ?_
  simp only [getElem_invertMasked]
  split
  · exact invertSign_invertSign _
  · rfl

theorem swapCodes_swapCodes (b : Block) (ij : Position × Position) : swapCodes (swapCodes b ij) ij = b := by
  obtain ⟨i, j⟩ := ij
  rw [swapCodes_eq_permuted, swapCodes_eq_permuted, permuted_permuted, Equiv.swap_mul_self, permuted_one]

theorem foldl_swapCodes_reverse (swaps : List (Position × Position)) (b : Block) :
    swaps.reverse.foldl swapCodes (swaps.foldl swapCodes b) = b := by
  induction swaps generalizing b with
  | nil => rfl
  | cons ij swaps ih =>
    rw [List.reverse_cons, List.foldl_append]
    exact (congrArg (swapCodes · ij) (ih _)).trans (swapCodes_swapCodes b ij)

theorem unarrange_arrange (p : Nat) (b : Block) : unarrange p (arrange p b) = b :=
  foldl_swapCodes_reverse (swapsOf p) b

theorem arrange_unarrange (p : Nat) (b : Block) : arrange p (unarrange p b) = b := by
  have := foldl_swapCodes_reverse (swapsOf p).reverse b
  rwa [List.reverse_reverse] at this

theorem descrambleBlock_scrambleBlock (mode : ScrambleMode) (v : WheelWord) (b : Block) :
    descrambleBlock mode v (scrambleBlock mode v b) = b := by
  cases mode with
  | pass => rfl
  | invert => exact invertMasked_invertMasked _ b
  | shuffle => simp only [descrambleBlock, scrambleBlock, invertMasked_invertMasked, unarrange_arrange]

theorem scrambleBlock_descrambleBlock (mode : ScrambleMode) (v : WheelWord) (b : Block) :
    scrambleBlock mode v (descrambleBlock mode v b) = b := by
  cases mode with
  | pass => rfl
  | invert => exact invertMasked_invertMasked _ b
  | shuffle => simp only [descrambleBlock, scrambleBlock, invertMasked_invertMasked, arrange_unarrange]

theorem toNat_blockWord (v : WheelWord) : (blockWord v).toNat = v.toNat ^^^ (v.toNat / 512) := by
  rw [blockWord, BitVec.toNat_xor, BitVec.toNat_ushiftRight, Nat.shiftRight_eq_div_pow]

/-- Settles O12: the inverses by mode, the codes of a scrambled block by the sign mask at their position. -/
theorem descramblingUndoesScrambling : Obligations.DescramblingUndoesScrambling := by
  unfold Obligations.DescramblingUndoesScrambling
  refine ⟨fun mode v b => ⟨descrambleBlock_scrambleBlock mode v b, scrambleBlock_descrambleBlock mode v b⟩,
    fun v b => ?_⟩
  dsimp only
  rw [← toNat_blockWord]
  exact ⟨rfl, getElem_invertMasked _ b, getElem_invertMasked _ _⟩

/-! ### The counters after a load (R36, R37, R43, R44) -/

/-- R37: the counters stand in their epoch, and the wheel stands where the next value is the block value they name. -/
structure Counters.OnTrack (k : Key) (len : Nat) (c : Counters) : Prop where
  index : c.index < len
  value : c.nextValue k = blockValue k c.epoch c.index

/-- The number of the block that the counters name, counted from epoch 0. -/
def Counters.blockNumber (len : Nat) (c : Counters) : Nat := c.epoch.toNat * len + c.index

section
variable {k : Key} {len : Nat} {c : Counters}

theorem Counters.advance_within (h : c.index + 1 < len) : c.advance len = { c with index := c.index + 1 } := if_pos h

theorem Counters.advance_last (h : c.index + 1 = len) : c.advance len = { c with index := 0, epoch := c.epoch + 1 } :=
  if_neg (by omega)

/-- The block after the last one of an epoch is the first one of the next, and epochs count modulo 65536. -/
theorem Counters.blockNumber_advance (h : c.index < len) :
    (c.advance len).blockNumber len = (c.blockNumber len + 1) % (65536 * len) := by
  have hepoch : c.epoch.toNat < 65536 := c.epoch.isLt
  have hlow : (c.epoch.toNat + 1) * len ≤ 65536 * len := Nat.mul_le_mul_right len hepoch
  rcases Nat.lt_or_ge (c.index + 1) len with hin | hlast
  · have hlt : c.epoch.toNat * len + (c.index + 1) < 65536 * len := by
      rw [Nat.succ_mul] at hlow
      omega
    rw [Counters.advance_within hin]
    exact (Nat.mod_eq_of_lt hlt).symm
  · have hlen : c.index + 1 = len := by omega
    have hsum : c.epoch.toNat * len + c.index + 1 = (c.epoch.toNat + 1) * len := by
      rw [Nat.succ_mul]
      omega
    rw [Counters.advance_last hlen, Counters.blockNumber, Counters.blockNumber, hsum, Nat.mul_mod_mul_right,
      BitVec.toNat_add]
    rfl

theorem Counters.index_advance_lt (h : c.index < len) : (c.advance len).index < len := by
  rw [Counters.advance]
  split
  · assumption
  · exact Nat.zero_lt_of_lt h

theorem Counters.take_onTrack (h : c.OnTrack k len) : (c.take k len).OnTrack k len := by
  refine ⟨Counters.index_advance_lt (c := { c with wheel := c.nextValue k }) h.index, ?_⟩
  rcases Nat.lt_or_ge (c.index + 1) len with hin | hlast
  · rw [Counters.take, Counters.advance_within (c := { c with wheel := c.nextValue k }) hin, Counters.nextValue,
      if_neg (Nat.succ_ne_zero _), h.value, blockValue_succ]
  · have hindex := h.index
    rw [Counters.take, Counters.advance_last (c := { c with wheel := c.nextValue k }) (by simp only; omega)]
    rfl

theorem Counters.blockNumber_take (h : c.index < len) :
    (c.take k len).blockNumber len = (c.blockNumber len + 1) % (65536 * len) :=
  Counters.blockNumber_advance (c := { c with wheel := c.nextValue k }) h

@[simp] theorem Counters.catchUp_epoch : (c.catchUp k).epoch = c.epoch := by
  unfold Counters.catchUp
  split <;> rfl

@[simp] theorem Counters.catchUp_index : (c.catchUp k).index = c.index := by
  unfold Counters.catchUp
  split <;> rfl

/-- R44: catch-up puts the wheel where the next value is the block value that the counters name. -/
theorem Counters.nextValue_catchUp : (c.catchUp k).nextValue k = blockValue k c.epoch c.index := by
  unfold Counters.catchUp
  split
  next h0 => rw [Counters.nextValue, if_pos h0, h0, blockValue_zero]
  next h0 =>
    rw [Counters.nextValue, if_neg h0, blockValue_eq_iterate, Function.iterate_succ_apply', ← wheelSteps_eq_iterate]

theorem Counters.iterate_take (h : c.OnTrack k len) (n : Nat) :
    ((Counters.take k len)^[n] c).OnTrack k len ∧
      ((Counters.take k len)^[n] c).blockNumber len = (c.blockNumber len + n) % (65536 * len) := by
  induction n with
  | zero =>
    have hepoch : c.epoch.toNat < 65536 := c.epoch.isLt
    have hlow : (c.epoch.toNat + 1) * len ≤ 65536 * len := Nat.mul_le_mul_right len hepoch
    have hindex := h.index
    have hlt : c.blockNumber len < 65536 * len := by
      rw [Nat.succ_mul] at hlow
      rw [Counters.blockNumber]
      omega
    exact ⟨h, (Nat.mod_eq_of_lt hlt).symm⟩
  | succ n ih =>
    obtain ⟨htrack, hnumber⟩ := ih
    rw [Function.iterate_succ_apply']
    refine ⟨Counters.take_onTrack htrack, ?_⟩
    rw [Counters.blockNumber_take htrack.index, hnumber, Nat.mod_add_mod, Nat.add_assoc]

end

/-- Settles O13: a load leaves the counters on track at the block after the completed one, and taking a block keeps
them on track and counts one block on. -/
theorem catchUpFindsTheNextBlock : Obligations.CatchUpFindsTheNextBlock := by
  unfold Obligations.CatchUpFindsTheNextBlock
  intro k len e b c hb c'
  let named : Counters := { c with epoch := e, index := b }
  have hindex : c'.index < len := by
    simpa [c', Counters.load] using Counters.index_advance_lt (c := named) hb
  have htrack : c'.OnTrack k len := ⟨hindex, by simp [c', Counters.load, Counters.nextValue_catchUp]⟩
  have hnumber : c'.blockNumber len = (e.toNat * len + b + 1) % (65536 * len) := by
    simp only [c', Counters.load, Counters.blockNumber, Counters.catchUp_epoch, Counters.catchUp_index]
    exact Counters.blockNumber_advance (c := named) hb
  refine ⟨hindex, fun hin => ?within, fun hlast => ?last, fun n => ?later⟩
  case within => simp [c', Counters.load, Counters.advance_within (c := named) hin, named]
  case last => simp [c', Counters.load, Counters.advance_last (c := named) hlast, named]
  case later =>
    obtain ⟨hn, hcount⟩ := Counters.iterate_take htrack n
    rw [hnumber, Nat.mod_add_mod] at hcount
    exact ⟨hn.index, hn.value, hcount⟩

end Sys2Proof.Machine
end

section
/-! PROOFS. Trunk cells on the wire (R73 to R75): the bytes of each kind, the check byte, and what eight bytes say. -/

namespace Sys2Proof.Machine

/-! ### Numbers joined from bytes (R169) -/

theorem toNat_append {v w : Nat} (a : BitVec v) (b : BitVec w) : (a ++ b).toNat = a.toNat * 2 ^ w + b.toNat := by
  rw [BitVec.toNat_append, ← Nat.shiftLeft_add_eq_or_of_lt b.isLt, Nat.shiftLeft_eq]

theorem toNat_byteOf (n : Nat) : (byteOf n).toNat = n % 256 := BitVec.toNat_ofNat n 8

/-- R169: a two-byte number is spelled by its two bytes, the most significant first. -/
theorem byteOf_append_byteOf (e : Half) : byteOf (e.toNat / 256) ++ byteOf e.toNat = e := by
  refine BitVec.eq_of_toNat_eq ?_
  have := e.isLt
  rw [toNat_append, toNat_byteOf, toNat_byteOf]
  omega

/-! ### The check byte (R73) -/

theorem checkHolds_iff {bytes : List Byte} : checkHolds bytes = true ↔ bytes.foldl (· + ·) 0 = 0xA5 := by
  simp [checkHolds]

theorem sum_append_checkByte (bytes : List Byte) : (bytes ++ [checkByte bytes]).foldl (· + ·) 0 = 0xA5 := by
  rw [List.foldl_append]
  exact add_sub_cancel _ _

theorem sum_buildCell (kind tag b2 b3 b4 b5 b6 : Byte) :
    (buildCell kind tag b2 b3 b4 b5 b6).toList.foldl (· + ·) 0 = 0xA5 :=
  sum_append_checkByte [kind, tag, b2, b3, b4, b5, b6]

theorem TrunkCell.sum_build (cell : TrunkCell) : cell.build.toList.foldl (· + ·) 0 = 0xA5 := by
  cases cell <;> exact sum_buildCell ..

/-! ### Which eight bytes are valid and what they say (R74) -/

theorem parseTrunkCell_of_length {bytes : List Byte} (h : bytes.length ≠ 8) : parseTrunkCell bytes = none := by
  unfold parseTrunkCell
  split
  · exact absurd rfl h
  · rfl

theorem parseTrunkCell_of_sum {bytes : List Byte} (h : bytes.foldl (· + ·) 0 ≠ 0xA5) : parseTrunkCell bytes = none := by
  unfold parseTrunkCell
  split
  · rw [if_pos (by simpa using mt checkHolds_iff.1 h)]
  · rfl

section
variable {kind tag b2 b3 b4 b5 b6 check : Byte}

/-- R74: what a cell whose check holds says, by its kind and tag. -/
theorem parseTrunkCell_of_check (h : [kind, tag, b2, b3, b4, b5, b6, check].foldl (· + ·) 0 = 0xA5) :
    parseTrunkCell [kind, tag, b2, b3, b4, b5, b6, check] =
      if kind = 0xC0 then (if tag = 0 then some .idle else none)
      else if tag = 0 then none
      else if kind = 0xC1 then
        some (.sync tag (b2 ++ b3) (BitVec.ofNat 12 (b4.toNat * 16 + b5.toNat / 16))
          (byteOf (b5.toNat % 16 * 16 + b6.toNat / 16)))
      else if kind = 0xC2 then some (.roll tag b2 (b3 ++ b4))
      else if kind = 0xC3 then some (.clear tag)
      else none := by
  rw [parseTrunkCell, checkHolds_iff.2 h]
  rfl

theorem parseTrunkCell_buildCell (kind tag b2 b3 b4 b5 b6 : Byte) :
    parseTrunkCell (buildCell kind tag b2 b3 b4 b5 b6).toList =
      if kind = 0xC0 then (if tag = 0 then some .idle else none)
      else if tag = 0 then none
      else if kind = 0xC1 then
        some (.sync tag (b2 ++ b3) (BitVec.ofNat 12 (b4.toNat * 16 + b5.toNat / 16))
          (byteOf (b5.toNat % 16 * 16 + b6.toNat / 16)))
      else if kind = 0xC2 then some (.roll tag b2 (b3 ++ b4))
      else if kind = 0xC3 then some (.clear tag)
      else none :=
  parseTrunkCell_of_check (sum_buildCell kind tag b2 b3 b4 b5 b6)

/-- Section 12.7: the twelve bits over the border of two bytes. -/
theorem ofNat_index_eq (b4 b5 : Byte) :
    BitVec.ofNat 12 (b4.toNat * 16 + b5.toNat / 16) = (b4 ++ b5).extractLsb' 4 12 := by
  refine BitVec.eq_of_toNat_eq ?_
  rw [BitVec.toNat_ofNat, BitVec.extractLsb'_toNat, Nat.shiftRight_eq_div_pow, toNat_append]
  omega

/-- Section 12.7: the eight bits over the border of two bytes. -/
theorem byteOf_gen_eq (b5 b6 : Byte) : byteOf (b5.toNat % 16 * 16 + b6.toNat / 16) = (b5 ++ b6).extractLsb' 4 8 := by
  refine BitVec.eq_of_toNat_eq ?_
  rw [toNat_byteOf, BitVec.extractLsb'_toNat, Nat.shiftRight_eq_div_pow, toNat_append]
  omega

end

/-! ### A cell built reads back (R74) -/

theorem parseTrunkCell_sync {tag : Byte} (htag : tag ≠ 0) (e : Half) (i : BitVec 12) (g : Byte) :
    parseTrunkCell (TrunkCell.sync tag e i g).build.toList = some (.sync tag e i g) := by
  have hindex : BitVec.ofNat 12 ((byteOf (i.toNat / 16)).toNat * 16 +
      (byteOf (i.toNat % 16 * 16 + g.toNat / 16)).toNat / 16) = i := by
    refine BitVec.eq_of_toNat_eq ?_
    have := i.isLt
    have := g.isLt
    rw [BitVec.toNat_ofNat, toNat_byteOf, toNat_byteOf]
    omega
  have hgen : byteOf ((byteOf (i.toNat % 16 * 16 + g.toNat / 16)).toNat % 16 * 16 +
      (byteOf (g.toNat % 16 * 16)).toNat / 16) = g := by
    refine BitVec.eq_of_toNat_eq ?_
    have := g.isLt
    rw [toNat_byteOf, toNat_byteOf, toNat_byteOf]
    omega
  rw [TrunkCell.build, parseTrunkCell_buildCell, if_neg (by decide), if_neg htag, if_pos rfl, hindex, hgen,
    byteOf_append_byteOf]

theorem parseTrunkCell_roll {tag : Byte} (htag : tag ≠ 0) (g : Byte) (e : Half) :
    parseTrunkCell (TrunkCell.roll tag g e).build.toList = some (.roll tag g e) := by
  rw [TrunkCell.build, parseTrunkCell_buildCell, if_neg (by decide), if_neg htag, if_neg (by decide), if_pos rfl,
    byteOf_append_byteOf]

theorem parseTrunkCell_clear {tag : Byte} (htag : tag ≠ 0) :
    parseTrunkCell (TrunkCell.clear tag).build.toList = some (.clear tag) := by
  rw [TrunkCell.build, parseTrunkCell_buildCell, if_neg (by decide), if_neg htag, if_neg (by decide),
    if_neg (by decide), if_pos rfl]

/-! ### The bytes of a cell's body (section 12.7) -/

/-- Section 12.7: the five body bytes of a cell, the most significant first. -/
def bodyField (w : BitVec 40) : List Byte := [32, 24, 16, 8, 0].map fun low => w.extractLsb' low 8

theorem bodyField_eq (w : BitVec 40) : bodyField w = [byteOf (w.toNat / 2 ^ 32), byteOf (w.toNat / 2 ^ 24),
    byteOf (w.toNat / 2 ^ 16), byteOf (w.toNat / 2 ^ 8), byteOf w.toNat] := by
  simp only [byteOf_div_two_pow, byteOf_toNat_eq_extractLsb']
  rfl

theorem bodyField_sync (e : Half) (i : BitVec 12) (g : Byte) : bodyField (e ++ i ++ g ++ (0 : BitVec 4)) =
    [byteOf (e.toNat / 256), byteOf e.toNat, byteOf (i.toNat / 16), byteOf (i.toNat % 16 * 16 + g.toNat / 16),
      byteOf (g.toNat % 16 * 16)] := by
  have := i.isLt
  have := g.isLt
  have hw : (e ++ i ++ g ++ (0 : BitVec 4)).toNat = ((e.toNat * 2 ^ 12 + i.toNat) * 2 ^ 8 + g.toNat) * 2 ^ 4 := by
    rw [toNat_append, toNat_append, toNat_append]
    rfl
  rw [bodyField_eq, hw]
  simp only [List.cons.injEq, ← BitVec.toNat_inj, toNat_byteOf, and_true]
  omega

theorem bodyField_roll (g : Byte) (e : Half) : bodyField (g ++ e ++ (0 : BitVec 16)) =
    [g, byteOf (e.toNat / 256), byteOf e.toNat, 0, 0] := by
  have := e.isLt
  have := g.isLt
  have hzero : (0 : Byte).toNat = 0 := rfl
  have hw : (g ++ e ++ (0 : BitVec 16)).toNat = (g.toNat * 2 ^ 16 + e.toNat) * 2 ^ 16 := by
    rw [toNat_append, toNat_append]
    exact Nat.add_zero _
  rw [bodyField_eq, hw]
  simp only [List.cons.injEq, ← BitVec.toNat_inj, toNat_byteOf, and_true, hzero]
  omega

/-- Settles O14: a built cell's check holds by its check byte, so it reads by the table of kinds; the bodies are compared
as numbers. -/
theorem trunkCellsReadBack : Obligations.TrunkCellsReadBack := by
  unfold Obligations.TrunkCellsReadBack
  refine ⟨⟨by decide, by decide, fun tag htag => ⟨parseTrunkCell_sync htag, parseTrunkCell_roll htag,
    parseTrunkCell_clear htag⟩⟩, fun tag e i g => ⟨?syncBytes, ?rollBytes, rfl⟩, TrunkCell.sum_build,
    fun bytes h => h.elim parseTrunkCell_of_length parseTrunkCell_of_sum,
    fun kind tag b2 b3 b4 b5 b6 check => ?reading⟩
  case syncBytes => exact congrArg ([0xC1, tag] ++ ·) (bodyField_sync e i g).symm
  case rollBytes => exact congrArg ([0xC2, tag] ++ ·) (bodyField_roll g e).symm
  case reading =>
    intro read hsum
    have hread : read = _ := parseTrunkCell_of_check hsum
    rw [hread]
    refine ⟨fun hk => if_pos hk, fun hk ht => ?_, fun h0 h1 h2 h3 => ?_, fun ht => ⟨?_, ?_, ?_⟩⟩
    · rw [if_neg hk, if_pos ht]
    · rw [if_neg h0, if_neg h1, if_neg h2, if_neg h3, ite_self]
    · rintro rfl
      rw [if_neg (by decide), if_neg ht, if_pos rfl, ofNat_index_eq, byteOf_gen_eq]
    · rintro rfl
      rw [if_neg (by decide), if_neg ht, if_neg (by decide), if_pos rfl]
    · rintro rfl
      rw [if_neg (by decide), if_neg ht, if_neg (by decide), if_neg (by decide), if_pos rfl]

end Sys2Proof.Machine
end

section
/-! PROOFS. The host link (R169 to R171) and the notice queue (R174): the receive frame assembly byte by byte, the
check, the reply list, and a notice joining the queue. -/

namespace Sys2Proof.Machine

variable {s t : State} {c : Instr} {code b : Byte} {body bytes : List Byte}

/-! ### Notices (R174, R176) -/

theorem State.notify_of_disabled {kind : NoticeKind} (h : s.notices.enabled kind = false) (subject : Nat)
    (detail : Half) : s.notify kind subject detail = s := by
  simp [State.notify, NoticeUnit.push, h]

theorem State.notify_of_room {kind : NoticeKind} (h : s.notices.enabled kind = true)
    (hroom : s.notices.queue.length < 64) (subject : Nat) (detail : Half) : s.notify kind subject detail =
      { s with notices := { s.notices with
          queue := s.notices.queue ++ [⟨kind, byteOf subject, detail, s.line.blockCount⟩], attention := true } } := by
  simp [State.notify, NoticeUnit.push, h, hroom]

theorem State.notify_of_full {kind : NoticeKind} (h : s.notices.enabled kind = true)
    (hfull : s.notices.queue.length = 64) (subject : Nat) (detail : Half) : s.notify kind subject detail =
      { s with notices := { s.notices with
          queue := s.notices.queue.drop 1 ++ [⟨kind, byteOf subject, detail, s.line.blockCount⟩]
          overrun := true, attention := true } } := by
  simp [State.notify, NoticeUnit.push, h, hfull]

/-- Settles O20: the mask's bit by the kind; the queue by whether it is full. -/
theorem noticesJoinTheQueue : Obligations.NoticesJoinTheQueue := by
  unfold Obligations.NoticesJoinTheQueue
  refine ⟨fun u kind => by cases kind <;> rfl, fun s kind subject detail => ?queue⟩
  intro e
  refine ⟨fun h => ?disabled, fun h hroom => ?room, fun h hfull => ?full, rfl⟩
  case disabled => exact State.notify_of_disabled h subject detail
  case room => exact State.notify_of_room h hroom subject detail
  case full =>
    have hpush := State.notify_of_full h hfull subject detail
    cases hq : s.notices.queue with
    | nil => simp [hq] at hfull
    | cons oldest kept =>
      rw [hq] at hpush
      exact ⟨oldest, kept, rfl, hpush⟩

/-! ### The receive frame assembly (R169) -/

theorem State.setAssembly_self {a : Assembly} (h : s.link.assembly = a) : s.setAssembly a = s := by
  subst h
  rfl

@[simp] theorem State.setAssembly_setAssembly (a a' : Assembly) : (s.setAssembly a).setAssembly a' = s.setAssembly a' :=
  rfl

@[simp] theorem State.setAssembly_link_assembly (a : Assembly) : (s.setAssembly a).link.assembly = a := rfl

theorem linkByte_start (h : s.link.assembly = .searching) : s.linkByte 0xA7 = s.setAssembly .awaitLength := by
  simp [State.linkByte, h, startByte]

theorem linkByte_noise (h : s.link.assembly = .searching) (hb : b ≠ 0xA7) : s.linkByte b = s := by
  rw [State.linkByte, h]
  exact if_neg hb

theorem lengthDiscards_iff : lengthDiscards b = true ↔ b.toNat = 0 ∨ 250 < b.toNat := by
  simp [lengthDiscards]

theorem linkByte_length (h : s.link.assembly = .awaitLength) (hlow : 1 ≤ b.toNat) (hhigh : b.toNat ≤ 250) :
    s.linkByte b = s.setAssembly (.collecting b []) := by
  have hno : ¬lengthDiscards b = true := by
    rw [lengthDiscards_iff]
    omega
  simp only [State.linkByte, h, hno]
  rfl

theorem linkByte_badLength (h : s.link.assembly = .awaitLength) (hb : b.toNat = 0 ∨ 250 < b.toNat) :
    s.linkByte b = s.setAssembly .searching := by
  simp only [State.linkByte, h, lengthDiscards_iff.2 hb, if_true]

section
variable {len : Byte}

theorem linkByte_collect (h : s.link.assembly = .collecting len bytes) (hlen : bytes.length + 1 < len.toNat + 2) :
    s.linkByte b = s.setAssembly (.collecting len (bytes ++ [b])) := by
  simp [State.linkByte, h, Nat.lt_of_succ_lt_succ hlen]

theorem linkByte_last (h : s.link.assembly = .collecting len bytes) (hlen : bytes.length + 1 = len.toNat + 2) :
    s.linkByte b = (s.setAssembly .searching).endFrame len (bytes ++ [b]) := by
  simp only [State.linkByte, h]
  rw [if_neg (by simp [hlen])]

end

theorem exec_linkByte (hs : s.resetAsserted = false) : exec (.linkByteReceived b) s = .next (s.linkByte b) :=
  whenInService_next hs

theorem exec_unknownRequest (hs : s.resetAsserted = false) (hcode : knownRequest code = false) :
    exec (.unknownRequest code) s = .next (s.takeUnknown code) := by
  rw [exec, execUnknownRequest, whenInService_next hs, hcode]
  rfl

theorem takeUnknown_ready (hw : s.link.waiting < Config.replyRoom) :
    s.takeUnknown code = s.answered code .unknownRequest [] :=
  takeRequest_now hw rfl

theorem answerBadFrame_ready (hw : s.link.waiting < Config.replyRoom) :
    s.answerBadFrame = s.answered 0xFF .badFrame [] :=
  if_pos hw

theorem answerBadFrame_full (hw : Config.replyRoom ≤ s.link.waiting) : s.answerBadFrame = s :=
  if_neg (Nat.not_lt.2 hw)

theorem toNat_replyCode (h : code.toNat < 128) : (replyCode code).toNat = code.toNat + 128 := by
  rw [replyCode, if_pos h, toNat_byteOf]
  omega

theorem replyCode_of_high (h : 128 ≤ code.toNat) : replyCode code = 0xFF := if_neg (Nat.not_lt.2 h)

/-- Settles O18: each event by the state of the assembly. -/
theorem linkEventsDriveTheAssembly : Obligations.LinkEventsDriveTheAssembly := by
  unfold Obligations.LinkEventsDriveTheAssembly
  intro s hs
  refine ⟨fun h => ?start, fun b h hb => ?noise, fun b h hlow hhigh => ?length, fun b h hb => ⟨?badByte, ?discard⟩,
    fun len bytes b h hlen => ?collect, ?gap, fun hw => ⟨?badFrame, fun code hcode => ?unknown⟩,
    rfl, fun _ => toNat_replyCode, fun _ => replyCode_of_high⟩
  case start => rw [exec_linkByte hs, linkByte_start h]
  case noise => rw [exec_linkByte hs, linkByte_noise h hb]
  case length => rw [exec_linkByte hs, linkByte_length h hlow hhigh]
  case badByte => rw [exec_linkByte hs, linkByte_badLength h hb]
  case discard =>
    rw [exec, execFrameLengthDiscard, whenInService_next hs, h, lengthDiscards_iff.2 hb]
    rfl
  case collect => rw [exec_linkByte hs, linkByte_collect h hlen]
  case gap => rw [exec, execFrameGapTimeout, whenInService_next hs]
  case badFrame =>
    rw [exec, execBadFrame, whenInService_next hs]
    exact congrArg _ (answerBadFrame_ready (s := s.setAssembly .searching) hw)
  case unknown => rw [exec_unknownRequest hs hcode, takeUnknown_ready hw]

/-! ### Replies (R170, R171) -/

theorem Link.depart_of_made {l : Link} {r : Reply} {rest : List (Option Reply)} (h : l.replies = some r :: rest) :
    l.depart = { l with leaving := some r, replies := rest } := by
  simp [Link.depart, Link.send, h]

theorem Link.depart_of_held {l : Link} (h : l.replies = [] ∨ ∃ rest, l.replies = none :: rest) :
    l.depart = { l with leaving := none } := by
  rcases h with h | ⟨rest, h⟩ <;> simp [Link.depart, Link.send, h]

/-- Behind a reply that is leaving, or an outstanding place, a reply joins the list and nothing is sent. -/
theorem Link.push_of_held {l : Link} {r : Option Reply}
    (h : l.leaving.isSome = true ∨ ∃ rest, l.replies = none :: rest) :
    l.push r = { l with replies := l.replies ++ [r] } := by
  rcases Link.send_cases { l with replies := l.replies ++ [r] } with ⟨x, rest, hleave, hhead, -⟩ | ⟨hsend, -⟩
  · exfalso
    rcases h with h | ⟨tl, htl⟩
    · simp [show l.leaving = none from hleave] at h
    · simp [htl] at hhead
  · exact hsend

theorem takeFrame_full (hw : ¬s.link.waiting < Config.replyRoom) : State.takeFrame code body s = s := by
  unfold State.takeFrame
  split <;> exact takeRequest_full hw

/-- Settles O19: the frame's bytes are its definition; the list by what stands at its head; with 16 replies waiting no
taking has an effect. -/
theorem repliesLeaveInOrderAndFramesAreDiscarded : Obligations.RepliesLeaveInOrderAndFramesAreDiscarded := by
  unfold Obligations.RepliesLeaveInOrderAndFramesAreDiscarded
  refine ⟨fun status => by cases status <;> rfl, fun code status body => ?frame,
    fun s hs => ⟨fun r rest h => ?next, fun h => ?held, fun code st body h => ?behind⟩,
    fun s hs hw => ⟨fun c hc => ?request, fun code => ?unknown, ?discarded, ?bad⟩⟩
  case frame =>
    dsimp only
    rw [Reply.frame, bytes16_toNat]
    simp [startByte]
  case next =>
    rw [exec, execReplyDeparture, whenInService_next hs]
    exact congrArg (fun l => Host.Outcome.next { s with link := l }) (Link.depart_of_made h)
  case held =>
    rw [exec, execReplyDeparture, whenInService_next hs]
    exact congrArg (fun l => Host.Outcome.next { s with link := l }) (Link.depart_of_held h)
  case behind =>
    have hpush := Link.push_of_held (r := some ⟨replyCode code, st, body⟩) h
    have hlink : (s.answered code st body).link = _ := hpush
    rw [hlink]
    exact ⟨rfl, rfl⟩
  case request =>
    obtain ⟨⟨code, body⟩, hreq⟩ := Option.isSome_iff_exists.1 hc
    rw [exec_request hreq, whenInService_next hs, takeFrame_full (Nat.not_lt.2 hw)]
  case unknown =>
    rw [exec, execUnknownRequest, whenInService_next hs, State.takeUnknown, takeRequest_full (Nat.not_lt.2 hw), ite_self]
  case discarded =>
    rw [exec, execFrameDiscarded, whenInService_next hs, if_neg (Nat.not_lt.2 hw)]
    rfl
  case bad =>
    rw [exec, execBadFrame, whenInService_next hs]
    exact congrArg _ (answerBadFrame_full (s := s.setAssembly .searching) hw)

/-! ### The check (R169) -/

/-- R169: one bit of the check, as a number. -/
def crcCarry (r : Half) : Half :=
  if 2 ^ 15 ≤ r.toNat then BitVec.ofNat 16 (2 * r.toNat) ^^^ 0x1021 else BitVec.ofNat 16 (2 * r.toNat)

theorem shiftLeft_one_eq (r : Half) : r <<< 1 = BitVec.ofNat 16 (2 * r.toNat) := by
  refine BitVec.eq_of_toNat_eq ?_
  rw [BitVec.toNat_shiftLeft, BitVec.toNat_ofNat, Nat.shiftLeft_eq, pow_one, Nat.mul_comm]

theorem crcShift_eq (r : Half) : crcShift r = crcCarry r := by
  have hmsb : r.msb = true ↔ 2 ^ 15 ≤ r.toNat := by rw [BitVec.msb_eq_decide, decide_eq_true_iff]
  simp only [crcShift, crcCarry, shiftLeft_one_eq, hmsb]

theorem ofNat_mul_256 (b : Byte) : BitVec.ofNat 16 (b.toNat * 256) = b ++ (0 : Byte) := by
  refine BitVec.eq_of_toNat_eq ?_
  have := b.isLt
  have hzero : (0 : Byte).toNat = 0 := rfl
  rw [toNat_append, BitVec.toNat_ofNat, hzero]
  omega

theorem crc16_append (bytes : List Byte) (b : Byte) :
    crc16 (bytes ++ [b]) = crcCarry^[8] (crc16 bytes ^^^ (b ++ (0 : Byte))) := by
  rw [crc16, List.foldl_append, ← crc16]
  simp only [List.foldl_cons, List.foldl_nil, crcByte, crcShift_eq, ofNat_mul_256, Nat.iterate]

/-! ### The bytes of a frame taken one after another (R169, R170) -/

theorem takeAll_append {l k : List Instr} (h : takeAll l s = .next t) : takeAll (l ++ k) s = takeAll k t := by
  induction l generalizing s with
  | nil =>
    cases h
    rfl
  | cons c rest ih =>
    rw [List.cons_append, takeAll]
    rw [takeAll] at h
    cases hc : exec c s with
    | next u =>
      rw [hc] at h
      exact ih h
    | fault r => rw [hc] at h; nomatch h
    | refused r => rw [hc] at h; nomatch h

/-- Bytes short of the frame's end are collected. -/
theorem takeAll_collect {len : Byte} (more : List Byte) (hs : s.resetAsserted = false)
    (h : s.link.assembly = .collecting len bytes) (hlen : bytes.length + more.length < len.toNat + 2) :
    takeAll (more.map .linkByteReceived) s = .next (s.setAssembly (.collecting len (bytes ++ more))) := by
  induction more generalizing s bytes with
  | nil =>
    rw [List.append_nil]
    exact congrArg _ (State.setAssembly_self h).symm
  | cons b more ih =>
    rw [List.length_cons] at hlen
    rw [List.map_cons, takeAll, exec_linkByte hs, linkByte_collect h (by omega)]
    dsimp only
    rw [ih (s := s.setAssembly (.collecting len (bytes ++ [b]))) hs rfl
      (by rw [List.length_append, List.length_singleton]; omega), State.setAssembly_setAssembly, List.append_assoc]
    rfl

theorem toNat_byteOf_length (hfit : bodyFits body = true) : (byteOf (body.length + 1)).toNat = body.length + 1 := by
  have : body.length ≤ 249 := by simpa [bodyFits] using hfit
  rw [toNat_byteOf]
  omega

/-- R169: the bytes of a whole frame end in its check and its taking. -/
theorem takeAll_frame (c1 c2 : Byte) (hfit : bodyFits body = true) (hs : s.resetAsserted = false)
    (h : s.link.assembly = .searching) :
    takeAll ((startByte :: byteOf (body.length + 1) :: code :: body ++ [c1, c2]).map .linkByteReceived) s =
      .next (s.endFrame (byteOf (body.length + 1)) (code :: body ++ [c1, c2])) := by
  have hlen := toNat_byteOf_length hfit
  have hbody : body.length ≤ 249 := by simpa [bodyFits] using hfit
  have hstart : takeAll ([startByte, byteOf (body.length + 1)].map .linkByteReceived) s =
      .next (s.setAssembly (.collecting (byteOf (body.length + 1)) [])) := by
    rw [List.map_cons, takeAll, exec_linkByte hs, startByte, linkByte_start h]
    dsimp only
    rw [List.map_cons, takeAll, exec_linkByte (s := s.setAssembly .awaitLength) hs,
      linkByte_length rfl (by omega) (by omega)]
    rfl
  have hmid := takeAll_collect (s := s.setAssembly (.collecting (byteOf (body.length + 1)) [])) (code :: body ++ [c1]) hs
    rfl (by simp [hlen])
  have hreset : ∀ a, (s.setAssembly a).resetAsserted = false := fun _ => hs
  have hsplit : startByte :: byteOf (body.length + 1) :: code :: body ++ [c1, c2] =
      [startByte, byteOf (body.length + 1)] ++ ((code :: body ++ [c1]) ++ [c2]) := by simp
  rw [hsplit, List.map_append, takeAll_append hstart, List.map_append, takeAll_append hmid, State.setAssembly_setAssembly,
    List.map_cons, takeAll, exec_linkByte (hreset _), linkByte_last rfl (by simp [hlen])]
  simp [takeAll, State.setAssembly_self h]

theorem endFrame_frame (c1 c2 : Byte) (hfit : bodyFits body = true) :
    s.endFrame (byteOf (body.length + 1)) (code :: body ++ [c1, c2]) =
      if crc16 (byteOf (body.length + 1) :: code :: body) = c1 ++ c2 then s.takeFrame code body else s.answerBadFrame := by
  have hcontent : (code :: body ++ [c1, c2]).take (body.length + 1) = code :: body :=
    List.take_left' rfl
  have hc1 : byteAt (code :: body ++ [c1, c2]) (body.length + 1) = c1 := by
    simp [byteAt]
  have hc2 : byteAt (code :: body ++ [c1, c2]) (body.length + 1 + 1) = c2 := by
    simp [byteAt]
  rw [State.endFrame, toNat_byteOf_length hfit, hcontent, hc1, hc2]
  rfl

theorem takeAll_requestFrame (hfit : bodyFits body = true) (hs : s.resetAsserted = false)
    (h : s.link.assembly = .searching) :
    takeAll ((requestFrame code body).map .linkByteReceived) s = .next (s.takeFrame code body) := by
  have hframe := takeAll_frame (code := code) (byteOf ((crc16 (byteOf (body.length + 1) :: code :: body)).toNat / 256))
    (byteOf (crc16 (byteOf (body.length + 1) :: code :: body)).toNat) hfit hs h
  rw [endFrame_frame _ _ hfit, byteOf_append_byteOf, if_pos rfl] at hframe
  exact hframe

/-- R170: a code that is not in the index is an unknown request's. -/
theorem takeFrame_unknown (hcode : knownRequest code = false) : s.takeFrame code body = s.takeUnknown code := by
  have hrange : ¬(1 ≤ code.toNat ∧ code.toNat ≤ 29) := by simpa [knownRequest] using hcode
  unfold State.takeFrame
  split
  case h_30 => rfl
  all_goals
    rename_i hnat
    exact absurd (by rw [hnat]; decide) hrange

/-- Settles O16: the bytes of a frame end in the check of its content, and the good frame's taking is the request's. -/
theorem linkBytesAreTheRequest : Obligations.LinkBytesAreTheRequest := by
  unfold Obligations.LinkBytesAreTheRequest
  refine ⟨⟨rfl, crc16_append⟩, fun code body => ?bytes, fun c code body s hreq hfit hs h => ?known,
    fun code body s hcode hfit hs h => ?unknown, fun code c1 c2 body s hfit hcheck hs h => ?bad⟩
  case bytes =>
    dsimp only
    rw [requestFrame, bytes16_toNat]
    simp [startByte]
  case known => rw [takeAll_requestFrame hfit hs h, exec_request hreq, whenInService_next hs]
  case unknown => rw [takeAll_requestFrame hfit hs h, takeFrame_unknown hcode, exec_unknownRequest hs hcode]
  case bad =>
    rw [takeAll_frame c1 c2 hfit hs h, endFrame_frame c1 c2 hfit, if_neg hcheck.symm, exec, execBadFrame,
      whenInService_next hs, State.setAssembly_self h]

end Sys2Proof.Machine
end

section
/-! PROOFS. The bodies of the requests (R106, R170, section 12.7): a body written from its arguments reads back as them,
and one of a wrong length or out of range is refused with BAD_ARGUMENT. -/

namespace Sys2Proof.Machine

variable {b : Byte} {body bytes : List Byte} {i j : Nat}

/-! ### Single fields: what a byte reads as -/

theorem legNoOf_byteOf (n : LegNo) : legNoOf (byteOf n) = some n := by
  have := n.isLt
  have hn : (byteOf n).toNat = n := by rw [toNat_byteOf]; omega
  simp [legNoOf, hn]

theorem confNoOf_byteOf (c : ConfNo) : confNoOf (byteOf c) = some c := by
  have := c.isLt
  have hc : (byteOf c).toNat = c := by rw [toNat_byteOf]; omega
  simp [confNoOf, hc]

theorem groupOf_byteOf (g : Fin 16) : groupOf (byteOf g) = some g := by
  have := g.isLt
  have hg : (byteOf g).toNat = g := by rw [toNat_byteOf]; omega
  simp [groupOf, hg]

theorem voiceSlot_byteOf {k : Slot} (h : k ≠ 0) : voiceSlot (byteOf k) = some k := by
  have := k.isLt
  have hk : (byteOf k).toNat = k := by rw [toNat_byteOf]; omega
  have h0 : k.val ≠ 0 := fun h0 => h (Fin.ext h0)
  simp [voiceSlot, hk, h0]

theorem handleOf_byteOf (h : Handle) : handleOf (byteOf h) = h := by
  have := h.isLt
  have hh : (byteOf h).toNat = h := by rw [toNat_byteOf]; omega
  exact Fin.ext hh

theorem modeOf_value (m : ScrambleMode) : modeOf m.value = some m := by
  cases m <;> rfl

theorem scopeOf_value (f : FaultScope) : scopeOf f.value = some f := by
  cases f <;> rfl

theorem classOf_value (c : ExtClass) : classOf c.value = some c := by
  obtain ⟨a, b, r⟩ := c
  cases a <;> cases b <;> cases r <;> rfl

theorem paramIdOf_value (p : ParamId) : paramIdOf p.value = some p := by
  cases p <;> rfl

theorem signedByte_byteOfInt {g : Int} (hlow : -6 ≤ g) (hhigh : g ≤ 6) : signedByte (byteOfInt g) = g := by
  interval_cases g <;> rfl

theorem clampGain_of_within {g : Int} (hlow : -6 ≤ g) (hhigh : g ≤ 6) : clampGain g = g := by
  rw [clampGain, if_neg (by omega), if_neg (by omega)]

theorem clampGain_range (g : Int) : -6 ≤ clampGain g ∧ clampGain g ≤ 6 := by
  unfold clampGain
  split
  · omega
  · split <;> omega

/-! ### A field read at its place in a body -/

theorem byteAt_drop (body : List Byte) (i j : Nat) : byteAt (body.drop i) j = byteAt body (i + j) := by
  simp [byteAt, List.getElem?_drop]

theorem keySettingAt_drop (body : List Byte) (i : Nat) : keySettingAt body i = keySettingAt (body.drop i) 0 := by
  simp only [keySettingAt, keyAt, wheelWordAt, byteAt_drop, Nat.zero_add, Nat.add_assoc, Nat.add_zero]

theorem numberAt_drop (body : List Byte) (i : Nat) : numberAt body i = numberAt (body.drop i) 0 := by
  simp only [numberAt, byteAt_drop, Nat.zero_add, Nat.add_zero]

theorem refAt_drop (nextAllowed : Bool) (body : List Byte) (i : Nat) :
    refAt nextAllowed body i = refAt nextAllowed (body.drop i) 0 := by
  simp only [refAt, numberAt, byteAt_drop, Nat.zero_add, Nat.add_zero, Nat.add_assoc]

theorem wheelWord_bytes (w : WheelWord) : byteOf (w.toNat / 65536) ++ byteOf (w.toNat / 256) ++ byteOf w.toNat = w := by
  refine BitVec.eq_of_toNat_eq ?_
  have := w.isLt
  rw [toNat_append, toNat_append, toNat_byteOf, toNat_byteOf, toNat_byteOf]
  omega

theorem keyAt_keyField (k : Key) (after : List Byte) : keyAt (keyField k ++ after) 0 = k := by
  have hhi : wheelWordAt (keyField k ++ after) 0 = k.hi := wheelWord_bytes k.hi
  have hlo : wheelWordAt (keyField k ++ after) 3 = k.lo := wheelWord_bytes k.lo
  rw [keyAt, hhi, hlo]

theorem keySettingAt_settingField {k : KeySetting} (h : k.gen ≠ 0) (after : List Byte) :
    keySettingAt (settingField k ++ after) 0 = some k := by
  have hmode : modeOf (byteAt (settingField k ++ after) 1) = some k.mode := modeOf_value k.mode
  have hscramble : keyAt (settingField k ++ after) 2 = k.scramble := keyAt_keyField k.scramble (keyField k.descramble ++ after)
  have hdescramble : keyAt (settingField k ++ after) 8 = k.descramble := keyAt_keyField k.descramble after
  rw [keySettingAt, hmode, hscramble, hdescramble]
  exact if_neg h

/-- Section 12.7: the two digits of a byte. -/
theorem digits_of_byte (a b : BitVec 4) :
    BitVec.ofNat 4 ((byteOf (a.toNat * 16 + b.toNat)).toNat / 16) = a ∧
      BitVec.ofNat 4 (byteOf (a.toNat * 16 + b.toNat)).toNat = b := by
  have := a.isLt
  have := b.isLt
  constructor <;>
  · refine BitVec.eq_of_toNat_eq ?_
    rw [BitVec.toNat_ofNat, toNat_byteOf]
    omega

/-- Section 12.7: the six digit places of three bytes. -/
theorem digitPlaces_bytes (a b c d e f : BitVec 4) : digitPlaces (byteOf (a.toNat * 16 + b.toNat))
    (byteOf (c.toNat * 16 + d.toNat)) (byteOf (e.toNat * 16 + f.toNat)) = [a, b, c, d, e, f] := by
  simp only [digitPlaces, List.flatMap_cons, digits_of_byte]
  rfl

/-- Section 12.7: a number's bytes hold its digits, the unused places 0xF. -/
theorem digitPlaces_numberBytes (n : ExtNumber) : digitPlaces (byteAt (numberBytes n) 1) (byteAt (numberBytes n) 2)
      (byteAt (numberBytes n) 3) =
    [n.getD 0 0xF, n.getD 1 0xF, n.getD 2 0xF, n.getD 3 0xF, n.getD 4 0xF, n.getD 5 0xF] :=
  digitPlaces_bytes ..

theorem take_digitPlaces {n : ExtNumber} (h : n.length ≤ 6) :
    ([n.getD 0 0xF, n.getD 1 0xF, n.getD 2 0xF, n.getD 3 0xF, n.getD 4 0xF, n.getD 5 0xF] : List (BitVec 4)).take
      n.length = n := by
  have hrange : [n.getD 0 0xF, n.getD 1 0xF, n.getD 2 0xF, n.getD 3 0xF, n.getD 4 0xF, n.getD 5 0xF] =
    (List.range 6).map fun j => n.getD j 0xF := rfl
  rw [hrange]
  refine List.ext_getElem (by simp [h]) fun j hj hn => ?_
  simp [hn]

theorem numberAt_numberBytes {n : ExtNumber} (h : validNumber n = true) (after : List Byte) :
    numberAt (numberBytes n ++ after) 0 = some n := by
  obtain ⟨⟨hlow, hhigh⟩, hdigits⟩ : (2 ≤ n.length ∧ n.length ≤ 6) ∧ n.all (fun d => d.toNat ≤ 9) = true := by
    simpa only [validNumber, Bool.and_eq_true, decide_eq_true_eq] using h
  have hcount : (byteOf n.length).toNat = n.length := by
    rw [toNat_byteOf]
    omega
  have hread : numberAt (numberBytes n ++ after) 0 = parseNumber (byteOf n.length) (byteAt (numberBytes n) 1)
    (byteAt (numberBytes n) 2) (byteAt (numberBytes n) 3) := rfl
  rw [hread, parseNumber, hcount, digitPlaces_numberBytes, take_digitPlaces hhigh, hdigits, decide_eq_true hlow,
    decide_eq_true hhigh]
  rfl

theorem refAt_refField {r : ExtRef} {nextAllowed : Bool} (h : validRef r = true)
    (hnext : nextAllowed = true ∨ ∀ k, r ≠ .nextAt k) (after : List Byte) :
    refAt nextAllowed (refField r ++ after) 0 = some r := by
  cases r with
  | number n => exact congrArg (Option.map _) (numberAt_numberBytes h after)
  | handle k => exact congrArg (fun h => some (ExtRef.handle h)) (handleOf_byteOf k)
  | nextAt k =>
    have hallowed : nextAllowed = true := hnext.resolve_right fun hno => hno k rfl
    subst hallowed
    exact congrArg (fun h => some (ExtRef.nextAt h)) (handleOf_byteOf k)

/-! ### The bodies read back (section 12.7) -/

theorem parseLegOpen_body {a : LegOpenArgs} (h : a.valid = true) : parseLegOpen a.body = some a := by
  obtain ⟨⟨⟨⟨⟨howner, hslot⟩, htag⟩, hgen⟩, hlow⟩, hhigh⟩ : ((((validNumber a.owner = true ∧ a.slot ≠ 0) ∧
      a.farTag ≠ some 0) ∧ a.setting.gen ≠ 0) ∧ -6 ≤ a.gain) ∧ a.gain ≤ 6 := by
    simpa only [LegOpenArgs.valid, Bool.and_eq_true, decide_eq_true_eq, bne_iff_ne] using h
  have hlength : a.body.length = 26 := rfl
  have hleg : legNoOf (byteAt a.body 0) = some a.leg := legNoOf_byteOf a.leg
  have hnumber : numberAt a.body 1 = some a.owner := by
    rw [numberAt_drop]
    exact numberAt_numberBytes howner (a.body.drop 5)
  have hvoice : voiceSlot (byteAt a.body 5) = some a.slot := voiceSlot_byteOf hslot
  have hasTag : optOf (byteAt a.body 6) = some a.farTag.isSome := optOf_bitByte _
  have hsetting : keySettingAt a.body 8 = some a.setting := by
    rw [keySettingAt_drop]
    exact keySettingAt_settingField hgen (a.body.drop 22)
  have hepoch : halfAt a.body 22 = a.epoch := byteOf_append_byteOf a.epoch
  have hgain : clampGain (signedByte (byteAt a.body 24)) = a.gain := by
    have hbyte : byteAt a.body 24 = byteOfInt a.gain := rfl
    rw [hbyte, signedByte_byteOfInt hlow hhigh, clampGain_of_within hlow hhigh]
  have hconnect : optOf (byteAt a.body 25) = some a.connect := optOf_bitByte _
  have htagByte : byteAt a.body 7 = a.farTag.getD 0 := rfl
  simp only [parseLegOpen, hlength, hleg, hnumber, hvoice, hasTag, hsetting, hepoch, hgain, hconnect, htagByte]
  obtain ⟨leg, owner, slot, farTag, setting, epoch, gain, connect⟩ := a
  cases farTag with
  | none => rfl
  | some tag =>
    have h0 : tag ≠ 0 := fun h0 => htag (congrArg some h0)
    simpa using h0

theorem parseLeg_byteOf (n : LegNo) : parseLeg [byteOf n] = some n := legNoOf_byteOf n

theorem parseLegLevel_bytes (n : LegNo) (g : Byte) : parseLegLevel [byteOf n, g] = some (n, clampGain g.toInt) :=
  congrArg (Option.map fun n => (n, clampGain g.toInt)) (legNoOf_byteOf n)

theorem parseLegRekey_body (n : LegNo) {k : KeySetting} (h : k.gen ≠ 0) : parseLegRekey (rekeyBody n k) = some (n, k) := by
  have hlength : (rekeyBody n k).length = 15 := rfl
  have hleg : legNoOf (byteAt (rekeyBody n k) 0) = some n := legNoOf_byteOf n
  have hsetting : keySettingAt (rekeyBody n k) 1 = some k := by
    rw [keySettingAt_drop]
    exact keySettingAt_settingField h []
  simp [parseLegRekey, hlength, hleg, hsetting]

theorem parseLegRead_bytes (n : LegNo) (o : Bool) : parseLegRead [byteOf n, bitByte o] = some (n, o) := by
  have hleg : legNoOf (byteAt [byteOf n, bitByte o] 0) = some n := legNoOf_byteOf n
  have hopt : optOf (byteAt [byteOf n, bitByte o] 1) = some o := optOf_bitByte o
  simp [parseLegRead, hleg, hopt]

theorem parseExtLoad_body {a : ExtLoadArgs} (h : validNumber a.number = true) : parseExtLoad a.body = some a := by
  have hlength : a.body.length = 13 := rfl
  have hnumber : numberAt a.body 0 = some a.number := numberAt_numberBytes h (a.body.drop 4)
  have hkey : keyAt a.body 4 = a.credential := keyAt_keyField a.credential (a.body.drop 10)
  have hcls : classOf (byteAt a.body 10) = some a.cls := classOf_value a.cls
  have hgroup : groupOf (byteAt a.body 11) = some a.group := groupOf_byteOf a.group
  have hscope : scopeOf (byteAt a.body 12) = some a.scope := scopeOf_value a.scope
  simp [parseExtLoad, hlength, hnumber, hkey, hcls, hgroup, hscope]

theorem length_refField (r : ExtRef) : (refField r).length = 5 := by
  cases r <;> rfl

theorem parseRef_refField {r : ExtRef} {nextAllowed : Bool} (h : validRef r = true)
    (hnext : nextAllowed = true ∨ ∀ k, r ≠ .nextAt k) : parseRef nextAllowed (refField r) = some r := by
  have hread := refAt_refField h hnext []
  rw [List.append_nil] at hread
  rw [parseRef, if_pos (length_refField r), hread]

theorem slotChangeAt_bytes (before after : List Byte) {k : Slot} (o : Bool) (h : k ≠ 0) :
    slotChangeAt (before ++ byteOf k :: bitByte o :: after) before.length = some (k, o) := by
  have hslot : byteAt (before ++ byteOf k :: bitByte o :: after) before.length = byteOf k := by
    simp [byteAt]
  have hopt : byteAt (before ++ byteOf k :: bitByte o :: after) (before.length + 1) = bitByte o := by
    simp [byteAt]
  rw [slotChangeAt, hslot, hopt, voiceSlot_byteOf h, optOf_bitByte]
  rfl

/-- R115: the changes read one after another behind the bytes before them. -/
theorem mapM_slotChangeAt (before : List Byte) {changes : List (Slot × Bool)} (h : ∀ c ∈ changes, c.1 ≠ 0) :
    (List.range changes.length).mapM (fun i => slotChangeAt
      (before ++ changes.flatMap fun c => [byteOf c.1, bitByte c.2]) (before.length + 2 * i)) = some changes := by
  induction changes generalizing before with
  | nil => rfl
  | cons c rest ih =>
    obtain ⟨k, o⟩ := c
    have hhead := slotChangeAt_bytes before (rest.flatMap fun c => [byteOf c.1, bitByte c.2]) o (h (k, o) (by simp))
    have htail := ih (before ++ [byteOf k, bitByte o]) fun c hc => h c (List.mem_cons_of_mem _ hc)
    have hshift : ∀ i, before.length + 2 * (i + 1) = (before ++ [byteOf k, bitByte o]).length + 2 * i := fun i => by
      simp only [List.length_append, List.length_cons, List.length_nil]
      omega
    have hbytes : before ++ ((k, o) :: rest).flatMap (fun c => [byteOf c.1, bitByte c.2]) =
        before ++ [byteOf k, bitByte o] ++ rest.flatMap fun c => [byteOf c.1, bitByte c.2] := by simp
    rw [List.length_cons, List.range_succ_eq_map, List.mapM_cons, List.mapM_map]
    simp only [Function.comp_def, Nat.succ_eq_add_one, hshift, hbytes, htail]
    rw [← hbytes]
    simp only [Nat.mul_zero, Nat.add_zero, List.flatMap_cons, List.cons_append, List.nil_append, hhead]
    rfl

theorem length_flatMap_changes (changes : List (Slot × Bool)) :
    (changes.flatMap fun c => [byteOf c.1, bitByte c.2]).length = 2 * changes.length := by
  induction changes with
  | nil => rfl
  | cons c rest ih =>
    rw [List.flatMap_cons, List.length_append, ih, List.length_cons]
    exact (Nat.add_comm _ _).trans (Nat.mul_succ 2 _).symm

theorem parseSlotMap_body (o : Bool) {changes : List (Slot × Bool)} (hroom : changes.length ≤ 63)
    (h : ∀ c ∈ changes, c.1 ≠ 0) : parseSlotMap (slotMapBody o changes) = some (o, changes) := by
  have hcount : (byteAt (slotMapBody o changes) 1).toNat = changes.length := by
    have hbyte : byteAt (slotMapBody o changes) 1 = byteOf changes.length := rfl
    rw [hbyte, toNat_byteOf]
    omega
  have hlength : (slotMapBody o changes).length = 2 + 2 * changes.length := by
    rw [slotMapBody, List.length_append, length_flatMap_changes]
    rfl
  have hopt : optOf (byteAt (slotMapBody o changes) 0) = some o := optOf_bitByte o
  have hchanges : (List.range changes.length).mapM (fun i => slotChangeAt (slotMapBody o changes) (2 + 2 * i)) =
    some changes := mapM_slotChangeAt [bitByte o, byteOf changes.length] h
  simp [parseSlotMap, hcount, hlength, hopt, hchanges, Nat.not_lt.2 hroom]

theorem parseConfOpen_body (c : ConfNo) {chair : Option ExtRef}
    (h : ∀ r, chair = some r → validRef r = true ∧ ∀ k, r ≠ .nextAt k) :
    parseConfOpen (confOpenBody c chair) = some (c, chair) := by
  have hconf : confNoOf (byteAt (confOpenBody c chair) 0) = some c := confNoOf_byteOf c
  have hopt : optOf (byteAt (confOpenBody c chair) 1) = some chair.isSome := optOf_bitByte _
  cases chair with
  | none =>
    have hlength : (confOpenBody c none).length = 7 := rfl
    simp [parseConfOpen, hlength, hconf, hopt]
  | some r =>
    obtain ⟨hvalid, hnext⟩ := h r rfl
    have hlength : (confOpenBody c (some r)).length = 7 := congrArg (· + 2) (length_refField r)
    have href : refAt false (confOpenBody c (some r)) 2 = some r := by
      have hread := refAt_refField (nextAllowed := false) hvalid (.inr hnext) []
      rw [List.append_nil] at hread
      rw [refAt_drop]
      exact hread
    simp [parseConfOpen, hlength, hconf, hopt, href]

theorem parseConfMember_leg (c : ConfNo) (n : LegNo) : parseConfMember (confMemberBody c (.leg n)) = some (c, .leg n) := by
  have hlength : (confMemberBody c (.leg n)).length = 8 := rfl
  have hconf : confNoOf (byteAt (confMemberBody c (.leg n)) 0) = some c := confNoOf_byteOf c
  have hkind : byteAt (confMemberBody c (.leg n)) 1 = 0 := rfl
  have hleg : legNoOf (byteAt (confMemberBody c (.leg n)) 2) = some n := legNoOf_byteOf n
  simp [parseConfMember, hlength, hconf, hkind, hleg]

theorem parseConfMember_local (c : ConfNo) {r : ExtRef} (h : validRef r = true) (hnext : ∀ k, r ≠ .nextAt k) :
    parseConfMember (confMemberBody c (.loc r)) = some (c, .loc r) := by
  have hlength : (confMemberBody c (.loc r)).length = 8 := congrArg (· + 3) (length_refField r)
  have hconf : confNoOf (byteAt (confMemberBody c (.loc r)) 0) = some c := confNoOf_byteOf c
  have hkind : byteAt (confMemberBody c (.loc r)) 1 = 1 := rfl
  have href : refAt false (confMemberBody c (.loc r)) 3 = some r := by
    have hread := refAt_refField (nextAllowed := false) h (.inr hnext) []
    rw [List.append_nil] at hread
    rw [refAt_drop]
    exact hread
  simp [parseConfMember, hlength, hconf, hkind, href]

theorem parseConfRead_bytes (c : ConfNo) (o : Bool) : parseConfRead [byteOf c, bitByte o] = some (c, o) := by
  have hconf : confNoOf (byteAt [byteOf c, bitByte o] 0) = some c := confNoOf_byteOf c
  have hopt : optOf (byteAt [byteOf c, bitByte o] 1) = some o := optOf_bitByte o
  simp [parseConfRead, hconf, hopt]

theorem parseParamSet_body (p : ParamId) (v : Half) : parseParamSet (paramBody p v) = some (p, v.toNat) := by
  have hid : paramIdOf (byteAt (paramBody p v) 0) = some p := paramIdOf_value p
  have hvalue : halfAt (paramBody p v) 1 = v := byteOf_append_byteOf v
  have hlength : (paramBody p v).length = 3 := rfl
  rw [parseParamSet, if_pos hlength, hid, hvalue]
  rfl

/-- Settles O15: each body's fields read back at their places. -/
theorem requestBodiesReadBack : Obligations.RequestBodiesReadBack := by
  unfold Obligations.RequestBodiesReadBack
  exact ⟨fun _ => parseLegOpen_body, parseLeg_byteOf, parseLegLevel_bytes, fun n _ => parseLegRekey_body n,
    parseLegRead_bytes, parseOpt_bitByte, rfl, fun _ => parseExtLoad_body, fun _ h => parseRef_refField h (.inl rfl),
    fun _ h hnext => parseRef_refField h (.inr hnext), fun o _ => parseSlotMap_body o,
    fun c _ => parseConfOpen_body c, parseConfMember_leg, fun c _ => parseConfMember_local c, confNoOf_byteOf,
    parseConfRead_bytes, parseParamSet_body, fun _ => parseFetch_byteOf,
    fun _ h => ⟨parseNoticeMask_of_lt true h, parseNoticeMask_of_lt false h⟩⟩

end Sys2Proof.Machine
end

section
/-! PROOFS. Bodies that do not read (R54, R106, R170): a body that reads has the length of the index and its arguments
in range, so any other is refused with BAD_ARGUMENT. -/

namespace Sys2Proof.Machine

variable {s : State} {b : Byte} {body : List Byte} {i : Nat}

/-! ### Single fields: what reads is in range -/

theorem legNoOf_range {n : LegNo} (h : legNoOf b = some n) : b.toNat < 32 := by
  unfold legNoOf at h
  split at h
  · assumption
  · nomatch h

theorem confNoOf_range {c : ConfNo} (h : confNoOf b = some c) : b.toNat < 8 := by
  unfold confNoOf at h
  split at h
  · assumption
  · nomatch h

theorem groupOf_range {g : Fin 16} (h : groupOf b = some g) : b.toNat < 16 := by
  unfold groupOf at h
  split at h
  · assumption
  · nomatch h

theorem classOf_range {c : ExtClass} (h : classOf b = some c) : b.toNat < 8 := by
  unfold classOf at h
  split at h
  · assumption
  · nomatch h

theorem voiceSlot_range {k : Slot} (h : voiceSlot b = some k) : 0 < b.toNat ∧ b.toNat < 64 := by
  unfold voiceSlot at h
  split at h
  · split at h
    · nomatch h
    · omega
  · nomatch h

theorem optOf_range {o : Bool} (h : optOf b = some o) : b.toNat < 2 ∧ (b.toNat = 1 ↔ o = true) := by
  unfold optOf at h
  split at h
  next h0 => cases h; subst h0; decide
  next =>
    split at h
    next h1 => cases h; subst h1; decide
    next => nomatch h

theorem modeOf_range {m : ScrambleMode} (h : modeOf b = some m) : b.toNat < 3 := by
  unfold modeOf at h
  split at h
  next h0 => subst h0; decide
  next =>
    split at h
    next h1 => subst h1; decide
    next =>
      split at h
      next h2 => subst h2; decide
      next => nomatch h

theorem scopeOf_range {f : FaultScope} (h : scopeOf b = some f) : b.toNat < 3 := by
  unfold scopeOf at h
  split at h
  next h0 => subst h0; decide
  next =>
    split at h
    next h1 => subst h1; decide
    next =>
      split at h
      next h2 => subst h2; decide
      next => nomatch h

theorem toNat_ne_zero_iff : b.toNat ≠ 0 ↔ b ≠ 0 := by
  rw [ne_eq, ne_eq, ← BitVec.toNat_inj]
  rfl

theorem paramIdOf_range {p : ParamId} (h : paramIdOf b = some p) : 0 < b.toNat ∧ b.toNat ≤ 8 := by
  obtain ⟨q, hq, hp⟩ := Option.bind_eq_some_iff.1 h
  have hplace := (List.getElem?_eq_some_iff.1 hq).1
  split at hp
  · nomatch hp
  next h0 =>
    have := toNat_ne_zero_iff.2 h0
    simp only [List.length_cons, List.length_nil] at hplace
    omega

theorem keySettingAt_range {k : KeySetting} (h : keySettingAt body i = some k) :
    (byteAt body i).toNat ≠ 0 ∧ (byteAt body (i + 1)).toNat < 3 := by
  obtain ⟨m, hm, hk⟩ := Option.bind_eq_some_iff.1 h
  split at hk
  · nomatch hk
  next h0 => exact ⟨toNat_ne_zero_iff.2 h0, modeOf_range hm⟩

/-! ### Numbers and references in range (R106) -/

/-- Section 12.7: the six digit places, by their place. -/
theorem getElem?_digitPlaces (bytes : List Byte) {j : Nat} (h : j < 6) :
    (digitPlaces (byteAt bytes 1) (byteAt bytes 2) (byteAt bytes 3))[j]? = some (digitPlace bytes j) := by
  have hhigh : ∀ c : Byte, BitVec.ofNat 4 (c.toNat / 16) = c.extractLsb' 4 4 := fun c =>
    congrArg (BitVec.ofNat 4) (Nat.shiftRight_eq_div_pow _ 4).symm
  have hlow : ∀ c : Byte, BitVec.ofNat 4 c.toNat = c.extractLsb' 0 4 := fun c => rfl
  interval_cases j
  · exact congrArg some (hhigh _)
  · exact congrArg some (hlow _)
  · exact congrArg some (hhigh _)
  · exact congrArg some (hlow _)
  · exact congrArg some (hhigh _)
  · exact congrArg some (hlow _)

theorem numberAt_fits {n : ExtNumber} (h : numberAt body i = some n) : NumberFits (body.drop i) := by
  rw [numberAt_drop] at h
  simp only [numberAt, parseNumber] at h
  split at h
  next hfit =>
    obtain ⟨⟨hlow, hhigh⟩, hdigits⟩ := by simpa only [Bool.and_eq_true, decide_eq_true_eq, List.all_eq_true] using hfit
    refine ⟨hlow, hhigh, fun j hj => hdigits _ ?_⟩
    have hplace := getElem?_digitPlaces (body.drop i) (Nat.lt_of_lt_of_le hj hhigh)
    refine List.mem_iff_getElem?.2 ⟨j, ?_⟩
    rw [List.getElem?_take_of_lt hj]
    exact hplace
  next => nomatch h

theorem refAt_fits {r : ExtRef} {nextAllowed : Bool} (h : refAt nextAllowed body i = some r) :
    RefFits nextAllowed (body.drop i) := by
  rw [refAt_drop] at h
  simp only [refAt] at h
  split at h
  next h0 =>
    obtain ⟨n, hn, -⟩ := Option.map_eq_some_iff.1 h
    exact .inl ⟨h0, numberAt_fits hn⟩
  next =>
    split at h
    next h1 => exact .inr (.inl h1)
    next =>
      split at h
      next h2 => exact .inr (.inr (by simpa using h2))
      next => nomatch h

/-! ### The bodies: what reads has its length and its arguments in range -/

/-- R170: a body of the index's length with its arguments in range. -/
def BodyFits (code : Byte) (body : List Byte) : Prop := body.length = requestLength code body ∧ ArgumentsFit code body

theorem parseLegOpen_fits {a : LegOpenArgs} (h : parseLegOpen body = some a) : BodyFits 0x01 body := by
  simp only [parseLegOpen, ne_eq, ite_not, Option.bind_eq_bind, Option.ite_none_right_eq_some,
    Option.bind_eq_some_iff] at h
  obtain ⟨hlength, n, hn, owner, howner, k, hk, tag, htag, setting, hsetting, connect, hconnect, ha⟩ := h
  split at ha
  · nomatch ha
  next htagged =>
    obtain ⟨hgen, hmode⟩ := keySettingAt_range hsetting
    obtain ⟨hlow, hhigh⟩ := voiceSlot_range hk
    refine ⟨hlength, legNoOf_range hn, numberAt_fits howner, hlow, hhigh, (optOf_range htag).1, fun h1 h0 => ?_,
      hgen, hmode, (optOf_range hconnect).1⟩
    refine htagged ?_
    rw [(optOf_range htag).2.1 h1]
    simpa using BitVec.eq_of_toNat_eq h0

theorem parseLeg_fits {n : LegNo} (h : parseLeg body = some n) : body.length = 1 ∧ (byteAt body 0).toNat < 32 := by
  simp only [parseLeg, Option.ite_none_right_eq_some] at h
  exact ⟨h.1, legNoOf_range h.2⟩

theorem parseLegLevel_fits {a : LegNo × Int} (h : parseLegLevel body = some a) : BodyFits 0x05 body := by
  simp only [parseLegLevel, Option.ite_none_right_eq_some, Option.map_eq_some_iff] at h
  obtain ⟨hlength, n, hn, -⟩ := h
  exact ⟨hlength, legNoOf_range hn⟩

theorem parseLegRekey_fits {a : LegNo × KeySetting} (h : parseLegRekey body = some a) : BodyFits 0x06 body := by
  simp only [parseLegRekey, ne_eq, ite_not, Option.bind_eq_bind, Option.ite_none_right_eq_some,
    Option.bind_eq_some_iff] at h
  obtain ⟨hlength, n, hn, k, hk, -⟩ := h
  exact ⟨hlength, legNoOf_range hn, keySettingAt_range hk⟩

theorem parseLegRead_fits {a : LegNo × Bool} (h : parseLegRead body = some a) : BodyFits 0x07 body := by
  simp only [parseLegRead, ne_eq, ite_not, Option.bind_eq_bind, Option.ite_none_right_eq_some,
    Option.bind_eq_some_iff] at h
  obtain ⟨hlength, n, hn, o, ho, -⟩ := h
  exact ⟨hlength, legNoOf_range hn, (optOf_range ho).1⟩

theorem parseOpt_fits {o : Bool} (h : parseOpt body = some o) : BodyFits 0x08 body := by
  simp only [parseOpt, Option.ite_none_right_eq_some] at h
  exact ⟨h.1, (optOf_range h.2).1⟩

theorem parseExtLoad_fits {a : ExtLoadArgs} (h : parseExtLoad body = some a) : BodyFits 0x09 body := by
  simp only [parseExtLoad, ne_eq, ite_not, Option.bind_eq_bind, Option.ite_none_right_eq_some,
    Option.bind_eq_some_iff] at h
  obtain ⟨hlength, n, hn, cls, hcls, g, hg, f, hf, -⟩ := h
  exact ⟨hlength, numberAt_fits hn, classOf_range hcls, groupOf_range hg, scopeOf_range hf⟩

theorem parseRef_fits {r : ExtRef} {nextAllowed : Bool} (h : parseRef nextAllowed body = some r) :
    body.length = 5 ∧ RefFits nextAllowed body := by
  simp only [parseRef, Option.ite_none_right_eq_some] at h
  exact ⟨h.1, refAt_fits h.2⟩

theorem slotChangeAt_range {a : Slot × Bool} (h : slotChangeAt body i = some a) :
    0 < (byteAt body i).toNat ∧ (byteAt body i).toNat < 64 ∧ (byteAt body (i + 1)).toNat < 2 := by
  simp only [slotChangeAt, Option.bind_eq_bind, Option.bind_eq_some_iff] at h
  obtain ⟨k, hk, o, ho, -⟩ := h
  exact ⟨(voiceSlot_range hk).1, (voiceSlot_range hk).2, (optOf_range ho).1⟩

theorem exists_of_mapM_eq_some {α β : Type} {f : α → Option β} {l : List α} {r : List β} (h : l.mapM f = some r)
    {x : α} (hx : x ∈ l) : ∃ y, f x = some y := by
  induction l generalizing r with
  | nil => nomatch hx
  | cons a rest ih =>
    simp only [List.mapM_cons, Option.bind_eq_bind, Option.bind_eq_some_iff] at h
    obtain ⟨y, hy, ys, hys, -⟩ := h
    rcases List.mem_cons.1 hx with rfl | hx
    · exact ⟨y, hy⟩
    · exact ih hys hx

theorem parseSlotMap_fits {a : Bool × List (Slot × Bool)} (h : parseSlotMap body = some a) : BodyFits 0x10 body := by
  simp only [parseSlotMap, Option.bind_eq_bind, Option.ite_none_left_eq_some, Option.bind_eq_some_iff] at h
  obtain ⟨hlength, o, ho, changes, hchanges, -⟩ := h
  obtain ⟨hlength, hroom⟩ : body.length = 2 + 2 * (byteAt body 1).toNat ∧ (byteAt body 1).toNat ≤ 63 := by
    simpa using hlength
  refine ⟨hlength, (optOf_range ho).1, Nat.lt_succ_of_le hroom, fun j hj => ?_⟩
  obtain ⟨c, hc⟩ := exists_of_mapM_eq_some hchanges (List.mem_range.2 hj)
  have := slotChangeAt_range hc
  rwa [Nat.add_right_comm] at this

theorem parseConfOpen_fits {a : ConfNo × Option ExtRef} (h : parseConfOpen body = some a) : BodyFits 0x11 body := by
  simp only [parseConfOpen, ne_eq, ite_not, Option.bind_eq_bind, Option.ite_none_right_eq_some,
    Option.bind_eq_some_iff] at h
  obtain ⟨hlength, c, hc, o, ho, ha⟩ := h
  refine ⟨hlength, confNoOf_range hc, (optOf_range ho).1, fun h1 => ?_⟩
  rw [if_pos ((optOf_range ho).2.1 h1)] at ha
  obtain ⟨r, hr, -⟩ := Option.bind_eq_some_iff.1 ha
  exact refAt_fits hr

theorem parseConfMember_fits {a : ConfNo × MemberRef} (h : parseConfMember body = some a) :
    body.length = 8 ∧ (byteAt body 0).toNat < 8 ∧
      (((byteAt body 1).toNat = 0 ∧ (byteAt body 2).toNat < 32) ∨
        ((byteAt body 1).toNat = 1 ∧ RefFits false (body.drop 3))) := by
  simp only [parseConfMember, ne_eq, ite_not, Option.bind_eq_bind, Option.ite_none_right_eq_some,
    Option.bind_eq_some_iff] at h
  obtain ⟨hlength, c, hc, ha⟩ := h
  refine ⟨hlength, confNoOf_range hc, ?_⟩
  split at ha
  next h0 =>
    obtain ⟨n, hn, -⟩ := Option.bind_eq_some_iff.1 ha
    exact .inl ⟨congrArg BitVec.toNat h0, legNoOf_range hn⟩
  next =>
    split at ha
    next h1 =>
      obtain ⟨r, hr, -⟩ := Option.bind_eq_some_iff.1 ha
      exact .inr ⟨congrArg BitVec.toNat h1, refAt_fits hr⟩
    next => nomatch ha

theorem parseConf_fits {c : ConfNo} (h : parseConf body = some c) : BodyFits 0x14 body := by
  simp only [parseConf, Option.ite_none_right_eq_some] at h
  exact ⟨h.1, confNoOf_range h.2⟩

theorem parseConfRead_fits {a : ConfNo × Bool} (h : parseConfRead body = some a) : BodyFits 0x15 body := by
  simp only [parseConfRead, ne_eq, ite_not, Option.bind_eq_bind, Option.ite_none_right_eq_some,
    Option.bind_eq_some_iff] at h
  obtain ⟨hlength, c, hc, o, ho, -⟩ := h
  exact ⟨hlength, confNoOf_range hc, (optOf_range ho).1⟩

theorem parseFetch_fits {n : Nat} (h : parseFetch body = some n) : BodyFits 0x1B body := by
  simp only [parseFetch, Option.ite_none_right_eq_some] at h
  obtain ⟨⟨hlength, hlow⟩, hhigh⟩ : (body.length = 1 ∧ 1 ≤ (byteAt body 0).toNat) ∧ (byteAt body 0).toNat ≤ 8 := by
    simpa using h.1
  exact ⟨hlength, hlow, hhigh⟩

theorem parseEmpty_fits (h : parseEmpty body = some ()) : body.length = 0 := by
  simp only [parseEmpty, Option.ite_none_right_eq_some] at h
  exact h.1

theorem parseNoticeMask_fits {m : Option (BitVec 32)} (h : parseNoticeMask body = some m) : BodyFits 0x1C body := by
  simp only [parseNoticeMask, ne_eq, ite_not, Option.bind_eq_bind, Option.ite_none_right_eq_some,
    Option.bind_eq_some_iff] at h
  obtain ⟨hlength, o, ho, hm⟩ := h
  split at hm
  · nomatch hm
  next hlow =>
    have hmask : (halfAt body 1 ++ halfAt body 3 : BitVec 32).toNat = ((byteAt body 1).toNat * 2 ^ 8 +
        (byteAt body 2).toNat) * 2 ^ 16 + (halfAt body 3).toNat := by
      rw [toNat_append, halfAt, toNat_append]
    have hzero : (byteAt body 1).toNat = 0 := by omega
    have hbits : (byteAt body 2).toNat < 64 := by omega
    exact ⟨hlength, (optOf_range ho).1, hzero, hbits⟩

/-- A parameter's body fits where it reads, but for a timing mode that there is not. -/
theorem parseParamSet_fits {a : ParamId × Nat} (h : parseParamSet body = some a)
    (htiming : a.1 = .timing → a.2 < 2) : BodyFits 0x19 body := by
  simp only [parseParamSet, Option.ite_none_right_eq_some, Option.map_eq_some_iff] at h
  obtain ⟨hlength, p, hp, ha⟩ := h
  refine ⟨hlength, (paramIdOf_range hp).1, (paramIdOf_range hp).2, fun h2 => ?_⟩
  have hid : byteAt body 0 = 2 := BitVec.eq_of_toNat_eq h2
  have hp2 : p = .timing := by
    rw [hid] at hp
    exact (Option.some.inj hp).symm
  have hlow : (halfAt body 1).toNat < 2 := by
    subst ha
    exact htiming hp2
  have hvalue : (halfAt body 1).toNat = (byteAt body 1).toNat * 2 ^ 8 + (byteAt body 2).toNat := toNat_append _ _
  have hzero : (byteAt body 1).toNat = 0 := by omega
  have hbit : (byteAt body 2).toNat < 2 := by omega
  exact ⟨hzero, hbit⟩

/-! ### A body that does not fit is refused (R170) -/

theorem none_of_misfit {α : Type} {x : Option α} {P : Prop} (h : ∀ a, x = some a → P) (hno : ¬P) : x = none :=
  Option.eq_none_iff_forall_not_mem.2 fun a ha => hno (h a ha)

/-- A request whose handler refuses it with BAD_ARGUMENT is answered so. -/
theorem exec_of_badHandler {c : Instr} {code : Byte} {hd : State → State × Answer}
    (hexec : exec c s = whenInService s (takeRequest code hd)) (hs : s.ready) (hbad : hd s = refuse .badArgument s) :
    exec c s = .next (s.answered code .badArgument []) := by
  rw [hexec, whenInService_next hs.1, takeRequest_now hs.2 hbad]

theorem withRecord_none {f : Handle → ExtRecord → State → State × Answer} {x : Option ExtRef} (h : x = none) :
    withRecord x f s = refuse .badArgument s := by
  subst h
  rfl

theorem setParam_badTiming {v : Nat} (h : 2 ≤ v) : setParam (.timing, v) s = refuse .badArgument s := by
  simp only [setParam]
  rw [if_neg (by omega), if_neg (by omega)]

theorem exec_paramSet_misfit (hs : s.ready) (h : ¬BodyFits 0x19 body) :
    exec (.paramSet body) s = .next (s.answered 0x19 .badArgument []) := by
  cases hp : parseParamSet body with
  | none => exact exec_paramSet_bad hs hp
  | some a =>
    obtain ⟨id, v⟩ := a
    have htiming : id = .timing ∧ 2 ≤ v := by
      by_contra hno
      exact h (parseParamSet_fits hp fun hid => Nat.lt_of_not_le fun hv => hno ⟨hid, hv⟩)
    obtain ⟨rfl, hv⟩ := htiming
    exact exec_paramSet_now hs hp (setParam_badTiming hv)

/-- R170: the refusal of every request by its code. -/
theorem exec_misfit {c : Instr} {code : Byte} (hreq : requestOf c = some (code, body)) (hs : s.ready)
    (h : ¬BodyFits code body) : exec c s = .next (s.answered code .badArgument []) := by
  cases c <;> cases hreq
  case legOpen => exact exec_legOpen_bad hs (none_of_misfit (fun _ => parseLegOpen_fits) h)
  case legClose => exact exec_legClose_bad hs (none_of_misfit (fun _ => parseLeg_fits) h)
  case legConnect => exact exec_legConnect_bad hs (none_of_misfit (fun _ => parseLeg_fits) h)
  case legPark => exact exec_legPark_bad hs (none_of_misfit (fun _ => parseLeg_fits) h)
  case legLevel => exact exec_legLevel_bad hs (none_of_misfit (fun _ => parseLegLevel_fits) h)
  case legRekey => exact exec_legRekey_bad hs (none_of_misfit (fun _ => parseLegRekey_fits) h)
  case legRead => exact exec_legRead_bad hs (none_of_misfit (fun _ => parseLegRead_fits) h)
  case trunkRead => exact exec_trunkRead_bad hs (none_of_misfit (fun _ => parseOpt_fits) h)
  case extLoad => exact exec_extLoad_bad hs (none_of_misfit (fun _ => parseExtLoad_fits) h)
  case extRemove => exact exec_of_badHandler rfl hs (withRecord_none (none_of_misfit (fun _ => parseRef_fits) h))
  case extRead => exact exec_of_badHandler rfl hs (withRecord_none (none_of_misfit (fun _ => parseRef_fits) h))
  case extSuspend => exact exec_of_badHandler rfl hs (withRecord_none (none_of_misfit (fun _ => parseRef_fits) h))
  case extResume => exact exec_of_badHandler rfl hs (withRecord_none (none_of_misfit (fun _ => parseRef_fits) h))
  case extUnbar => exact exec_of_badHandler rfl hs (withRecord_none (none_of_misfit (fun _ => parseRef_fits) h))
  case extRevoke => exact exec_of_badHandler rfl hs (withRecord_none (none_of_misfit (fun _ => parseRef_fits) h))
  case slotMap => exact exec_slotMap_bad hs (none_of_misfit (fun _ => parseSlotMap_fits) h)
  case confOpen => exact exec_confOpen_bad hs (none_of_misfit (fun _ => parseConfOpen_fits) h)
  case confJoin => exact exec_confJoin_bad hs (none_of_misfit (fun _ => parseConfMember_fits) h)
  case confLeave => exact exec_confLeave_bad hs (none_of_misfit (fun _ => parseConfMember_fits) h)
  case confClose => exact exec_confClose_bad hs (none_of_misfit (fun _ => parseConf_fits) h)
  case confRead => exact exec_confRead_bad hs (none_of_misfit (fun _ => parseConfRead_fits) h)
  case holdBegin => exact exec_holdBegin_bad hs (none_of_misfit (fun _ ha => ⟨parseEmpty_fits ha, trivial⟩) h)
  case holdCommit => exact exec_holdCommit_bad hs (none_of_misfit (fun _ ha => ⟨parseEmpty_fits ha, trivial⟩) h)
  case holdCancel => exact exec_holdCancel_bad hs (none_of_misfit (fun _ ha => ⟨parseEmpty_fits ha, trivial⟩) h)
  case paramSet => exact exec_paramSet_misfit hs h
  case paramRead => exact exec_paramRead_bad hs (none_of_misfit (fun _ ha => ⟨parseEmpty_fits ha, trivial⟩) h)
  case noticeFetch => exact exec_noticeFetch_bad hs (none_of_misfit (fun _ => parseFetch_fits) h)
  case noticeMask => exact exec_noticeMask_bad hs (none_of_misfit (fun _ => parseNoticeMask_fits) h)
  case restart => exact exec_restart_bad hs (none_of_misfit (fun _ ha => ⟨parseEmpty_fits ha, trivial⟩) h)

/-- Settles O17: a body that reads fits, so one that does not fit is refused where it is read. -/
theorem wrongBodyLengthIsBadArgument : Obligations.WrongBodyLengthIsBadArgument := by
  unfold Obligations.WrongBodyLengthIsBadArgument
  exact fun c code body s hreq hs => ⟨fun hlength => exec_misfit hreq hs fun hfit => hlength hfit.1,
    fun hargs => exec_misfit hreq hs fun hfit => hargs hfit.2⟩

end Sys2Proof.Machine
end

section
/-! PROOFS. What a step can do, said once: the elementary changes of the state, each with what it is made under. Every
taking but the link's own is a run of such changes; the laws of the part are then kept change by change. -/

namespace Sys2Proof.Machine

/-! ### Places of a table -/

theorem getElem_set_fin {α : Type} {n : Nat} (v : Vector α n) (i j : Fin n) (x : α) :
    (v.set i x)[j] = if i = j then x else v[j] := by
  by_cases h : i = j
  · subst h
    simp
  · rw [if_neg h]
    exact Vector.getElem_set_ne i.isLt j.isLt (Fin.val_ne_of_ne h)

theorem getElem_ofFn_fin {α : Type} {n : Nat} (f : Fin n → α) (i : Fin n) : (Vector.ofFn f)[i] = f i := by
  simp

theorem optionRel_imp {α β : Type} {R Q : α → β → Prop} (h : ∀ a b, R a b → Q a b) {x : Option α} {y : Option β}
    (hxy : Option.Rel R x y) : Option.Rel Q x y := by
  cases hxy with
  | none => exact .none
  | some hab => exact .some (h _ _ hab)

theorem optionRel_refl {α : Type} {R : α → α → Prop} (h : ∀ a, R a a) (x : Option α) : Option.Rel R x x := by
  cases x with
  | none => exact .none
  | some a => exact .some (h a)

/-! ### The parts of `State.Bounded` -/

/-- R10, R13: the trunk port's part of the ranges. -/
structure TrunkPort.Bounded (t : TrunkPort) : Prop where
  store : t.store.length ≤ Config.storeRoom
  netSlips : -32767 ≤ t.netSlips ∧ t.netSlips ≤ 32767
  changes : t.changes ≤ 2

/-- R80, R92: the framer's part of the ranges. -/
structure Framer.Bounded (f : Framer) : Prop where
  window : f.window.length ≤ 8
  badRun : f.badRun ≤ 3
  counters : f.badCells ≤ 65535 ∧ f.unknownTags ≤ 65535 ∧ f.skippedSyncs ≤ 65535

/-- R114: the slot map's counters in range. -/
def ExtTable.Bounded (t : ExtTable) : Prop := t.ignoredCells ≤ 65535 ∧ t.badCells ≤ 65535

/-- R162: the held-change list in range. -/
structure Hold.Bounded (h : Hold) : Prop where
  room : h.entries.length ≤ Config.heldRoom
  gains : ∀ n g, .level n g ∈ h.entries → -6 ≤ g ∧ g ≤ 6

/-- R174: a change of the notices that keeps their room and the attention line with the queue. -/
structure NoticeUnit.Keeps (u v : NoticeUnit) : Prop where
  room : u.queue.length ≤ Config.noticeRoom → v.queue.length ≤ Config.noticeRoom
  attention : (u.attention = !u.queue.isEmpty) → v.attention = !v.queue.isEmpty

/-! ### What the laws see of a leg, a conference and a record -/

/-- What the laws of the line side see of an open leg. -/
def Leg.lineView (l : Leg) : Handle × Endpoint := (l.owner, l.endpoint)

/-- What the laws of the line side see of a conference. -/
def Conf.lineView (k : Conf) : List Member × Option Handle := (k.members, k.chair)

/-- What the laws of the line side see of a record. -/
def ExtRecord.lineView (r : ExtRecord) : ExtNumber × ExtClass × Option Slot × Bool :=
  (r.number, r.cls, r.state.slot?, r.state.isAdmitted)

/-- R113: a record's failure count against the limit. -/
def ExtRecord.FailuresFit (limit : Nat) (r : ExtRecord) : Prop :=
  if r.state.isBarred then r.failures = limit else r.failures < limit

/-- R36, R97: the pending key of a leg whose ROLL is queued or wanted. -/
def Leg.RollReady (l : Leg) : Prop := l.switchEpoch = none ∧ ∃ p, l.pendingKey = some p ∧ p.gen ≠ l.txKey.gen

/-- A change of one leg's record that the laws allow anywhere. `rx`: the change may touch how the leg takes received
blocks; `ln`: it may touch the leg's line side. -/
structure Leg.Keeps (rx ln : Bool) (epochLength : Nat) (l k : Leg) : Prop where
  slot : k.slot = l.slot
  farTag : k.farTag = l.farTag
  isOpen : k.state.isOpen = l.state.isOpen
  wantsRoll : k.wantsRoll = l.wantsRoll
  wantsClear : k.wantsClear = l.wantsClear
  bounded : l.Bounded → k.Bounded
  keys : l.KeyLaws epochLength → k.KeyLaws epochLength
  roll : l.RollReady → k.RollReady
  receive : rx = false → k.state.counts = true → l.state.counts = true ∧ k.rxAssembly = l.rxAssembly
  view : ln = false → k.lineView = l.lineView

/-- An elementary change of the part. `rx`: it may touch the framer's block in progress and how the legs take received
blocks; `ln`: it may touch admission, the legs' line side, the conferences' members or the line slot output map. -/
inductive Change (rx ln : Bool) : State → State → Prop
  | notices {s : State} (u : NoticeUnit) : s.notices.Keeps u → Change rx ln s { s with notices := u }
  | line {s : State} (p : LinePort) : (s.line.cellIn.length = s.line.framePos → p.cellIn.length = p.framePos) →
      (rx = false → p.framePos = s.line.framePos) → (ln = false → p.outMap = s.line.outMap) →
      Change rx ln s { s with line := p }
  | trunk {s : State} (t : TrunkPort) : (s.trunk.Bounded → t.Bounded) → Change rx ln s { s with trunk := t }
  | framer {s : State} (f : Framer) : (s.framer.Bounded → f.Bounded) →
      (rx = false → ∃ badRun badCells unknownTags skippedSyncs, f = { s.framer with
        badRun := badRun, badCells := badCells, unknownTags := unknownTags, skippedSyncs := skippedSyncs }) →
      Change rx ln s { s with framer := f }
  | admQueue {s : State} (q : List Cell) :
      (s.admQueue.length ≤ Config.admQueueRoom → q.length ≤ Config.admQueueRoom) → Change rx ln s { s with admQueue := q }
  | ext {s : State} (e : ExtTable) : (s.RecordsDistinct → State.RecordsDistinct { s with ext := e }) →
      (1 ≤ s.params.failureLimit → s.FailureLaw → State.FailureLaw { s with ext := e }) → (s.ext.Bounded → e.Bounded) →
      (ln = false → ∀ h : Handle, (e.records[h]).map ExtRecord.lineView = (s.record h).map ExtRecord.lineView) →
      Change rx ln s { s with ext := e }
  | failureLimit {s : State} (n : Nat) : 1 ≤ n → n ≤ 15 → Change rx ln s
      { s with params := { s.params with failureLimit := n }, ext := s.ext.mapRecords (ExtRecord.reclamp n) }
  | params {s : State} (p : Params) : p.failureLimit = s.params.failureLimit →
      p.epochLength = s.params.epochLength → (s.params.Bounded → p.Bounded) → Change rx ln s { s with params := p }
  | epochLength {s : State} (n : Nat) : 64 ≤ n → n ≤ 4096 → (∀ m : LegNo, s.legs[m] = none) →
      Change rx ln s { s with params := { s.params with epochLength := n } }
  | confs {s : State} (v : Vector (Option Conf) 8) :
      (∀ c : ConfNo, (∀ k, s.confs[c] = some k → k.Bounded) → ∀ k, v[c] = some k → k.Bounded) →
      (ln = false → ∀ c : ConfNo, (v[c]).map Conf.lineView = (s.confs[c]).map Conf.lineView) →
      Change rx ln s { s with confs := v }
  | hold {s : State} (h : Hold) : (h.mark = .absent ↔ s.hold.mark = .absent) → (s.hold.Bounded → h.Bounded) →
      Change rx ln s { s with hold := h }
  | legs {s : State} (v : Vector (Option Leg) 32) :
      (∀ n : LegNo, Option.Rel (Leg.Keeps rx ln s.params.epochLength) s.legs[n] v[n]) → Change rx ln s { s with legs := v }
  | level {s : State} {n : LegNo} {l : Leg} (g : Int) : s.legs[n] = some l →
      (-6 ≤ g ∧ g ≤ 6) ∨ (∃ m, .level m g ∈ s.hold.entries) → Change rx ln s (s.setLeg n (some { l with gain := g }))
  | openLeg {s : State} {n : LegNo} (a : LegOpenArgs) (h : Handle) (e : Endpoint) : ln = true → s.legs[n] = none →
      -6 ≤ a.gain ∧ a.gain ≤ 6 →
      (∀ (m : LegNo) k, s.legs[m] = some k → a.slot ≠ k.slot ∧ a.farTag.getD (byteOf a.slot) ≠ k.receiveTag) →
      Change rx ln s (s.setLeg n (some (a.record h e)))
  | askSync {s : State} {n : LegNo} {l : Leg} : s.legs[n] = some l → l.state.isOpen = true → Change rx ln s (s.askSync n)
  | askRoll {s : State} {n : LegNo} {l : Leg} (p : KeySetting) (e : Option Half) : s.legs[n] = some l →
      l.state.isOpen = true → p.gen ≠ l.txKey.gen → e = none ∨ (e = l.switchEpoch ∧ l.pendingKey = none) →
      Change rx ln s (s.askRoll n { l with pendingKey := some p, switchEpoch := e }).1
  | clearLeg {s : State} {n : LegNo} {l : Leg} (cause : CloseCause) (slot : Option Slot) : ln = true →
      s.legs[n] = some l → l.state.isOpen = true → Change rx ln s (s.clearLeg n cause slot)
  | depart {s : State} {r : CellRequest} {rest : List CellRequest} : s.cellQueue = r :: rest →
      Change rx ln s (State.sendRequest { s with cellQueue := rest } r).1
  | serve {s : State} (n : LegNo) : Change rx ln s (s.serveWants n)

/-- Elementary changes one after another. -/
abbrev Changes (rx ln : Bool) : State → State → Prop := Relation.ReflTransGen (Change rx ln)

/-! ### The laws of a leg's record in parts -/

section
variable {rx ln : Bool} {len : Nat} {l k m : Leg}

theorem LegState.isClearing_eq (st : LegState) : st.isClearing = !st.isOpen := by
  cases st <;> rfl

theorem Leg.Keeps.refl (rx ln : Bool) (len : Nat) (l : Leg) : l.Keeps rx ln len l :=
  ⟨rfl, rfl, rfl, rfl, rfl, id, id, id, fun _ h => ⟨h, rfl⟩, fun _ => rfl⟩

theorem Leg.Keeps.trans (h : l.Keeps rx ln len k) (h' : k.Keeps rx ln len m) : l.Keeps rx ln len m where
  slot := h'.slot.trans h.slot
  farTag := h'.farTag.trans h.farTag
  isOpen := h'.isOpen.trans h.isOpen
  wantsRoll := h'.wantsRoll.trans h.wantsRoll
  wantsClear := h'.wantsClear.trans h.wantsClear
  bounded hb := h'.bounded (h.bounded hb)
  keys hk := h'.keys (h.keys hk)
  roll hr := h'.roll (h.roll hr)
  receive hrx hc :=
    have hk := h'.receive hrx hc
    have hl := h.receive hrx hk.1
    ⟨hl.1, hk.2.trans hl.2⟩
  view hln := (h'.view hln).trans (h.view hln)

/-- What a change of the receive side alone may be taken for where it may touch more. -/
theorem Leg.Keeps.mono {rx' ln' : Bool} (hrx : rx' = false → rx = false) (hln : ln' = false → ln = false)
    (h : l.Keeps rx ln len k) : l.Keeps rx' ln' len k :=
  { h with receive := fun h' => h.receive (hrx h'), view := fun h' => h.view (hln h') }

/-- R36: the key laws speak of the state, the keys and the counters alone. -/
theorem Leg.KeyLaws.congr (hs : k.state = l.state) (htx : k.txKey = l.txKey) (hrxk : k.rxKey = l.rxKey)
    (hp : k.pendingKey = l.pendingKey) (he : k.switchEpoch = l.switchEpoch) (ht : k.tx = l.tx) (hr : k.rx = l.rx)
    (h : l.KeyLaws len) : k.KeyLaws len where
  txIndex := ht ▸ h.txIndex
  rxIndex := hr ▸ h.rxIndex
  pending := by rw [hs, htx, hrxk, hp]; exact h.pending
  switching := by rw [he, hp, htx]; exact h.switching
  awaited := by rw [hs, hrxk]; exact h.awaited

theorem Leg.RollReady.congr (htx : k.txKey = l.txKey) (hp : k.pendingKey = l.pendingKey)
    (he : k.switchEpoch = l.switchEpoch) (h : l.RollReady) : k.RollReady := by
  rw [Leg.RollReady, htx, hp, he]
  exact h

/-- A record changed outside the keys, the counters and the leg's place in the tables. -/
theorem Leg.Keeps.of_sameKeys (hslot : k.slot = l.slot) (hfar : k.farTag = l.farTag) (hs : k.state = l.state)
    (hroll : k.wantsRoll = l.wantsRoll) (hclear : k.wantsClear = l.wantsClear) (htx : k.txKey = l.txKey)
    (hrxk : k.rxKey = l.rxKey) (hp : k.pendingKey = l.pendingKey) (he : k.switchEpoch = l.switchEpoch) (ht : k.tx = l.tx)
    (hr : k.rx = l.rx) (hb : l.Bounded → k.Bounded) (hassembly : rx = false → k.rxAssembly = l.rxAssembly)
    (hview : ln = false → k.lineView = l.lineView) : l.Keeps rx ln len k where
  slot := hslot
  farTag := hfar
  isOpen := by rw [hs]
  wantsRoll := hroll
  wantsClear := hclear
  bounded := hb
  keys := Leg.KeyLaws.congr hs htx hrxk hp he ht hr
  roll := Leg.RollReady.congr htx hp he
  receive hrx hc := ⟨by rw [← hs]; exact hc, hassembly hrx⟩
  view := hview

end

/-! ### Runs of changes -/

section
variable {rx ln : Bool} {s t u : State}

theorem Change.mono {rx' ln' : Bool} (hrx : rx' = false → rx = false) (hln : ln' = false → ln = false)
    (h : Change rx ln s t) : Change rx' ln' s t := by
  have hon : ∀ {b b' : Bool}, (b' = false → b = false) → b = true → b' = true := by decide
  cases h with
  | notices u hu => exact .notices u hu
  | line p h1 h2 h3 => exact .line p h1 (fun h => h2 (hrx h)) (fun h => h3 (hln h))
  | trunk t ht => exact .trunk t ht
  | framer f h1 h2 => exact .framer f h1 fun h => h2 (hrx h)
  | admQueue q hq => exact .admQueue q hq
  | ext e h1 h2 h3 h4 => exact .ext e h1 h2 h3 fun h => h4 (hln h)
  | failureLimit n h1 h2 => exact .failureLimit n h1 h2
  | params p h1 h2 h3 => exact .params p h1 h2 h3
  | epochLength n h1 h2 h3 => exact .epochLength n h1 h2 h3
  | confs v h1 h2 => exact .confs v h1 fun h => h2 (hln h)
  | hold h h1 h2 => exact .hold h h1 h2
  | legs v hv => exact .legs v fun n => optionRel_imp (fun _ _ h => h.mono hrx hln) (hv n)
  | level g h1 h2 => exact .level g h1 h2
  | openLeg a h e h1 h2 h3 h4 => exact .openLeg a h e (hon hln h1) h2 h3 h4
  | askSync h1 h2 => exact .askSync h1 h2
  | askRoll p e h1 h2 h3 h4 => exact .askRoll p e h1 h2 h3 h4
  | clearLeg c k h1 h2 h3 => exact .clearLeg c k (hon hln h1) h2 h3
  | depart h => exact .depart h
  | serve n => exact .serve n

theorem Changes.mono {rx' ln' : Bool} (hrx : rx' = false → rx = false) (hln : ln' = false → ln = false)
    (h : Changes rx ln s t) : Changes rx' ln' s t := by
  induction h with
  | refl => exact .refl
  | tail _ hstep ih => exact ih.tail (hstep.mono hrx hln)

/-- Every run of changes is one that may touch everything. -/
theorem Changes.any (h : Changes rx ln s t) : Changes true true s t := h.mono nofun nofun

/-- A run of changes that must not touch the line side is one that may. -/
theorem Changes.withLine (h : Changes rx false s t) : Changes rx true s t := h.mono id nofun

/-- What every elementary change keeps, a run of them keeps. -/
theorem Changes.keeps {P : State → Prop} (hP : ∀ {s t}, Change rx ln s t → P s → P t) (h : Changes rx ln s t) (hs : P s) :
    P t := by
  induction h with
  | refl => exact hs
  | tail _ hstep ih => exact hP hstep ih

/-- Changes made for the places of a list, one after another. -/
theorem Changes.foldl {α : Type} {f : State → α → State} (hf : ∀ s a, Changes rx ln s (f s a)) (l : List α) (s : State) :
    Changes rx ln s (l.foldl f s) := by
  induction l generalizing s with
  | nil => exact .refl
  | cons a rest ih => exact (hf s a).trans (ih (f s a))

/-! ### What no change touches -/

theorem State.askRoll_frame (s : State) (n : LegNo) (l : Leg) : (s.askRoll n l).1 =
    { s with cellQueue := (s.askRoll n l).1.cellQueue, legs := (s.askRoll n l).1.legs } := by
  unfold State.askRoll
  split
  · rfl
  · split
    · rfl
    · split <;> rfl

theorem State.sendRequest_frame (s : State) (r : CellRequest) : (s.sendRequest r).1 =
    { s with legs := (s.sendRequest r).1.legs, notices := (s.sendRequest r).1.notices } := by
  unfold State.sendRequest
  split
  · rfl
  · dsimp only
    split
    · rfl
    · split <;> rfl
    · rfl
    · rfl

/-- No change touches the link, the reset line or the queue of commands, or makes or removes a commit mark (R165). -/
theorem Change.frame (h : Change rx ln s t) : t.link = s.link ∧ t.resetAsserted = s.resetAsserted ∧
    t.pending = s.pending ∧ (t.hold.mark = .absent ↔ s.hold.mark = .absent) := by
  cases h
  case hold h hm _ => exact ⟨rfl, rfl, rfl, hm⟩
  case askSync => simp
  case askRoll =>
    rw [State.askRoll_frame]
    exact ⟨rfl, rfl, rfl, Iff.rfl⟩
  case clearLeg => simp
  case depart =>
    rw [State.sendRequest_frame]
    exact ⟨rfl, rfl, rfl, Iff.rfl⟩
  case serve => simp
  all_goals exact ⟨rfl, rfl, rfl, Iff.rfl⟩

/-- No run of changes touches the link, the reset line or the queue of commands, or makes or removes a commit mark. -/
theorem Changes.frame (h : Changes rx ln s t) : t.link = s.link ∧ t.resetAsserted = s.resetAsserted ∧
    t.pending = s.pending ∧ (t.hold.mark = .absent ↔ s.hold.mark = .absent) := by
  induction h with
  | refl => exact ⟨rfl, rfl, rfl, Iff.rfl⟩
  | tail _ hstep ih =>
    obtain ⟨hl, hr, hp, hm⟩ := ih
    obtain ⟨hl', hr', hp', hm'⟩ := hstep.frame
    exact ⟨hl'.trans hl, hr'.trans hr, hp'.trans hp, hm'.trans hm⟩

theorem Changes.link (h : Changes rx ln s t) : t.link = s.link := h.frame.1

theorem Changes.resetAsserted (h : Changes rx ln s t) : t.resetAsserted = s.resetAsserted := h.frame.2.1

theorem Changes.pending (h : Changes rx ln s t) : t.pending = s.pending := h.frame.2.2.1

theorem Changes.mark (h : Changes rx ln s t) : t.hold.mark = .absent ↔ s.hold.mark = .absent := h.frame.2.2.2

end

end Sys2Proof.Machine
end

section
/-! PROOFS. What a taking makes of one leg's record (R36 to R45, R84, R88 to R91, R97 to R102): each of the model's
operations on a leg is a change that the laws allow. -/

namespace Sys2Proof.Machine

variable {ln : Bool} {len : Nat} {l k : Leg}

/-! ### Counters and buffers in range -/

theorem bump_le (n : Nat) : bump n ≤ 65535 := by
  unfold bump
  split <;> omega

theorem length_pushOutput_le (buffer : List Code) (b : Block) : (pushOutput buffer b).length ≤ Config.outputRoom := by
  rw [pushOutput, List.length_drop, Config.outputRoom]
  omega

/-- R42, R60, R67, R68: the ranges speak of the buffer, the gain code and the three counters. -/
theorem Leg.Bounded.congr (ho : k.rxOutput.length ≤ l.rxOutput.length) (hg : k.gain = l.gain)
    (hr : k.realigns = l.realigns) (hm : k.mutedBlocks = l.mutedBlocks) (hs : k.skippedSyncs = l.skippedSyncs)
    (h : l.Bounded) : k.Bounded :=
  ⟨ho.trans h.output, hg ▸ h.gain, hr ▸ h.realigns, hm ▸ h.mutedBlocks, hs ▸ h.skippedSyncs⟩

/-! ### Keys and states -/

/-- R41: a leg's receive counters moved on within the epoch. -/
theorem Leg.keeps_rx (c : Counters) (h : l.KeyLaws len → c.index < len) : l.Keeps true ln len { l with rx := c } where
  slot := rfl
  farTag := rfl
  isOpen := rfl
  wantsRoll := rfl
  wantsClear := rfl
  bounded := Leg.Bounded.congr (Nat.le_refl _) rfl rfl rfl rfl
  keys hk := ⟨hk.txIndex, h hk, hk.pending, hk.switching, hk.awaited⟩
  roll := id
  receive := nofun
  view _ := rfl

/-- R51: an open leg goes into another open state; in HOLDING(KEY) for a generation that is not the receive one. -/
theorem Leg.keeps_state (st : LegState) (hl : l.state.isOpen = true) (hst : st.isOpen = true)
    (hkey : ∀ g, st = .holding (.key g) → g ≠ l.rxKey.gen) : l.Keeps true ln len { l with state := st } where
  slot := rfl
  farTag := rfl
  isOpen := hst.trans hl.symm
  wantsRoll := rfl
  wantsClear := rfl
  bounded := Leg.Bounded.congr (Nat.le_refl _) rfl rfl rfl rfl
  keys hk := ⟨hk.txIndex, hk.rxIndex, fun _ => hk.pending hl, hk.switching, hkey⟩
  roll := id
  receive := nofun
  view _ := rfl

theorem Leg.keeps_running (hl : l.state.isOpen = true) : l.Keeps true ln len { l with state := .running } :=
  Leg.keeps_state .running hl rfl nofun

/-- R98: an announced roll set or removed. -/
theorem Leg.keeps_announced {rx : Bool} (r : Option Roll) : l.Keeps rx ln len { l with announced := r } :=
  .of_sameKeys rfl rfl rfl rfl rfl rfl rfl rfl rfl rfl rfl (Leg.Bounded.congr (Nat.le_refl _) rfl rfl rfl rfl)
    (fun _ => rfl) (fun _ => rfl)

theorem Leg.keeps_mutedBlocks {rx : Bool} {n : Nat} (hn : n ≤ 65535) :
    l.Keeps rx ln len { l with mutedBlocks := n } :=
  .of_sameKeys rfl rfl rfl rfl rfl rfl rfl rfl rfl rfl rfl
    (fun h => ⟨h.output, h.gain, h.realigns, hn, h.skippedSyncs⟩) (fun _ => rfl) (fun _ => rfl)

theorem Leg.keeps_realigns {rx : Bool} {n : Nat} (hn : n ≤ 65535) : l.Keeps rx ln len { l with realigns := n } :=
  .of_sameKeys rfl rfl rfl rfl rfl rfl rfl rfl rfl rfl rfl
    (fun h => ⟨h.output, h.gain, hn, h.mutedBlocks, h.skippedSyncs⟩) (fun _ => rfl) (fun _ => rfl)

theorem Leg.keeps_output (b : Block) : l.Keeps true ln len (l.output b) :=
  .of_sameKeys rfl rfl rfl rfl rfl rfl rfl rfl rfl rfl rfl
    (fun h => ⟨length_pushOutput_le _ b, h.gain, h.realigns, h.mutedBlocks, h.skippedSyncs⟩) nofun (fun _ => rfl)

/-- R102: what settling the pending key can do. -/
theorem Leg.settlePending_cases (l : Leg) : l.settlePending = l ∨
    ∃ p, l.pendingKey = some p ∧ l.txKey.gen = p.gen ∧ l.rxKey.gen = p.gen ∧
      l.settlePending = { l with pendingKey := none } := by
  unfold Leg.settlePending
  split
  · exact .inl rfl
  next p hp =>
    split
    next h =>
      rw [Bool.and_eq_true, decide_eq_true_iff, decide_eq_true_iff] at h
      exact .inr ⟨p, hp, h.1, h.2, rfl⟩
    next => exact .inl rfl

/-- R102: the pending key is removed only where the keys agree, so nothing of it is still needed. -/
theorem Leg.keeps_settlePending {rx : Bool} : l.Keeps rx ln len l.settlePending := by
  rcases l.settlePending_cases with h | ⟨p, hp, htx, hrx, h⟩
  · rw [h]
    exact .refl rx ln len l
  · rw [h]
    refine ⟨rfl, rfl, rfl, rfl, rfl, Leg.Bounded.congr (Nat.le_refl _) rfl rfl rfl rfl, fun hk => ?_, ?_,
      fun _ hc => ⟨hc, rfl⟩, fun _ => rfl⟩
    · refine ⟨hk.txIndex, hk.rxIndex, fun _ hne => absurd (htx.trans hrx.symm) hne, fun hs => ?_, hk.awaited⟩
      obtain ⟨q, hq, hne⟩ := hk.switching hs
      rw [hp] at hq
      cases hq
      exact absurd htx.symm hne
    · rintro ⟨-, q, hq, hne⟩
      rw [hp] at hq
      cases hq
      exact absurd htx.symm hne

theorem Leg.pendingWith_eq_some {g : Byte} {p : KeySetting} (h : l.pendingWith g = some p) :
    l.pendingKey = some p ∧ p.gen = g := by
  obtain ⟨q, hq, hp⟩ := Option.bind_eq_some_iff.1 h
  split at hp
  next hg =>
    cases hp
    exact ⟨hq, hg⟩
  next => nomatch hp

/-- R49, R99, R101: the pending key becomes the receive key of a leg that goes on, or goes back, in RUNNING. -/
theorem Leg.keeps_adopt {p : KeySetting} (hp : l.pendingKey = some p) (hl : l.state.isOpen = true) :
    l.Keeps true ln len { l.adopt p with state := .running } := by
  let k : Leg := { l with rxKey := p.forReceive, state := .running }
  have hk : l.Keeps true ln len k := by
    refine ⟨rfl, rfl, hl.symm, rfl, rfl, Leg.Bounded.congr (Nat.le_refl _) rfl rfl rfl rfl, fun h => ?_, id, nofun,
      fun _ => rfl⟩
    exact ⟨h.txIndex, h.rxIndex, fun _ _ => Option.isSome_iff_exists.2 ⟨p, hp⟩, h.switching, nofun⟩
  have hadopt : { l.adopt p with state := .running } = k.settlePending := by
    simp only [Leg.adopt, Leg.settlePending, hp, k]
    split <;> rfl
  rw [hadopt]
  exact hk.trans Leg.keeps_settlePending

/-! ### The transmit side (R38, R39, R97) -/

/-- R97: the transmit switch at the epoch start it was announced for. -/
theorem Leg.keeps_transmitSwitch {rx : Bool} {p : KeySetting} (hp : l.pendingKey = some p)
    (he : l.switchEpoch.isSome = true) : l.Keeps rx ln len (l.transmitSwitch p) := by
  let k : Leg := { l with txKey := p.forTransmit, switchEpoch := none }
  have hk : l.Keeps rx ln len k := by
    refine ⟨rfl, rfl, rfl, rfl, rfl, Leg.Bounded.congr (Nat.le_refl _) rfl rfl rfl rfl, fun h => ?_, fun h => ?_,
      fun _ hc => ⟨hc, rfl⟩, fun _ => rfl⟩
    · exact ⟨h.txIndex, h.rxIndex, fun _ _ => Option.isSome_iff_exists.2 ⟨p, hp⟩, nofun, h.awaited⟩
    · rw [h.1] at he
      nomatch he
  exact hk.trans Leg.keeps_settlePending

theorem Leg.keeps_scramble {rx : Bool} (b : Block) : l.Keeps rx ln len (l.scramble len b) where
  slot := rfl
  farTag := rfl
  isOpen := rfl
  wantsRoll := rfl
  wantsClear := rfl
  bounded := Leg.Bounded.congr (Nat.le_refl _) rfl rfl rfl rfl
  keys hk := ⟨Counters.index_advance_lt (c := { l.tx with wheel := _ }) hk.txIndex, hk.rxIndex, hk.pending, hk.switching,
    hk.awaited⟩
  roll := id
  receive _ hc := ⟨hc, rfl⟩
  view _ := rfl

theorem Leg.switchDue_eq_some {p : KeySetting} (h : l.switchDue = some p) :
    l.pendingKey = some p ∧ l.switchEpoch.isSome = true := by
  unfold Leg.switchDue at h
  split at h
  next hdue =>
    refine ⟨h, ?_⟩
    simp only [Bool.and_eq_true, beq_iff_eq] at hdue
    rw [hdue.2]
    rfl
  next => nomatch h

theorem Leg.keeps_blockStart {rx : Bool} : l.Keeps rx ln len l.blockStart := by
  unfold Leg.blockStart
  split
  · exact .of_sameKeys rfl rfl rfl rfl rfl rfl rfl rfl rfl rfl rfl (Leg.Bounded.congr (Nat.le_refl _) rfl rfl rfl rfl)
      (fun _ => rfl) (fun _ => rfl)
  · exact .refl _ _ _ _

theorem Leg.keeps_frame {rx : Bool} (c : Code) : l.Keeps rx ln len (l.frame c) :=
  .of_sameKeys rfl rfl rfl rfl rfl rfl rfl rfl rfl rfl rfl
    (Leg.Bounded.congr (by rw [Leg.frame, List.length_drop]; omega) rfl rfl rfl rfl) (fun _ => rfl) (fun _ => rfl)

theorem Leg.keeps_clearCounters {rx : Bool} : l.Keeps rx ln len l.clearCounters :=
  .of_sameKeys rfl rfl rfl rfl rfl rfl rfl rfl rfl rfl rfl
    (fun h => ⟨h.output, h.gain, Nat.zero_le _, Nat.zero_le _, Nat.zero_le _⟩) (fun _ => rfl) (fun _ => rfl)

/-- R52: a leg's endpoint set. -/
theorem Leg.keeps_endpoint {rx : Bool} (e : Endpoint) : l.Keeps rx true len { l with endpoint := e } :=
  .of_sameKeys rfl rfl rfl rfl rfl rfl rfl rfl rfl rfl rfl (Leg.Bounded.congr (Nat.le_refl _) rfl rfl rfl rfl)
    (fun _ => rfl) nofun

/-! ### The receive side (R40, R41, R84) -/

theorem Leg.keeps_gatherReceive (f : Frame) : l.Keeps true ln len (l.gatherReceive f) := by
  unfold Leg.gatherReceive
  split
  · exact .of_sameKeys rfl rfl rfl rfl rfl rfl rfl rfl rfl rfl rfl (Leg.Bounded.congr (Nat.le_refl _) rfl rfl rfl rfl)
      nofun (fun _ => rfl)
  · exact .refl _ _ _ _

/-- R82: the receive assembly emptied. -/
theorem Leg.keeps_emptied : l.Keeps true ln len { l with rxAssembly := [] } :=
  .of_sameKeys rfl rfl rfl rfl rfl rfl rfl rfl rfl rfl rfl (Leg.Bounded.congr (Nat.le_refl _) rfl rfl rfl rfl)
    nofun (fun _ => rfl)

theorem LegState.isOpen_of_counts {st : LegState} (h : st.counts = true) : st.isOpen = true := by
  obtain _ | _ | _ | _ := st <;> first | rfl | nomatch h

theorem Leg.keeps_hunt : l.Keeps true ln len l.hunt := by
  unfold Leg.hunt
  split
  next h => exact Leg.keeps_state _ (LegState.isOpen_of_counts h) rfl nofun
  next => exact .refl _ _ _ _

theorem Leg.keeps_advanceRx (loaded : Bool) : l.Keeps true ln len (l.advanceRx len loaded) := by
  unfold Leg.advanceRx
  split
  · exact .refl _ _ _ _
  · exact Leg.keeps_rx _ fun h => Counters.index_advance_lt (c := { l.rx with wheel := _ }) h.rxIndex

theorem Leg.keeps_takeRow (loaded muted : Bool) : l.Keeps true ln len (l.takeRow len loaded muted) := by
  unfold Leg.takeRow
  split
  · split
    · exact ((Leg.keeps_advanceRx loaded).trans (Leg.keeps_mutedBlocks (bump_le l.mutedBlocks))).trans
        (Leg.keeps_output silentBlock)
    · exact (Leg.keeps_advanceRx loaded).trans (Leg.keeps_output _)
  · exact (Leg.keeps_advanceRx loaded).trans (Leg.keeps_output _)
  · exact Leg.keeps_output _
  · exact Leg.keeps_output _
  · exact Leg.keeps_output _
  · exact .refl _ _ _ _

/-- R99: the announced roll acted on keeps the leg open. -/
theorem Leg.keeps_receiveEpochStart (hl : l.state.isOpen = true) : l.Keeps true ln len l.receiveEpochStart.leg := by
  unfold Leg.receiveEpochStart
  split
  · exact .refl _ _ _ _
  next roll _ =>
    split
    · have hdrop : l.Keeps true ln len { l with announced := none } := Leg.keeps_announced none
      refine hdrop.trans ?_
      dsimp only
      split
      next p hp => exact Leg.keeps_adopt (Leg.pendingWith_eq_some hp).1 hl
      next =>
        split
        · split
          · exact Leg.keeps_running hl
          · exact .refl _ _ _ _
        next hg => exact Leg.keeps_state _ hl rfl fun g h => by cases h; exact hg
    · exact .refl _ _ _ _

theorem Leg.awaitedKey_eq_some {p : KeySetting} (h : l.awaitedKey = some p) :
    l.pendingKey = some p ∧ l.state = .holding (.key p.gen) := by
  unfold Leg.awaitedKey at h
  split at h
  next g hst =>
    obtain ⟨hp, hg⟩ := Leg.pendingWith_eq_some h
    exact ⟨hp, by rw [hst, hg]⟩
  next => nomatch h

theorem Leg.keeps_adoptByCatchUp (loaded : Bool) {p : KeySetting} (hp : l.pendingKey = some p)
    (hl : l.state.isOpen = true) : l.Keeps true ln len (l.adoptByCatchUp len loaded p) := by
  have hrx : (l.adopt p).rx = l.rx := by
    simp only [Leg.adopt, Leg.settlePending, hp]
    split <;> rfl
  let counters := if loaded then l.rx else Counters.advance len l.rx
  let k : Leg := { l.adopt p with state := .running }
  have hindex : k.KeyLaws len → (counters.catchUp p.descramble).index < len := fun h => by
    have hk : l.rx.index < len := hrx ▸ h.rxIndex
    rw [Counters.catchUp_index]
    simp only [counters]
    split
    · exact hk
    · exact Counters.index_advance_lt hk
  exact (((Leg.keeps_adopt hp hl).trans (Leg.keeps_rx (l := k) _ hindex)).trans
    (Leg.keeps_mutedBlocks (bump_le l.mutedBlocks))).trans (Leg.keeps_output silentBlock)

/-- R41: a leg takes its completed block. -/
theorem Leg.keeps_takeBlock (loaded straddles : Bool) (hl : l.state.isOpen = true) :
    l.Keeps true ln len (l.takeBlock len loaded straddles).leg := by
  have htake : ∀ k : Leg, k.Keeps true ln len (if loaded && l.state ≠ .running then k.output silentBlock
      else k.takeRow len loaded (straddles || loaded)) := fun k => by
    split
    · exact Leg.keeps_output _
    · exact Leg.keeps_takeRow _ _
  have hstart := Leg.keeps_receiveEpochStart (ln := ln) (len := len) hl
  have hopen := hstart.isOpen.trans hl
  unfold Leg.takeBlock
  dsimp only
  split
  next p hp =>
    obtain ⟨hpending, -⟩ := Leg.awaitedKey_eq_some hp
    split
    · exact (hstart.trans (Leg.keeps_adopt hpending hopen)).trans (htake _)
    · exact hstart.trans (Leg.keeps_adoptByCatchUp loaded hpending hopen)
  next => exact hstart.trans (htake _)

/-! ### Cells acted on (R88 to R91, R98, R101) -/

theorem Leg.keeps_dropAnnounced {rx : Bool} (g : Byte) : l.Keeps rx ln len (l.dropAnnounced g) := by
  unfold Leg.dropAnnounced
  split
  · exact Leg.keeps_announced none
  · exact .refl _ _ _ _

theorem Leg.keeps_dropOwnAnnounced {rx : Bool} (g : Byte) : l.Keeps rx ln len (l.dropOwnAnnounced g) := by
  unfold Leg.dropOwnAnnounced
  split
  · exact Leg.keeps_announced none
  · exact .refl _ _ _ _

theorem Leg.keeps_loadCounters (epoch : Half) {index : Nat} (h : index < len) :
    l.Keeps true ln len (l.loadCounters len epoch index) :=
  Leg.keeps_rx _ fun _ => by
    rw [Counters.load, Counters.catchUp_index]
    exact Counters.index_advance_lt (c := { l.rx with epoch := epoch, index := index }) h

theorem Leg.keeps_actOnSync (epoch : Half) {index : Nat} (g : Byte) (h : index < len) (hl : l.state.isOpen = true) :
    l.Keeps true ln len (l.actOnSync len epoch index g).1.leg := by
  have hsynced : ∀ k : Leg, k.state.isOpen = true →
      k.Keeps true ln len { k.loadCounters len epoch index with state := .running } := fun k hk =>
    (Leg.keeps_loadCounters epoch h).trans (Leg.keeps_running hk)
  have hdrop := Leg.keeps_dropAnnounced (rx := true) (ln := ln) (len := len) (l := l) g
  have hown := Leg.keeps_dropOwnAnnounced (rx := true) (ln := ln) (len := len) (l := l) g
  have hopen := hdrop.isOpen.trans hl
  unfold Leg.actOnSync
  dsimp only
  split
  · split
    · split
      · exact .refl _ _ _ _
      · exact (hdrop.trans (Leg.keeps_loadCounters epoch h)).trans (Leg.keeps_realigns (bump_le l.realigns))
    · exact hdrop.trans (hsynced _ hopen)
    · exact hdrop.trans (hsynced _ hopen)
    · exact hdrop.trans (hsynced _ hopen)
    · exact hown.trans (hsynced _ (hown.isOpen.trans hl))
    · exact .refl _ _ _ _
  next hg =>
    have hkey : (l.dropAnnounced g).rxKey = l.rxKey := by
      unfold Leg.dropAnnounced
      split <;> rfl
    refine hdrop.trans ?_
    split
    next p hp =>
      have hpending := (Leg.pendingWith_eq_some hp).1
      exact (Leg.keeps_adopt hpending hopen).trans (Leg.keeps_loadCounters epoch h)
    next =>
      refine (Leg.keeps_loadCounters epoch h).trans (Leg.keeps_state _ hopen rfl fun g' hg' => ?_)
      cases hg'
      intro heq
      exact hg (heq.trans (congrArg DirKey.gen hkey))

theorem Leg.keeps_actOnClear (hl : l.state.isOpen = true) : l.Keeps true ln len l.actOnClear.leg := by
  unfold Leg.actOnClear
  split
  · exact .refl _ _ _ _
  · exact (Leg.keeps_announced none).trans
      (Leg.keeps_state (l := { l with announced := none }) (.holding .farCleared) hl rfl nofun)

end Sys2Proof.Machine
end

section
/-! PROOFS. The takings of the legs and the trunk side as runs of elementary changes: notices, completions, slips, the
line frame, the scramblings and the departures. -/

namespace Sys2Proof.Machine

variable {rx ln : Bool} {s t : State} {n : LegNo} {l k : Leg}

/-! ### Notices -/

theorem NoticeUnit.keeps_push (u : NoticeUnit) (e : Notice) : u.Keeps (u.push e) := by
  rcases u.push_cases e with ⟨-, h⟩ | ⟨-, hroom, h⟩ | ⟨-, hfull, h⟩
  · rw [h]
    exact ⟨id, id⟩
  · rw [h]
    refine ⟨fun _ => ?_, fun _ => by simp⟩
    rw [List.length_append, List.length_singleton]
    exact hroom
  · rw [h]
    refine ⟨fun hle => ?_, fun _ => by simp⟩
    rw [List.length_append, List.length_drop, List.length_singleton]
    rw [Config.noticeRoom] at *
    omega

theorem changes_notify (s : State) (k : NoticeKind) (x : Nat) (d : Half) : Changes rx ln s (s.notify k x d) :=
  .single (.notices _ (s.notices.keeps_push _))

theorem changes_notifyAll (s : State) (x : Nat) (ns : List (NoticeKind × Half)) : Changes rx ln s (s.notifyAll x ns) :=
  Changes.foldl (fun s a => changes_notify s a.1 x a.2) ns s

/-! ### Legs -/

/-- One leg's record changed. -/
theorem changes_setLeg (hl : s.legs[n] = some l) (h : l.Keeps rx ln s.params.epochLength k) :
    Changes rx ln s (s.setLeg n (some k)) := by
  refine .single (.legs _ fun m => ?_)
  rw [getElem_set_fin]
  split
  next hm =>
    subst hm
    rw [hl]
    exact .some h
  next => exact optionRel_refl (fun l => Leg.Keeps.refl _ _ _ l) _

/-- Every leg's record changed. -/
theorem changes_mapLegs (f : LegNo → Leg → Leg) (h : ∀ n (l : Leg), l.Keeps rx ln s.params.epochLength (f n l)) :
    Changes rx ln s { s with legs := Vector.ofFn fun n => (s.legs[n]).map (f n) } := by
  refine .single (.legs _ fun m => ?_)
  rw [getElem_ofFn_fin]
  cases s.legs[m] with
  | none => exact .none
  | some l => exact .some (h m l)

theorem changes_emptyAssemblies (s : State) : Changes true ln s { s with legs := emptyAssemblies s.legs } :=
  changes_mapLegs (fun _ l => { l with rxAssembly := [] }) fun _ _ => Leg.keeps_emptied

/-! ### The completion of a receive block (R82 to R91) -/

theorem changes_takeLegBlock (ld : Option LegNo) (st : Bool) (s : State) (n : LegNo) :
    Changes true ln s (s.takeLegBlock ld st n) := by
  unfold State.takeLegBlock
  split
  · exact .refl
  next l hl =>
    split
    next ho => exact (changes_setLeg hl (Leg.keeps_takeBlock _ _ ho)).trans (changes_notifyAll _ _ _)
    next => exact .refl

theorem changes_takeBlocks (ld : Option LegNo) (st : Bool) (s : State) : Changes true ln s (s.takeBlocks ld st) :=
  Changes.foldl (changes_takeLegBlock ld st) _ s

theorem legByTag_open {tag : Byte} (h : s.legByTag tag = some n) :
    ∃ l, s.legs[n] = some l ∧ l.state.isOpen = true ∧ l.receiveTag = tag := by
  have hn := firstPlace_holds h
  simp only [Option.any_eq_true, Bool.and_eq_true, beq_iff_eq] at hn
  exact hn

theorem changes_onTaggedLeg (tag : Byte) {act : Leg → LegChange × Bool}
    (h : ∀ l : Leg, l.state.isOpen = true → l.Keeps true ln s.params.epochLength (act l).1.leg) :
    Changes true ln s (s.onTaggedLeg tag act).1 := by
  unfold State.onTaggedLeg
  split
  · exact .single (.framer _ (fun hb => ⟨hb.window, hb.badRun, hb.counters.1, bump_le _, hb.counters.2.2⟩) nofun)
  next n hn =>
    obtain ⟨l, hl, ho, -⟩ := legByTag_open hn
    split
    next hnone => exact .refl
    next l' hl' =>
      rw [hl] at hl'
      cases hl'
      exact (changes_setLeg hl (h l ho)).trans (changes_notifyAll _ _ _)

theorem changes_actOnCell (s : State) (cell : TrunkCell) : Changes true ln s (s.actOnCell cell).1 := by
  unfold State.actOnCell
  cases cell with
  | idle => exact .refl
  | sync tag epoch index gen =>
    dsimp only
    refine changes_onTaggedLeg tag fun l ho => ?_
    split
    · exact .refl _ _ _ _
    next h =>
      have hindex : index.toNat < s.params.epochLength := by
        simp only [Bool.or_eq_true, decide_eq_true_eq, not_or] at h
        exact Nat.lt_of_not_le h.2
      exact Leg.keeps_actOnSync epoch gen hindex ho
  | roll tag gen epoch =>
    dsimp only
    refine changes_onTaggedLeg tag fun l ho => ?_
    split
    · exact .refl _ _ _ _
    · exact Leg.keeps_announced _
  | clear tag => exact changes_onTaggedLeg tag fun l ho => Leg.keeps_actOnClear ho

/-- A framer changed within its ranges, where the receive side may be touched. -/
theorem changes_framer (f : Framer) (h : s.framer.Bounded → f.Bounded) : Changes true ln s { s with framer := f } :=
  .single (.framer f h nofun)

theorem changes_completeValid (s : State) (cell : TrunkCell) : Changes true ln s (s.completeValid cell) :=
  ((changes_framer { s.framer with badRun := 0 } fun h => ⟨h.window, Nat.zero_le _, h.counters⟩).trans
    (changes_actOnCell _ cell)).trans (changes_takeBlocks _ _ _)

theorem changes_badCell (s : State) (p : Position) : Changes true ln s (s.badCell p) := by
  unfold State.badCell
  dsimp only
  split
  next h =>
    have hframer := changes_framer (ln := ln) (s := s) { s.framer.toHunt with
      badRun := 0, badCells := bump s.framer.badCells } fun h => ⟨h.window, Nat.zero_le _, bump_le _, h.counters.2⟩
    have hlegs := changes_mapLegs (ln := ln) (s := { s with framer := { s.framer.toHunt with
      badRun := 0, badCells := bump s.framer.badCells } }) (fun _ => Leg.hunt) fun _ _ => Leg.keeps_hunt
    exact (hframer.trans hlegs).trans (changes_notify _ _ _ _)
  next h => exact changes_framer _ fun hb => ⟨hb.window, by simp only at h ⊢; omega, bump_le _, hb.counters.2⟩

theorem changes_nextBlock (s : State) : Changes true ln s { s with framer := s.framer.nextBlock } :=
  changes_framer _ fun h => ⟨h.window, h.badRun, h.counters⟩

theorem changes_completePresync (s : State) (p : Position) : Changes true ln s (s.completePresync p) := by
  unfold State.completePresync
  split
  · exact ((changes_framer { s.framer.nextBlock with mode := .sync p } fun h => ⟨h.window, h.badRun, h.counters⟩).trans
      (changes_notify _ _ _ _)).trans (changes_completeValid _ _)
  · exact (changes_framer s.framer.toHunt fun h => ⟨h.window, h.badRun, h.counters⟩).trans (changes_emptyAssemblies _)

theorem changes_completeSync (s : State) (p : Position) : Changes true ln s (s.completeSync p) := by
  have hnext := changes_nextBlock (ln := ln) s
  unfold State.completeSync
  dsimp only
  split
  · split
    · exact hnext.trans (changes_completeValid _ _)
    · exact (hnext.trans (changes_badCell _ p)).trans (changes_takeBlocks _ _ _)
  · split
    · exact hnext.trans (changes_takeBlocks _ _ _)
    · exact (hnext.trans (changes_badCell _ p)).trans (changes_takeBlocks _ _ _)

/-- R82, R83: a completion touches the receive side and the notices. -/
theorem changes_completeBlock (s : State) : Changes true ln s s.completeBlock := by
  unfold State.completeBlock
  split
  · split
    · exact changes_nextBlock s
    · exact changes_completePresync s _
    · exact changes_completeSync s _
  · exact .refl

theorem changes_trunk (p : TrunkPort) (h : s.trunk.Bounded → p.Bounded) : Changes rx ln s { s with trunk := p } :=
  .single (.trunk p h)

/-! ### Slips and delivered frames (R10, R13, R40, R80) -/

theorem Framer.bounded_slip (d : SlipDirection) (f : Framer) (h : f.Bounded) : (f.slip d).Bounded := by
  unfold Framer.slip
  split
  · exact h
  · exact ⟨h.window, h.badRun, h.counters⟩
  · split
    · split <;> exact ⟨h.window, h.badRun, h.counters⟩
    · exact ⟨h.window, h.badRun, h.counters⟩

theorem TrunkPort.bounded_recordSlip (d : SlipDirection) (t : TrunkPort) (h : t.Bounded) : (t.recordSlip d).Bounded := by
  refine ⟨h.store, ?_, ?_⟩
  · rw [TrunkPort.recordSlip_netSlips]
    omega
  · by_cases hturn : t.lastDirection = some d.opposite
    · rw [TrunkPort.recordSlip_changes_of_turn hturn]
      exact Nat.min_le_left _ _
    · rw [TrunkPort.recordSlip_changes_of_no_turn hturn]
      exact h.changes

theorem State.keeps_slipNotices (s : State) (d : SlipDirection) : s.notices.Keeps (s.slipNotices d) := by
  have hslip := s.notices.keeps_push ⟨.slip, byteOf 0, d.noticeDetail, s.line.blockCount⟩
  unfold State.slipNotices
  dsimp only
  split
  · exact ⟨fun h => (NoticeUnit.keeps_push _ _).room (hslip.room h),
      fun h => (NoticeUnit.keeps_push _ _).attention (hslip.attention h)⟩
  · exact hslip

theorem changes_slipLegs (s : State) (m : FramerMode) : Changes true ln s { s with legs := m.slipLegs s.legs } := by
  cases m with
  | presync p => exact changes_emptyAssemblies s
  | hunt | sync p => exact .refl

theorem changes_handleSlip (s : State) (d : SlipDirection) : Changes true ln s (s.handleSlip d) := by
  rw [State.handleSlip_eq]
  have htrunk : Changes true ln s { s with trunk := s.trunk.recordSlip d } :=
    .single (.trunk _ (TrunkPort.bounded_recordSlip d _))
  have hframer := changes_framer (ln := ln) (s := { s with trunk := s.trunk.recordSlip d }) (s.framer.slip d)
    (Framer.bounded_slip d _)
  exact ((htrunk.trans hframer).trans (changes_slipLegs _ s.framer.mode)).tail (.notices _ (s.keeps_slipNotices d))

/-- R10: a frame joins the elastic store after a completion already due. -/
theorem changes_trunkArrival (f : Frame) (s : State) : Changes true ln s (s.trunkArrival f) := by
  unfold State.trunkArrival
  split
  · exact .refl
  · refine (changes_completeBlock s).trans ?_
    dsimp only
    split
    next hroom =>
      refine .single (.trunk _ fun h => ⟨?_, h.netSlips, h.changes⟩)
      rw [List.length_append, List.length_singleton]
      exact hroom
    next =>
      refine .trans (changes_trunk { s.completeBlock.trunk with
        store := s.completeBlock.trunk.store.drop 1 ++ [f], primed := true } fun h => ⟨?_, h.netSlips, h.changes⟩)
        (changes_handleSlip _ _)
      have := h.store
      rw [List.length_append, List.length_drop, List.length_singleton]
      rw [Config.storeRoom] at *
      omega

theorem changes_deliver (f : Frame) (s : State) : Changes true ln s (s.deliver f) := by
  unfold State.deliver
  split
  · exact .single (.trunk _ fun h => ⟨h.store, h.netSlips, h.changes⟩)
  · split
    next hq =>
      refine .single (.trunk _ fun h => ⟨?_, h.netSlips, h.changes⟩)
      have := h.store
      rw [hq, List.length_cons] at this
      exact Nat.le_of_succ_le this
    next =>
      split
      · exact changes_handleSlip s _
      · exact .refl

theorem length_windowPush_le (w : List Byte) (b : Byte) : (windowPush w b).length ≤ 8 := by
  rw [windowPush, List.length_drop]
  omega

theorem Framer.bounded_deliver (pos : Position) (b : Byte) (f : Framer) (h : f.Bounded) : (f.deliver pos b).Bounded := by
  unfold Framer.deliver
  dsimp only
  split
  · split <;> exact ⟨length_windowPush_le _ _, h.badRun, h.counters⟩
  · exact ⟨length_windowPush_le _ _, h.badRun, h.counters⟩
  · exact ⟨length_windowPush_le _ _, h.badRun, h.counters⟩

theorem changes_handInward (pos : Position) (s : State) : Changes true ln s (s.handInward pos) := by
  have hframer := changes_framer (ln := ln) (s := s) _ (Framer.bounded_deliver pos s.trunk.lastDelivered[0] _)
  unfold State.handInward
  dsimp only
  split
  · exact hframer.trans (changes_mapLegs (fun _ => Leg.gatherReceive s.trunk.lastDelivered)
      fun _ _ => Leg.keeps_gatherReceive _)
  · exact hframer

/-! ### The slots of a line frame (R4 to R8, R38, R154, R155) -/

/-- Every conference's record changed, its members and its chair kept. -/
theorem changes_mapConfs (f : ConfNo → Conf → Conf) (hb : ∀ c k, k.Bounded → (f c k).Bounded)
    (hv : ∀ c k, (f c k).lineView = k.lineView) :
    Changes rx ln s { s with confs := Vector.ofFn fun c => (s.confs[c]).map (f c) } := by
  refine .single (.confs _ (fun c h k hk => ?_) fun _ c => ?_)
  · rw [getElem_ofFn_fin] at hk
    obtain ⟨k', hk', rfl⟩ := Option.map_eq_some_iff.1 hk
    exact hb c k' (h k' hk')
  · rw [getElem_ofFn_fin, Option.map_map]
    exact congrArg (fun g => (s.confs[c]).map g) (funext (hv c))

theorem changes_fixMixingSets (s : State) : Changes rx ln s s.fixMixingSets := by
  unfold State.fixMixingSets
  split
  · exact changes_mapConfs (fun _ k => { k with mixSet := some k.members })
      (fun _ _ h => ⟨h.members, h.governor, h.attenuation, h.clippedBlocks⟩) fun _ _ => rfl
  · exact .refl

/-- R2, R4: the slot 0 bytes follow the place of the next frame. -/
theorem LinePort.cellIn_nextFrame (b : Byte) (p : LinePort) (h : p.cellIn.length = p.framePos) :
    (p.takeSlot0 b).nextFrame.cellIn.length = (p.takeSlot0 b).nextFrame.framePos := by
  unfold LinePort.takeSlot0
  dsimp only
  split
  next h7 =>
    simp only [LinePort.nextFrame, h7]
    rfl
  next h7 =>
    have := p.framePos.isLt
    have h7' : p.framePos.val ≠ 7 := fun h => h7 (Fin.ext h)
    simp only [LinePort.nextFrame, List.length_append, List.length_singleton, h, Fin.val_add]
    exact (Nat.mod_eq_of_lt (by omega)).symm

theorem LinePort.outMap_nextFrame (b : Byte) (p : LinePort) : (p.takeSlot0 b).nextFrame.outMap = p.outMap := by
  unfold LinePort.takeSlot0
  dsimp only
  split <;> rfl

/-- A line frame's parts: the ports, every leg's record and every conference's. -/
theorem changes_slots (p : LinePort) (q : TrunkPort) (f : LegNo → Leg → Leg) (g : ConfNo → Conf → Conf)
    (hcell : s.line.cellIn.length = s.line.framePos → p.cellIn.length = p.framePos) (hmap : p.outMap = s.line.outMap)
    (hq : s.trunk.Bounded → q.Bounded) (hf : ∀ n (l : Leg), l.Keeps true ln s.params.epochLength (f n l))
    (hb : ∀ c k, k.Bounded → (g c k).Bounded) (hv : ∀ c k, (g c k).lineView = k.lineView) :
    Changes true ln s { s with
      line := p, trunk := q
      legs := Vector.ofFn fun n => (s.legs[n]).map (f n)
      confs := Vector.ofFn fun c => (s.confs[c]).map (g c) } := by
  have hline : Changes true ln s { s with line := p } := .single (.line p hcell nofun fun _ => hmap)
  have htrunk := changes_trunk (rx := true) (ln := ln) (s := { s with line := p }) q hq
  have hlegs := changes_mapLegs (rx := true) (ln := ln) (s := { s with line := p, trunk := q }) f hf
  exact ((hline.trans htrunk).trans hlegs).trans (changes_mapConfs g hb hv)

theorem changes_frameSlots (lineIn : Frame) (s : State) : Changes true ln s (s.frameSlots lineIn) := by
  refine (changes_fixMixingSets s).trans ?_
  unfold State.frameSlots
  dsimp only
  refine changes_slots _ _ (fun n l => l.frame (s.fixMixingSets.transmitSource lineIn (s.fixMixingSets.frameMix lineIn) n l))
    (fun c k => { k with clipMark := k.clipMark || (s.fixMixingSets.frameMix lineIn)[c].any (·.2.2) }) ?_ ?_ ?_ ?_ ?_ ?_
  · exact fun h => LinePort.cellIn_nextFrame _ _ h
  · exact LinePort.outMap_nextFrame _ _
  · exact fun h => ⟨h.store, h.netSlips, h.changes⟩
  · exact fun _ _ => Leg.keeps_frame _
  · exact fun _ _ h => ⟨h.members, h.governor, h.attenuation, h.clippedBlocks⟩
  · exact fun _ _ => rfl

/-! ### Scramblings and departures (R39, R64, R77 to R79) -/

/-- R39, R97: a scrambling changes the leg, asks for a SYNC and tells of a switch. -/
theorem changes_scrambleLeg (s : State) (n : LegNo) : Changes rx ln s (s.scrambleLeg n) := by
  unfold State.scrambleLeg
  split
  · exact .refl
  next l hl =>
    split
    · exact .refl
    next b _ =>
      split
      next ho =>
        dsimp only
        split
        next p hp =>
          obtain ⟨hpending, hepoch⟩ := Leg.switchDue_eq_some hp
          have hkeeps := (Leg.keeps_transmitSwitch (rx := rx) (ln := ln) (len := s.params.epochLength) hpending
            hepoch).trans (Leg.keeps_scramble b)
          exact ((changes_setLeg hl hkeeps).trans (changes_notify _ _ _ _)).tail
            (.askSync (State.setLeg_same _ _ _) (hkeeps.isOpen.trans ho))
        next =>
          have hset := changes_setLeg (rx := rx) (ln := ln) hl (Leg.keeps_scramble b)
          split
          · exact hset.tail (.askSync (State.setLeg_same _ _ _) ho)
          · exact hset
      next => exact .refl

theorem changes_departCell (s : State) : Changes rx ln s s.departCell := by
  unfold State.departCell
  split
  · exact changes_trunk _ fun h => ⟨h.store, h.netSlips, h.changes⟩
  next r rest hq =>
    have hdepart : Changes rx ln s (State.sendRequest { s with cellQueue := rest } r).1 := .single (.depart hq)
    exact hdepart.trans (changes_trunk _ fun h => ⟨h.store, h.netSlips, h.changes⟩)

theorem changes_trunkDeparture (s : State) : Changes rx ln s s.trunkDeparture := by
  unfold State.trunkDeparture
  split
  · have hserve : ∀ (s : State) (n : LegNo), Changes rx ln s (s.serveWants n) := fun s n => .single (.serve n)
    have hdue := changes_trunk (rx := rx) (ln := ln) (s := s) { s.trunk with cellDue := false }
      fun h => ⟨h.store, h.netSlips, h.changes⟩
    exact (hdue.trans (changes_departCell _)).trans (Changes.foldl hserve _ _)
  · exact .refl

end Sys2Proof.Machine
end

section
/-! PROOFS. The takings of the extension table and of admission as runs of elementary changes: one record written, the
closing paths, the fault action, the admission cells and the timers. -/

namespace Sys2Proof.Machine

variable {rx ln : Bool} {s t : State} {n : LegNo} {l k : Leg} {h : Handle} {r q : ExtRecord}

/-! ### The extension table written -/

theorem ExtRecord.FailuresFit.of_lt {limit : Nat} (hb : r.state.isBarred = false) (hf : r.failures < limit) :
    r.FailuresFit limit := by
  rw [ExtRecord.FailuresFit, hb]
  exact hf

theorem ExtRecord.FailuresFit.lt {limit : Nat} (hb : r.state.isBarred = false) (hr : r.FailuresFit limit) :
    r.failures < limit := by
  rw [ExtRecord.FailuresFit, hb] at hr
  exact hr

/-- A record that is not BARRED keeps within the limit while its failures stay and it is not barred. -/
theorem ExtRecord.FailuresFit.unbarred {limit : Nat} (hr : r.state.isBarred = false) (hq : q.state.isBarred = false)
    (hf : q.failures = r.failures) (h : r.FailuresFit limit) : q.FailuresFit limit :=
  .of_lt hq (hf ▸ h.lt hr)

theorem State.record_setRecord (s : State) (h k : Handle) (r : Option ExtRecord) :
    (s.setRecord h r).record k = if h = k then r else s.record k :=
  getElem_set_fin _ _ _ _

theorem State.boundSlot_eq_some {k : Slot} :
    s.boundSlot h = some k ↔ ∃ r, s.record h = some r ∧ r.state.slot? = some k :=
  Option.bind_eq_some_iff

theorem State.boundSlot_of_record (hr : s.record h = some r) : s.boundSlot h = r.state.slot? := by
  rw [State.boundSlot, hr]
  rfl

/-- R105, R106: a table stays lawful where each number was there before or is no other's, and each bound slot too. -/
theorem State.RecordsDistinct.of_records
    (hnum : ∀ h q, t.record h = some q → (∃ r, s.record h = some r ∧ q.number = r.number) ∨
      ∀ y p, t.record y = some p → p.number = q.number → y = h)
    (hslot : ∀ h k, t.boundSlot h = some k → s.boundSlot h = some k ∨ ∀ y, t.boundSlot y = some k → y = h)
    (hs : s.RecordsDistinct) : t.RecordsDistinct where
  slots h k slot hh hk := by
    rcases hslot h slot hh with hold | hnew
    · rcases hslot k slot hk with hold' | hnew'
      · exact hs.slots h k slot hold hold'
      · exact hnew' h hh
    · exact (hnew k hk).symm
  numbers h k r q hr hq hrq := by
    rcases hnum h r hr with ⟨r', hr', hnr⟩ | hnew
    · rcases hnum k q hq with ⟨q', hq', hnq⟩ | hnew'
      · exact hs.numbers h k r' q' hr' hq' (hnr ▸ hnq ▸ hrq)
      · exact hnew' h r hr hrq
    · exact (hnew k q hq hrq.symm).symm

/-- One record of the table changed: its number kept, a newly bound slot no other's, its failures within the limit. -/
theorem changes_setRecord (hr : s.record h = some r) (hnum : q.number = r.number)
    (hslot : ∀ k, q.state.slot? = some k → r.state.slot? = some k ∨ ∀ y, s.boundSlot y = some k → y = h)
    (hfail : 1 ≤ s.params.failureLimit → r.FailuresFit s.params.failureLimit → q.FailuresFit s.params.failureLimit)
    (hview : ln = false → q.lineView = r.lineView) : Changes rx ln s (s.setRecord h (some q)) := by
  refine .single (.ext _ (fun hs => hs.of_records (t := s.setRecord h (some q)) ?_ ?_) (fun hone hs k p hp => ?_) id
    fun hln k => ?_)
  · intro k p hp
    rw [State.record_setRecord] at hp
    split at hp
    next hk => cases hp; subst hk; exact .inl ⟨r, hr, hnum⟩
    next => exact .inl ⟨p, hp, rfl⟩
  · intro k slot hk
    by_cases hkh : h = k
    · subst hkh
      rw [State.boundSlot, State.setRecord_same] at hk
      rcases hslot slot hk with hold | hnew
      · exact .inl ((State.boundSlot_of_record hr).trans hold)
      · refine .inr fun y hy => ?_
        by_cases hyh : h = y
        · exact hyh.symm
        · rw [State.boundSlot, State.setRecord_other _ _ _ _ hyh] at hy
          exact hnew y hy
    · rw [State.boundSlot, State.setRecord_other _ _ _ _ hkh] at hk
      exact .inl hk
  · have hp' : (s.setRecord h (some q)).record k = some p := hp
    rw [State.record_setRecord] at hp'
    split at hp'
    next hk => cases hp'; exact hfail hone (hs h r hr)
    next => exact hs k p hp'
  · rw [getElem_set_fin]
    split
    next hk => subst hk; rw [hr]; exact congrArg some (hview hln)
    next => rfl

/-- A record's admission state changed, not into or out of BARRED. -/
theorem changes_setAdmission {a : Admission} (hr : s.record h = some r)
    (hslot : ∀ k, a.slot? = some k → r.state.slot? = some k ∨ ∀ y, s.boundSlot y = some k → y = h)
    (hbar : r.state.isBarred = false) (hbar' : a.isBarred = false)
    (hview : ln = false → a.slot? = r.state.slot? ∧ a.isAdmitted = r.state.isAdmitted) :
    Changes rx ln s (s.setAdmission h a) := by
  rw [State.setAdmission_of_record hr a]
  refine changes_setRecord hr rfl hslot (fun _ hf => hf.unbarred hbar hbar' rfl) fun hln => ?_
  obtain ⟨hs, ha⟩ := hview hln
  rw [ExtRecord.lineView, ExtRecord.lineView, hs, ha]

theorem ExtTable.Bounded.mapRecords (f : ExtRecord → ExtRecord) {e : ExtTable} (h : e.Bounded) :
    (e.mapRecords f).Bounded := by
  unfold ExtTable.mapRecords
  exact ⟨h.1, h.2⟩

/-- Every record of the table changed, its number, its slot and whether it is BARRED kept. -/
theorem changes_mapRecords (f : ExtRecord → ExtRecord) (hf : ∀ r, (f r).number = r.number ∧ (f r).failures = r.failures ∧
      (f r).state.isBarred = r.state.isBarred ∧ (f r).lineView = r.lineView) :
    Changes rx ln s { s with ext := s.ext.mapRecords f } := by
  have hrecord (k : Handle) : (s.ext.mapRecords f).records[k] = (s.record k).map f := by
    rw [ExtTable.mapRecords, getElem_ofFn_fin]
    rfl
  refine .single (.ext _ (fun hs => hs.of_records (fun k p hp => ?_) fun k slot hk => ?_) (fun _ hs k p hp => ?_) (·.mapRecords f)
    fun _ k => ?_)
  · rw [State.record, hrecord] at hp
    obtain ⟨r, hr, rfl⟩ := Option.map_eq_some_iff.1 hp
    exact .inl ⟨r, hr, (hf r).1⟩
  · obtain ⟨p, hp, hslot⟩ := State.boundSlot_eq_some.1 hk
    rw [State.record, hrecord] at hp
    obtain ⟨r, hr, rfl⟩ := Option.map_eq_some_iff.1 hp
    have hview := congrArg (·.2.2.1) (hf r).2.2.2
    exact .inl (State.boundSlot_eq_some.2 ⟨r, hr, hview.symm.trans hslot⟩)
  · rw [State.record, hrecord] at hp
    obtain ⟨r, hr, rfl⟩ := Option.map_eq_some_iff.1 hp
    obtain ⟨-, hfailures, hbarred, -⟩ := hf r
    rw [hfailures, hbarred]
    exact hs k r hr
  · rw [hrecord, Option.map_map]
    exact congrArg (fun g => (s.record k).map g) (funext fun r => (hf r).2.2.2)

/-- The table changed outside its records. -/
theorem changes_table (e : ExtTable) (hrec : e.records = s.ext.records) (hb : s.ext.Bounded → e.Bounded) :
    Changes rx ln s { s with ext := e } := by
  have hrecord (k : Handle) : State.record { s with ext := e } k = s.record k :=
    congrArg (fun v : Vector (Option ExtRecord) 256 => v[k]) hrec
  have hbound (k : Handle) : State.boundSlot { s with ext := e } k = s.boundSlot k :=
    congrArg (fun x : Option ExtRecord => x.bind (·.state.slot?)) (hrecord k)
  refine .single (.ext _ (fun hs => hs.of_records (fun k p hp => ?_) fun k slot hk => ?_) (fun _ hs k p hp => ?_) hb
    fun _ k => congrArg _ (hrecord k))
  · exact .inl ⟨p, (hrecord k).symm.trans hp, rfl⟩
  · exact .inl ((hbound k).symm.trans hk)
  · exact hs k p ((hrecord k).symm.trans hp)

/-! ### The line side's own parts -/

/-- The line port changed outside the block in progress. -/
theorem changes_line (p : LinePort) (hcell : p.cellIn = s.line.cellIn) (hpos : p.framePos = s.line.framePos)
    (hmap : ln = false → p.outMap = s.line.outMap) : Changes rx ln s { s with line := p } :=
  .single (.line p (by rw [hcell, hpos]; exact id) (fun _ => hpos) hmap)

theorem LinePort.release_frame (p : LinePort) (slot : Option Slot) (src : SlotSource) :
    p.release slot src = { p with outMap := (p.release slot src).outMap } := by
  cases slot with
  | none => rfl
  | some k =>
    unfold LinePort.release
    dsimp only
    split <;> rfl

theorem LinePort.setSource_frame (p : LinePort) (slot : Option Slot) (src : SlotSource) :
    p.setSource slot src = { p with outMap := (p.setSource slot src).outMap } := by
  cases slot <;> rfl

theorem changes_release (s : State) (slot : Option Slot) (src : SlotSource) :
    Changes rx true s { s with line := s.line.release slot src } :=
  changes_line _ (congrArg (·.cellIn) (LinePort.release_frame _ _ _)) (congrArg (·.framePos) (LinePort.release_frame _ _ _))
    nofun

theorem changes_setSource (s : State) (slot : Option Slot) (src : SlotSource) :
    Changes rx true s { s with line := s.line.setSource slot src } :=
  changes_line _ (congrArg (·.cellIn) (LinePort.setSource_frame _ _ _))
    (congrArg (·.framePos) (LinePort.setSource_frame _ _ _)) nofun

/-- One conference's record written within its ranges. -/
theorem changes_setConf {c : ConfNo} {x : Option Conf} (hb : (∀ k, s.confs[c] = some k → k.Bounded) → ∀ k, x = some k → k.Bounded)
    (hv : ln = false → x.map Conf.lineView = (s.confs[c]).map Conf.lineView) : Changes rx ln s (s.setConf c x) := by
  refine .single (.confs _ (fun d hd k hk => ?_) fun hln d => ?_)
  · rw [getElem_set_fin] at hk
    split at hk
    next hcd => subst hcd; exact hb hd k hk
    next => exact hd k hk
  · rw [getElem_set_fin]
    split
    next hcd => subst hcd; exact hv hln
    next => rfl

theorem Conf.bounded_remove (m : Member) (k : Conf) (hk : k.Bounded) : (k.remove m).Bounded :=
  ⟨(List.length_erase_le).trans hk.members, hk.governor, hk.attenuation, hk.clippedBlocks⟩

theorem changes_removeMember (s : State) (c : ConfNo) (m : Member) :
    Changes rx true s { s with confs := s.confs.set c ((s.confs[c]).map (Conf.remove m)) } := by
  refine changes_setConf (fun hb k hk => ?_) nofun
  obtain ⟨k', hk', rfl⟩ := Option.map_eq_some_iff.1 hk
  exact Conf.bounded_remove m k' (hb k' hk')

/-- One leg's endpoint written. -/
theorem changes_updateEndpoint (s : State) (n : LegNo) (e : Endpoint) :
    Changes rx true s (s.updateLeg n fun l => { l with endpoint := e }) := by
  unfold State.updateLeg
  cases hl : s.legs[n] with
  | none =>
    rw [Option.map_none, vector_set_eq_self hl]
  | some l => exact changes_setLeg hl (Leg.keeps_endpoint e)

theorem changes_parkEndpoint (s : State) (o : Option LegNo) : Changes rx true s (s.parkEndpoint o) := by
  cases o with
  | none => exact .refl
  | some n => exact changes_updateEndpoint s n .parked

/-! ### The closing path and the fault action (R136 to R141, R148) -/

theorem changes_dismiss (c : ConfNo) (s : State) (m : Member) : Changes rx true s (State.dismiss c s m) := by
  cases m with
  | leg n => exact changes_updateEndpoint s n .parked
  | loc h => exact changes_release s _ _

theorem changes_closeConf (s : State) (c : ConfNo) (cause : ConfCause) : Changes rx true s (s.closeConf c cause) := by
  cases hc : s.confs[c] with
  | none =>
    rw [State.closeConf_none cause hc]
  | some k =>
    rw [State.closeConf_some cause hc]
    exact ((Changes.foldl (changes_dismiss c) k.members s).trans (changes_setConf (x := none) (fun _ _ => nofun) nofun)).trans
      (changes_notify _ _ _ _)

/-- Open legs put into CLEARING one after another. -/
theorem changes_clearLegs (cause : CloseCause) (slot : Option Slot) (ns : List LegNo) (s : State) (hn : ns.Nodup)
    (ho : ∀ n ∈ ns, ∃ l, s.legs[n] = some l ∧ l.state.isOpen = true) :
    Changes rx true s (ns.foldl (fun s n => s.clearLeg n cause slot) s) := by
  induction ns generalizing s with
  | nil => exact .refl
  | cons n rest ih =>
    obtain ⟨hnot, hrest⟩ := List.nodup_cons.1 hn
    obtain ⟨l, hl, hopen⟩ := ho n List.mem_cons_self
    have hclear : Change rx true s (s.clearLeg n cause slot) := .clearLeg cause slot rfl hl hopen
    refine .trans (.single hclear) (ih _ hrest fun m hm => ?_)
    obtain ⟨k, hk, hkopen⟩ := ho m (List.mem_cons_of_mem n hm)
    have hnm : n ≠ m := fun h => hnot (h ▸ hm)
    refine ⟨k, ?_, hkopen⟩
    rw [(State.clearLeg_some cause slot hl).1, getElem_set_fin, if_neg hnm, hk]

theorem mem_openLegsOf {e : Handle} {n : LegNo} :
    n ∈ s.openLegsOf e ↔ ∃ l, s.legs[n] = some l ∧ l.owner = e ∧ l.state.isOpen = true := by
  rw [State.openLegsOf, mem_placesWhere]
  simp only [Option.any_eq_true, Bool.and_eq_true, beq_iff_eq]

theorem nodup_placesWhere {m : Nat} (p : Fin m → Bool) : (placesWhere p).Nodup :=
  (List.nodup_finRange m).filter _

theorem changes_faultLegs (s : State) (e : Handle) (slot : Option Slot) : Changes rx true s (s.faultLegs e slot) := by
  refine changes_clearLegs .fault slot _ s (nodup_placesWhere _) fun n hn => ?_
  obtain ⟨l, hl, -, ho⟩ := mem_openLegsOf.1 hn
  exact ⟨l, hl, ho⟩

theorem changes_removeLocal (s : State) (c : ConfNo) (e : Handle) (slot : Option Slot) :
    Changes rx true s (s.removeLocal c e slot) :=
  (changes_removeMember s c (.loc e)).trans (changes_release _ _ _)

theorem changes_faultExtension (x : Handle) (former : Slot) (s : State) (e : Handle) :
    Changes rx true s (s.faultExtension x former e) := by
  unfold State.faultExtension
  dsimp only
  split
  · exact changes_faultLegs s e _
  · exact (changes_faultLegs s e _).trans (changes_removeLocal _ _ _ _)

theorem changes_faultAction (s : State) (x : Handle) (cause : LossCause) (scope : FaultScope) (former : Slot) :
    Changes rx true s (s.faultAction x cause scope former) := by
  have hclose (cause : ConfCause) (l : List ConfNo) (s : State) :
      Changes rx true s (l.foldl (fun s c => s.closeConf c cause) s) :=
    Changes.foldl (fun s c => changes_closeConf s c cause) l s
  unfold State.faultAction
  dsimp only
  refine .trans ?_ (hclose _ _ _)
  have hfault := Changes.foldl (changes_faultExtension (rx := rx) x former)
  split
  · exact ((changes_notify _ _ _ _).trans (hfault _ _)).trans (hclose _ _ _)
  · exact (changes_notify _ _ _ _).trans (hfault _ _)

/-! ### Admission cells (R119 to R130) -/

theorem changes_admQueue (q : List Cell) (h : s.admQueue.length ≤ Config.admQueueRoom → q.length ≤ Config.admQueueRoom) :
    Changes rx ln s { s with admQueue := q } := .single (.admQueue q h)

theorem changes_queueCell (s : State) (c : OutgoingCell) : Changes rx ln s (s.queueCell c) := by
  refine changes_admQueue _ fun h => ?_
  split
  next hroom =>
    rw [List.length_append, List.length_singleton]
    exact hroom
  next => exact h

theorem changes_refuseHello (s : State) (slot : Slot) (reason : RefuseReason) : Changes rx ln s (s.refuseHello slot reason) :=
  (changes_queueCell s _).trans (changes_notify _ _ _ _)

/-- A cell appended where the queue has room. -/
theorem changes_appendCell (s : State) (c : Cell) (hroom : s.admRoom = true) :
    Changes rx ln s { s with admQueue := s.admQueue ++ [c] } := by
  refine changes_admQueue _ fun _ => ?_
  rw [List.length_append, List.length_singleton]
  exact of_decide_eq_true hroom

theorem changes_sendChallenge (s : State) (slot : Slot) (hroom : s.admRoom = true) :
    Changes rx ln s (s.sendChallenge slot) :=
  (changes_table { s.ext with generator := s.nextNonce } rfl id).trans
    (changes_appendCell { s with ext := { s.ext with generator := s.nextNonce } } _ hroom)

theorem challengedState_of_admitted {slot : Slot} {nonce : Half} {timeout : Nat} {a : Admission}
    (h : a.isAdmitted = true) : challengedState slot nonce timeout a = .refreshing slot nonce timeout := by
  cases a <;> first | rfl | nomatch h

theorem challengedState_slot (slot : Slot) (nonce : Half) (timeout : Nat) (a : Admission) :
    (challengedState slot nonce timeout a).slot? = some slot := by
  cases a <;> rfl

theorem challengedState_isBarred (slot : Slot) (nonce : Half) (timeout : Nat) (a : Admission) :
    (challengedState slot nonce timeout a).isBarred = false := by
  cases a <;> rfl

theorem helloRefusal_isBarred {slot : Slot} {a : Admission} (h : helloRefusal slot a = none) : a.isBarred = false := by
  cases a <;> first | rfl | nomatch h

/-- R124: an extension challenged on a slot that is its own or no other's. -/
theorem changes_challengeHello {slot : Slot} {x : Handle} (hr : s.record x = some r) (hbar : r.state.isBarred = false)
    (hslot : r.state.slot? = some slot ∨ ∀ y, s.boundSlot y = some slot → y = x) :
    Changes rx true s (s.challengeHello slot x r) := by
  unfold State.challengeHello
  split
  next hroom =>
    dsimp only
    have hnotice : Changes rx true s
        (if r.state.inChallenge then s.notify .superseded x (BitVec.ofNat 16 slot) else s) := by
      split
      · exact changes_notify _ _ _ _
      · exact .refl
    refine hnotice.trans ?_
    generalize hu : (if r.state.inChallenge then s.notify .superseded x (BitVec.ofNat 16 slot) else s) = u
    have hsame : u.ext = s.ext ∧ u.admQueue = s.admQueue ∧ u.params = s.params := by
      rw [← hu]
      split <;> exact ⟨rfl, rfl, rfl⟩
    have hroom' : u.admRoom = true := by rw [State.admRoom, hsame.2.1]; exact hroom
    have hrecord (y : Handle) : (u.sendChallenge slot).record y = s.record y := by
      show u.ext.records[y] = s.ext.records[y]
      rw [hsame.1]
    have hbound (y : Handle) : (u.sendChallenge slot).boundSlot y = s.boundSlot y :=
      congrArg (fun o : Option ExtRecord => o.bind (·.state.slot?)) (hrecord y)
    refine (changes_sendChallenge u slot hroom').trans (changes_setAdmission ((hrecord x).trans hr) (fun k hk => ?_) hbar
      (challengedState_isBarred _ _ _ _) nofun)
    rw [challengedState_slot] at hk
    cases hk
    exact hslot.imp_right fun h y hy => h y ((hbound y).symm.trans hy)
  next => exact changes_notify _ _ _ _

end Sys2Proof.Machine
end

section
/-! PROOFS. The admission cells, the timers and the line block start as runs of elementary changes. -/

namespace Sys2Proof.Machine

variable {rx ln : Bool} {s t : State} {n : LegNo} {l k : Leg} {h : Handle} {r q : ExtRecord} {slot : Slot}

/-! ### HELLO -/

theorem NoticeUnit.Keeps.trans {u v w : NoticeUnit} (h : u.Keeps v) (h' : v.Keeps w) : u.Keeps w :=
  ⟨fun hu => h'.room (h.room hu), fun hu => h'.attention (h.attention hu)⟩

theorem State.boundTo_eq_some {y : Handle} (h : s.boundTo slot = some y) : s.boundSlot y = some slot :=
  beq_iff_eq.1 (firstPlace_holds h)

theorem State.boundTo_eq_none : s.boundTo slot = none ↔ ∀ y, s.boundSlot y ≠ some slot := by
  simp only [State.boundTo, firstPlace_eq_none, beq_eq_false_iff_ne]

theorem State.admittedWith_any {y : Handle} :
    s.admittedWith y (fun _ => true) = (s.record y).any (·.state.isAdmitted) := by
  simp only [State.admittedWith, Bool.and_true]

theorem changes_idle {y : Handle} (hr : s.record y = some r) (hbar : r.state.isBarred = false) :
    Changes rx true s (s.setAdmission y .idle) :=
  changes_setAdmission hr (fun _ => nofun) hbar rfl nofun

/-- R123: a challenge that supersedes another extension's. The slot is that one's alone, and becomes X's. -/
theorem changes_supersede {x y : Handle} {ry : ExtRecord} {e : ExtTable} {u : NoticeUnit} {q : List Cell} {a : Admission}
    (hyx : y ≠ x) (hr : s.record x = some r) (hry : s.record y = some ry) (hslot : ry.state.slot? = some slot)
    (hbar : r.state.isBarred = false) (ha : a.slot? = some slot) (habar : a.isBarred = false)
    (he : e.records = (s.ext.records.set y (some { ry with state := .idle })).set x
      (((s.ext.records.set y (some { ry with state := .idle }))[x]).map fun r => { r with state := a }))
    (heb : s.ext.Bounded → e.Bounded) (hu : s.notices.Keeps u)
    (hq : s.admQueue.length ≤ Config.admQueueRoom → q.length ≤ Config.admQueueRoom) :
    Changes rx true s { s with ext := e, notices := u, admQueue := q } := by
  have hrecord (z : Handle) : State.record { s with ext := e } z =
      if x = z then some { r with state := a } else if y = z then some { ry with state := .idle } else s.record z := by
    show e.records[z] = _
    rw [he, getElem_set_fin, getElem_set_fin, getElem_set_fin, if_neg hyx, show s.ext.records[x] = some r from hr]
    rfl
  have hybar : ry.state.isBarred = false := by
    cases hst : ry.state <;> first | rfl | (rw [hst] at hslot; nomatch hslot)
  have hext : Changes rx true s { s with ext := e } := by
    refine .single (.ext e (fun hs => hs.of_records (fun z p hp => ?_) fun z k hk => ?_) (fun _ hs z p hp => ?_) heb nofun)
    · rw [hrecord] at hp
      split at hp
      next hxz => cases hp; subst hxz; exact .inl ⟨r, hr, rfl⟩
      next =>
        split at hp
        next hyz => cases hp; subst hyz; exact .inl ⟨ry, hry, rfl⟩
        next => exact .inl ⟨p, hp, rfl⟩
    · rw [State.boundSlot, hrecord] at hk
      split at hk
      next hxz =>
        subst hxz
        refine .inr fun w hw => ?_
        have hkslot : some slot = some k := ha.symm.trans hk
        cases hkslot
        rw [State.boundSlot, hrecord] at hw
        split at hw
        next hxw => exact hxw.symm
        next =>
          split at hw
          next => nomatch hw
          next hyw => exact absurd (hs.slots y w slot ((State.boundSlot_of_record hry).trans hslot) hw) hyw
      next =>
        split at hk
        next => nomatch hk
        next => exact .inl hk
    · rw [hrecord] at hp
      split at hp
      next => cases hp; exact ExtRecord.FailuresFit.unbarred hbar habar rfl (hs x r hr)
      next =>
        split at hp
        next => cases hp; exact ExtRecord.FailuresFit.unbarred hybar rfl rfl (hs y ry hry)
        next => exact hs z p hp
  exact (hext.tail (.notices u hu)).tail (.admQueue q hq)

theorem changes_claimSlot {x : Handle} (hr : s.record x = some r) (hbar : r.state.isBarred = false) :
    Changes rx true s (s.claimSlot slot x r) := by
  unfold State.claimSlot
  split
  next hnone => exact changes_challengeHello hr hbar (.inr fun y hy => absurd hy (State.boundTo_eq_none.1 hnone y))
  next y hy =>
    have hbound := State.boundTo_eq_some hy
    split
    next hyx =>
      subst hyx
      exact changes_challengeHello hr hbar (.inl ((State.boundSlot_of_record hr).symm.trans hbound))
    next hyx =>
      split
      · exact changes_refuseHello s slot _
      · obtain ⟨ry, hry, hslot⟩ := State.boundSlot_eq_some.1 hbound
        have hybar : ry.state.isBarred = false := by
          cases hst : ry.state <;> first | rfl | (rw [hst] at hslot; nomatch hslot)
        rw [State.setAdmission_of_record hry _]
        have hnotice := s.notices.keeps_push ⟨.superseded, byteOf y, BitVec.ofNat 16 slot, s.line.blockCount⟩
        unfold State.challengeHello
        split
        next hroom =>
          have hcell (c : Cell) : s.admQueue.length ≤ Config.admQueueRoom → (s.admQueue ++ [c]).length ≤ Config.admQueueRoom := by
            intro _
            rw [List.length_append, List.length_singleton]
            exact of_decide_eq_true hroom
          dsimp only
          split
          · exact changes_supersede hyx hr hry hslot hbar (challengedState_slot _ _ _ _) (challengedState_isBarred _ _ _ _)
              rfl id (hnotice.trans (NoticeUnit.keeps_push _ _)) (hcell _)
          · exact changes_supersede hyx hr hry hslot hbar (challengedState_slot _ _ _ _) (challengedState_isBarred _ _ _ _)
              rfl id hnotice (hcell _)
        next =>
          have hidle : Changes rx true s (s.setRecord y (some { ry with state := .idle })) :=
            changes_setRecord hry rfl (fun _ => nofun) (fun _ hf => hf.unbarred hybar rfl rfl) nofun
          exact (hidle.trans (changes_notify _ _ _ _)).trans (changes_notify _ _ _ _)

theorem changes_takeHello (number : ExtNumber) (s : State) (slot : Slot) : Changes rx true s (s.takeHello slot number) := by
  unfold State.takeHello
  split
  · exact changes_refuseHello s slot _
  · split
    · exact .refl
    next r hr =>
      split
      · exact changes_refuseHello s slot _
      next hnone => exact changes_claimSlot hr (helloRefusal_isBarred hnone)

/-! ### ANSWER and BYE -/

theorem Admission.isBarred_of_slot {a : Admission} (h : a.slot? = some slot) : a.isBarred = false := by
  cases a <;> first | rfl | nomatch h

theorem changes_grant {x : Handle} (hr : s.record x = some r) (hslot : r.state.slot? = some slot) :
    Changes rx true s (s.grant x r slot) := by
  unfold State.grant
  have hset : Changes rx true s
      (s.setRecord x (some { r with state := .admitted slot s.params.refreshTimer, failures := 0 })) :=
    changes_setRecord hr rfl (fun k hk => .inl (hslot.trans hk)) (fun hone _ => .of_lt rfl hone) nofun
  exact (hset.trans (changes_queueCell _ _)).trans (changes_notify _ _ _ _)

/-- R128, R129: a failure counted; at the limit the extension is barred. -/
theorem changes_failChallenge {x : Handle} {reason : RefuseReason} (hr : s.record x = some r)
    (hslot : r.state.slot? = some slot) : Changes rx true s (s.failChallenge x r slot reason) := by
  have hbar := Admission.isBarred_of_slot hslot
  unfold State.failChallenge
  dsimp only
  have hcount : Changes rx true s
      (if r.failures + 1 < s.params.failureLimit then
        ((s.setRecord x (some { r with state := .idle, failures := r.failures + 1 })).queueCell (.refuse slot reason)).notify
          .admitFailed x (reason.value.setWidth 16)
      else
        ((s.setRecord x (some { r with
          state := .barred (s.params.barTime * Config.blocksPerSecond), failures := r.failures + 1 })).queueCell
          (.refuse slot .barred)).notify .barred x (reason.value.setWidth 16)) := by
    split
    next hlt =>
      have hset : Changes rx true s (s.setRecord x (some { r with state := .idle, failures := r.failures + 1 })) :=
        changes_setRecord hr rfl (fun _ => nofun) (fun _ _ => .of_lt rfl hlt) nofun
      exact (hset.trans (changes_queueCell _ _)).trans (changes_notify _ _ _ _)
    next hge =>
      have hset : Changes rx true s (s.setRecord x (some { r with
          state := .barred (s.params.barTime * Config.blocksPerSecond), failures := r.failures + 1 })) :=
        changes_setRecord hr rfl (fun _ => nofun)
          (fun _ hf => Nat.le_antisymm (hf.lt hbar) (Nat.le_of_not_lt hge)) nofun
      exact (hset.trans (changes_queueCell _ _)).trans (changes_notify _ _ _ _)
  split
  · exact hcount.trans (changes_faultAction _ _ _ _ _)
  · exact hcount

theorem changes_takeAnswer (word : WheelWord) (s : State) (slot : Slot) : Changes rx true s (s.takeAnswer slot word) := by
  unfold State.takeAnswer
  split
  · exact changes_notify _ _ _ _
  next x hx =>
    split
    · exact .refl
    next r hr =>
      have hslot : r.state.slot? = some slot := (State.boundSlot_of_record hr).symm.trans (State.boundTo_eq_some hx)
      split
      · split
        · exact changes_grant hr hslot
        · exact changes_failChallenge hr hslot
      · split
        · exact changes_grant hr hslot
        · exact changes_failChallenge hr hslot
      · exact changes_notify _ _ _ _

theorem changes_takeBye (s : State) (slot : Slot) : Changes rx true s (s.takeBye slot) := by
  unfold State.takeBye
  split
  · exact .refl
  next x hx =>
    split
    · exact .refl
    next r hr =>
      have hslot : r.state.slot? = some slot := (State.boundSlot_of_record hr).symm.trans (State.boundTo_eq_some hx)
      have hidle := changes_idle (rx := rx) hr (Admission.isBarred_of_slot hslot)
      dsimp only
      split
      · exact hidle.trans (changes_faultAction _ _ _ _ _)
      · exact hidle

/-! ### Arrival and departure (R119, R120) -/

/-- R114: the slot map's counters counted. -/
theorem changes_takeAdmissionCell (s : State) (cell : Cell) : Changes rx true s (s.takeAdmissionCell cell) := by
  have hignored : Changes rx true s { s with ext := { s.ext with ignoredCells := bump s.ext.ignoredCells } } :=
    changes_table _ rfl fun h => ⟨bump_le _, h.2⟩
  unfold State.takeAdmissionCell
  dsimp only
  split
  · exact .refl
  · exact changes_table _ rfl fun h => ⟨h.1, bump_le _⟩
  · split
    · exact changes_takeHello _ s _
    · exact hignored
  · split
    · exact changes_takeAnswer _ s _
    · exact hignored
  · split
    · exact changes_takeBye s _
    · exact hignored

theorem changes_admissionDeparture (s : State) : Changes rx ln s s.admissionDeparture := by
  cases hdue : s.line.cellDue with
  | false =>
    rw [State.admissionDeparture_not_due hdue]
  | true =>
    rw [State.admissionDeparture_due hdue]
    have hline : Changes rx ln s { s with
        line := { s.line with cellDue := false, cellOut := s.admQueue.headD idleAdmissionCell } } :=
      changes_line _ rfl rfl fun _ => rfl
    refine hline.tail (.admQueue s.admQueue.tail fun h => ?_)
    rw [List.length_tail]
    exact (Nat.sub_le _ _).trans h

theorem changes_arrivalTaken (s : State) : Changes rx ln s { s with line := { s.line with arrival := none } } :=
  changes_line _ rfl rfl fun _ => rfl

theorem changes_admissionArrival (s : State) : Changes rx true s s.admissionArrival := by
  unfold State.admissionArrival
  split
  · exact .refl
  · exact ((changes_admissionDeparture s).trans (changes_arrivalTaken _)).trans (changes_takeAdmissionCell _ _)

/-! ### Timers (R105, R129, R131, R133) -/

theorem changes_answerExpiry (s : State) (h : Handle) : Changes rx true s (s.answerExpiry h) := by
  unfold State.answerExpiry
  split
  · exact .refl
  next r hr =>
    split
    next hst => exact changes_failChallenge hr (congrArg Admission.slot? hst)
    next hst => exact changes_failChallenge hr (congrArg Admission.slot? hst)
    · exact .refl

theorem changes_barExpiry (s : State) (h : Handle) : Changes rx ln s (s.barExpiry h) := by
  unfold State.barExpiry
  split
  · exact .refl
  next r hr =>
    split
    next hst =>
      have hset : Changes rx ln s (s.setRecord h (some { r with state := .idle, failures := 0 })) :=
        changes_setRecord hr rfl (fun _ => nofun) (fun hone _ => .of_lt rfl hone) fun _ => by
          rw [ExtRecord.lineView, ExtRecord.lineView, hst]
          rfl
      exact hset.trans (changes_notify _ _ _ _)
    · exact .refl

theorem changes_refreshExpiry (s : State) (h : Handle) : Changes rx ln s (s.refreshExpiry h) := by
  unfold State.refreshExpiry
  split
  · exact .refl
  next r hr =>
    split
    next slot hst =>
      have hkeep (u : State) (a : Admission) (hu : u.record h = some r) (ha : a.slot? = some slot)
          (hadm : a.isAdmitted = true) : Changes rx ln u (u.setAdmission h a) := by
        have hslot : r.state.slot? = some slot := congrArg Admission.slot? hst
        refine changes_setAdmission hu (fun k hk => .inl (hslot.trans (ha.symm.trans hk)))
          (Admission.isBarred_of_slot hslot) (Admission.isBarred_of_slot ha) fun _ => ⟨ha.trans hslot.symm, ?_⟩
        rw [hadm, hst]
        rfl
      split
      · split
        next hroom => exact (changes_sendChallenge s slot hroom).trans (hkeep _ _ hr rfl rfl)
        · exact hkeep s _ hr rfl rfl
      · exact hkeep s _ hr rfl rfl
    · exact .refl

theorem changes_nextRefreshExpiry (s : State) : Changes rx ln s s.nextRefreshExpiry := by
  unfold State.nextRefreshExpiry
  split
  · exact .refl
  · exact changes_refreshExpiry s _

end Sys2Proof.Machine
end

section
/-! PROOFS. The governor, the line block start and the host requests as runs of elementary changes. -/

namespace Sys2Proof.Machine

variable {rx ln : Bool} {s t : State} {n : LegNo} {l k : Leg} {h : Handle} {r q : ExtRecord}

/-! ### The governor (R157, R158) -/

theorem Conf.bounded_govern (clipped : Bool) (k : Conf) (hk : k.Bounded) : (k.govern clipped).1.Bounded := by
  have hcount : (if clipped then bump k.clippedBlocks else k.clippedBlocks) ≤ 65535 := by
    split
    · exact bump_le _
    · exact hk.clippedBlocks
  have hatt := hk.attenuation
  unfold Conf.govern
  dsimp only
  split
  · exact ⟨hk.members, by dsimp only; omega, by dsimp only; split <;> omega, hcount⟩
  · split
    · exact ⟨hk.members, by dsimp only; omega, by dsimp only; omega, hcount⟩
    · exact ⟨hk.members, by dsimp only; omega, hatt, hcount⟩

theorem Conf.lineView_govern (clipped : Bool) (k : Conf) : (k.govern clipped).1.lineView = k.lineView := by
  unfold Conf.govern
  dsimp only
  split
  · rfl
  · split <;> rfl

theorem changes_governConf (s : State) (c : ConfNo) : Changes rx ln s (s.governConf c) := by
  unfold State.governConf
  split
  · exact .refl
  next k hk =>
    split
    · exact .refl
    next clipped _ =>
      have hset : Changes rx ln s (s.setConf c (some (k.govern clipped).1)) := by
        refine changes_setConf (fun hb q hq => ?_) fun _ => ?_
        · cases hq
          exact Conf.bounded_govern clipped k (hb k hk)
        · rw [hk]
          exact congrArg some (Conf.lineView_govern clipped k)
      dsimp only
      split
      · exact hset
      · exact hset.trans (changes_notify _ _ _ _)
      · exact hset.trans (changes_notify _ _ _ _)

/-! ### The line block start (R2, R38, R105, R154, R165) -/

theorem Hold.mark_blockStart (h : Hold) : h.blockStart.mark = .absent ↔ h.mark = .absent := by
  unfold Hold.blockStart
  split <;> simp [Hold.mark]

theorem Hold.entries_blockStart (h : Hold) : h.blockStart.entries = h.entries := by
  unfold Hold.blockStart
  split <;> rfl

theorem Admission.countDown_same (a : Admission) : a.countDown.slot? = a.slot? ∧ a.countDown.isAdmitted = a.isAdmitted ∧
    a.countDown.isBarred = a.isBarred := by
  unfold Admission.countDown
  split <;> exact ⟨rfl, rfl, rfl⟩

/-- R105: every timer counts. -/
def ExtRecord.countDown (r : ExtRecord) : ExtRecord := { r with state := r.state.countDown }

theorem ExtTable.countDown_eq (t : ExtTable) : t.countDown = t.mapRecords ExtRecord.countDown := rfl

theorem changes_countDown (s : State) : Changes rx ln s { s with ext := s.ext.countDown } := by
  rw [ExtTable.countDown_eq]
  refine changes_mapRecords _ fun r => ?_
  obtain ⟨hslot, hadm, hbar⟩ := r.state.countDown_same
  exact ⟨rfl, rfl, hbar, by rw [ExtRecord.lineView, ExtRecord.lineView, ExtRecord.countDown]; rw [hslot, hadm]⟩

theorem changes_hold (u : Hold) (hm : u.mark = .absent ↔ s.hold.mark = .absent) (hb : s.hold.Bounded → u.Bounded) :
    Changes rx ln s { s with hold := u } := .single (.hold u hm hb)

theorem changes_holdStart (s : State) : Changes rx ln s { s with hold := s.hold.blockStart } := by
  refine changes_hold _ s.hold.mark_blockStart fun h => ⟨?_, ?_⟩ <;> rw [Hold.entries_blockStart]
  · exact h.room
  · exact h.gains

/-- R2: what a line block start does once the completion due before it is taken. -/
def State.started (s : State) : State :=
  { s with
    line := s.line.blockStart
    trunk := { s.trunk with cellDue := true }
    ext := s.ext.countDown
    legs := Vector.ofFn fun n => (s.legs[n]).map Leg.blockStart
    confs := Vector.ofFn fun c => (s.confs[c]).map Conf.blockStart
    hold := s.hold.blockStart }

theorem State.blockStart_eq (s : State) :
    s.blockStart = if s.line.framePos = 0 && !s.line.startTaken then s.completeBlock.started else s := rfl

theorem changes_started (s : State) : Changes rx ln s s.started := by
  have h1 : Changes rx ln s { s with line := s.line.blockStart } := changes_line _ rfl rfl fun _ => rfl
  have h2 : Changes rx ln _ { s with line := s.line.blockStart, trunk := { s.trunk with cellDue := true } } :=
    changes_trunk (s := { s with line := s.line.blockStart }) _ fun h => ⟨h.store, h.netSlips, h.changes⟩
  have h3 := h2.trans (changes_countDown (rx := rx) (ln := ln) _)
  have h4 := h3.trans (changes_mapLegs (rx := rx) (ln := ln) (fun _ => Leg.blockStart) fun _ _ => Leg.keeps_blockStart)
  have h5 := h4.trans (changes_mapConfs (rx := rx) (ln := ln) (fun _ => Conf.blockStart)
    (fun _ _ h => ⟨h.members, h.governor, h.attenuation, h.clippedBlocks⟩) fun _ _ => rfl)
  exact h1.trans (h5.trans (changes_holdStart _))

theorem changes_blockStart (s : State) : Changes true ln s s.blockStart := by
  rw [State.blockStart_eq]
  split
  · exact (changes_completeBlock s).trans (changes_started _)
  · exact .refl

end Sys2Proof.Machine
end

section
/-! PROOFS. What the handlers of the host requests answer: a run of elementary changes and a reply at once. -/

namespace Sys2Proof.Machine

variable {ln : Bool} {s t u : State} {n : LegNo} {l k : Leg} {h : Handle} {r : ExtRecord} {c : ConfNo}

/-- R170: a request answered at once, its effect a run of changes that leaves the receive side alone; `ln`: it may touch
the line side. -/
def Done (ln : Bool) (s : State) (out : State × Answer) : Prop := Changes false ln s out.1 ∧ ∃ st body, out.2 = .now st body

theorem Done.refuse (st : Status) (s : State) : Done ln s (refuse st s) := ⟨.refl, st, [], rfl⟩

theorem Done.okay {body : List Byte} (h : Changes false ln s t) : Done ln s (okay body t) := ⟨h, .ok, body, rfl⟩

/-! ### Chapters 4 and 6 -/

/-- R54: what a LEG_OPEN whose checks pass was met under. -/
theorem State.checkLegOpen_eq_ok {a : LegOpenArgs} (hok : s.checkLegOpen a = .ok h) : s.legs[a.leg] = none ∧
    s.slotOrTagInUse a.slot (a.farTag.getD (byteOf a.slot)) = false ∧ s.findNumber a.owner = some h ∧
    s.admittedWith h (·.mayScramble) = true := by
  unfold State.checkLegOpen at hok
  split at hok
  · nomatch hok
  next hfree =>
    split at hok
    · nomatch hok
    next huse =>
      split at hok
      · nomatch hok
      next x hx =>
        split at hok
        · nomatch hok
        · split at hok
          · nomatch hok
          next hmay =>
            cases hok
            exact ⟨Option.not_isSome_iff_eq_none.1 hfree, Bool.eq_false_of_not_eq_true huse, hx, by simpa using hmay⟩

theorem State.slotOrTagInUse_eq_false {slot : Slot} {tag : Byte} (h : s.slotOrTagInUse slot tag = false) (m : LegNo)
    (k : Leg) (hk : s.legs[m] = some k) : slot ≠ k.slot ∧ tag ≠ k.receiveTag := by
  have hm := firstPlace_eq_none.1 (Option.isNone_iff_eq_none.1 (Option.isSome_eq_false_iff.1 h)) m
  rw [hk, Option.any_some, Bool.or_eq_false_iff] at hm
  exact ⟨fun h => beq_eq_false_iff_ne.1 hm.1 h.symm, fun h => beq_eq_false_iff_ne.1 hm.2 h.symm⟩

/-- R52: a leg after its owner's other leg is parked. -/
theorem State.parkEndpoint_legs (o : Option LegNo) (m : LegNo) : (s.parkEndpoint o).legs[m] =
    (s.legs[m]).map fun k => if o = some m then { k with endpoint := .parked } else k := by
  cases o with
  | none => simp [State.parkEndpoint]
  | some n =>
    by_cases hnm : n = m
    · subst hnm
      simp only [State.parkEndpoint, State.updateLeg_same, if_true]
    · simp only [State.parkEndpoint, State.updateLeg_other _ _ _ _ hnm, Option.some.injEq, hnm, if_false, Option.map_id']

/-- R54, R55: a leg opened on a trunk slot and a receive tag that no other leg has. -/
theorem changes_openLeg {a : LegOpenArgs} (hfree : s.legs[a.leg] = none) (hgain : -6 ≤ a.gain ∧ a.gain ≤ 6)
    (huse : s.slotOrTagInUse a.slot (a.farTag.getD (byteOf a.slot)) = false) (o : Option LegNo) (e : Endpoint) :
    Changes false true s ((s.parkEndpoint o).setLeg a.leg (some (a.record h e))) := by
  refine (changes_parkEndpoint s o).tail (.openLeg a h e rfl ?_ hgain fun m k hk => ?_)
  · rw [State.parkEndpoint_legs, hfree]
    rfl
  · rw [State.parkEndpoint_legs] at hk
    obtain ⟨k', hk', rfl⟩ := Option.map_eq_some_iff.1 hk
    split
    · exact State.slotOrTagInUse_eq_false huse m k' hk'
    · exact State.slotOrTagInUse_eq_false huse m k' hk'

theorem done_openLeg {a : LegOpenArgs} (hgain : -6 ≤ a.gain ∧ a.gain ≤ 6) (s : State) : Done true s (openLeg a s) := by
  unfold openLeg
  split
  · exact .refuse _ s
  next h hok =>
    obtain ⟨hfree, huse, -, -⟩ := State.checkLegOpen_eq_ok hok
    split
    · exact .okay ((changes_openLeg hfree hgain huse _ _).trans (changes_setSource _ _ _))
    · exact .okay (changes_openLeg hfree hgain huse none _)

theorem done_closeLeg (n : LegNo) (s : State) : Done true s (closeLeg n s) := by
  unfold closeLeg
  split
  · exact .refuse _ s
  next l hl =>
    split
    next ho =>
      have hclear : Change false true s (s.clearLeg n .host (s.boundSlot l.owner)) := .clearLeg _ _ rfl hl ho
      exact .okay (.single hclear)
    · exact .okay .refl

/-- R58: an open leg's endpoint written after its owner's other leg is parked. -/
theorem changes_setEndpoint (hl : s.legs[n] = some l) (o : Option LegNo) (e : Endpoint) :
    Changes false true s ((s.parkEndpoint o).setLeg n (some { l with endpoint := e })) := by
  refine (changes_parkEndpoint s o).trans ?_
  have hn := State.parkEndpoint_legs (s := s) o n
  rw [hl, Option.map_some] at hn
  split at hn
  · exact changes_setLeg hn (Leg.keeps_endpoint (l := { l with endpoint := .parked }) e)
  · exact changes_setLeg hn (Leg.keeps_endpoint e)

theorem done_connectLeg (n : LegNo) (s : State) : Done true s (connectLeg n s) := by
  unfold connectLeg
  split
  · exact .refuse _ s
  next l hl =>
    split
    · exact .refuse _ s
    · split
      · exact .refuse _ s
      · split
        · exact .refuse _ s
        · exact .okay .refl
      · split
        · exact .refuse _ s
        · exact .okay ((changes_setEndpoint hl _ _).trans (changes_setSource _ _ _))

theorem done_parkLeg (n : LegNo) (s : State) : Done true s (parkLeg n s) := by
  unfold parkLeg
  split
  · exact .refuse _ s
  next l hl =>
    split
    · exact .refuse _ s
    · split
      · exact .refuse _ s
      · exact .okay .refl
      · exact .okay ((changes_release s _ _).trans
          (changes_setLeg (s := { s with line := s.line.release (s.boundSlot l.owner) (.leg n) }) hl (Leg.keeps_endpoint _)))

theorem done_levelLeg (n : LegNo) {g : Int} (s : State)
    (hg : (-6 ≤ g ∧ g ≤ 6) ∨ ∃ m, .level m g ∈ s.hold.entries) : Done ln s (levelLeg n g s) := by
  unfold levelLeg
  split
  · exact .refuse _ s
  next l hl =>
    split
    · have hlevel : Change false ln s (s.setLeg n (some { l with gain := g })) := .level g hl hg
      exact .okay (.single hlevel)
    · exact .refuse _ s

theorem done_rekeyLeg (a : LegNo × KeySetting) (s : State) : Done ln s (rekeyLeg a s) := by
  unfold rekeyLeg
  split
  · exact .refuse _ s
  next l hl =>
    split
    · exact .refuse _ s
    next hopen =>
      have ho : l.state.isOpen = true := by simpa using hopen
      split
      · exact .refuse _ s
      next hgen =>
        split
        · have hask : Change false ln s (s.askRoll a.1 { l with pendingKey := some a.2, switchEpoch := none }).1 :=
            .askRoll a.2 none hl ho hgen (.inl rfl)
          exact .okay (.single hask)
        · split
          · exact .refuse _ s
          next hpending =>
            have hask : Change false ln s (s.askRoll a.1 { l with pendingKey := some a.2, switchEpoch := l.switchEpoch }).1 :=
              .askRoll a.2 _ hl ho hgen (.inr ⟨rfl, Option.not_isSome_iff_eq_none.1 hpending⟩)
            exact .okay (.single hask)

theorem done_readLeg (a : LegNo × Bool) (s : State) : Done ln s (readLeg a s) := by
  unfold readLeg
  split
  · exact .okay .refl
  next l hl =>
    refine .okay ?_
    split
    · exact changes_setLeg hl Leg.keeps_clearCounters
    · exact .refl

theorem done_readTrunk (clear : Bool) (s : State) : Done ln s (readTrunk clear s) := by
  unfold readTrunk
  refine .okay ?_
  have htrunk : Changes false ln s { s with trunk := { s.trunk with
      changeFlag := false, changes := 0, netSlips := if clear then 0 else s.trunk.netSlips } } := by
    refine changes_trunk _ fun h => ⟨h.store, ?_, Nat.zero_le _⟩
    cases clear with
    | false => exact h.netSlips
    | true => exact (by decide : (-32767 : Int) ≤ 0 ∧ (0 : Int) ≤ 32767)
  refine htrunk.trans (.single (.framer _ (fun h => ?_) fun _ => ?_))
  · cases clear with
    | false => exact h
    | true => exact ⟨h.window, h.badRun, Nat.zero_le _, Nat.zero_le _, Nat.zero_le _⟩
  · cases clear with
    | false => exact ⟨_, _, _, _, rfl⟩
    | true => exact ⟨_, _, _, _, rfl⟩

/-! ### Chapter 7 -/

theorem State.findNumber_eq_none {number : ExtNumber} :
    s.findNumber number = none ↔ ∀ h r, s.record h = some r → r.number ≠ number := by
  rw [State.findNumber, firstPlace_eq_none]
  constructor
  · intro hnone h r hr
    have := hnone h
    rw [hr, Option.any_some] at this
    exact beq_eq_false_iff_ne.1 this
  · intro hall h
    cases hr : s.record h with
    | none => rfl
    | some r => exact beq_eq_false_iff_ne.2 (hall h r hr)

theorem State.findNumber_eq_some {number : ExtNumber} (hf : s.findNumber number = some h) :
    ∃ r, s.record h = some r ∧ r.number = number := by
  have := firstPlace_holds hf
  rw [Option.any_eq_true] at this
  obtain ⟨r, hr, hn⟩ := this
  exact ⟨r, hr, beq_iff_eq.1 hn⟩

/-- R107: a record made at a free handle, IDLE and with a number no other record has. -/
theorem changes_newRecord (hnum : ∀ k q, s.record k = some q → q.number ≠ r.number)
    (hidle : r.state = .idle) (hfail : r.failures = 0) : Changes false true s (s.setRecord h (some r)) := by
  refine .single (.ext _ (fun hs => hs.of_records (t := s.setRecord h (some r)) (fun k p hp => ?_) fun k slot hk => ?_)
    (fun hone hs k p hp => ?_) id nofun)
  · rw [State.record_setRecord] at hp
    split at hp
    next hk =>
      cases hp
      subst hk
      refine .inr fun y q hq hqp => ?_
      rw [State.record_setRecord] at hq
      split at hq
      next hy => exact hy.symm
      next => exact absurd hqp (hnum y q hq)
    next => exact .inl ⟨p, hp, rfl⟩
  · rw [State.boundSlot, State.record_setRecord] at hk
    split at hk
    · rw [Option.bind_some, hidle] at hk
      nomatch hk
    · exact .inl hk
  · have hp' : (s.setRecord h (some r)).record k = some p := hp
    rw [State.record_setRecord] at hp'
    split at hp'
    · cases hp'
      exact ExtRecord.FailuresFit.of_lt (by rw [hidle]; rfl) (hfail ▸ hone)
    · exact hs k p hp'

theorem done_loadExt (a : ExtLoadArgs) (s : State) : Done true s (loadExt a s) := by
  unfold loadExt
  split
  next hnone =>
    split
    · exact .refuse _ s
    · exact .okay (changes_newRecord (State.findNumber_eq_none.1 hnone) rfl rfl)
  next h hh =>
    obtain ⟨r, hr, -⟩ := State.findNumber_eq_some hh
    split
    · exact .refuse _ s
    · rw [State.updateRecord_of_record hr _]
      exact .okay (changes_setRecord hr rfl (fun _ => .inl) (fun _ => id) nofun)

/-- R108: a record removed. -/
theorem changes_freeRecord (s : State) (h : Handle) : Changes false true s (s.setRecord h none) := by
  refine .single (.ext _ (fun hs => hs.of_records (t := s.setRecord h none) (fun k p hp => ?_) fun k slot hk => ?_)
    (fun hone hs k p hp => ?_) id nofun)
  · rw [State.record_setRecord] at hp
    split at hp
    · nomatch hp
    · exact .inl ⟨p, hp, rfl⟩
  · rw [State.boundSlot, State.record_setRecord] at hk
    split at hk
    · nomatch hk
    · exact .inl hk
  · have hp' : (s.setRecord h none).record k = some p := hp
    rw [State.record_setRecord] at hp'
    split at hp'
    · nomatch hp'
    · exact hs k p hp'

theorem done_removeExt (h : Handle) (r : ExtRecord) (s : State) : Done true s (removeExt h r s) := by
  unfold removeExt
  split
  · exact .refuse _ s
  · exact .okay (changes_freeRecord s h)

theorem changes_unbound {a : Admission} (hr : s.record h = some r) (hbar : r.state.isBarred = false)
    (ha : a.slot? = none) (habar : a.isBarred = false) : Changes false true s (s.setAdmission h a) :=
  changes_setAdmission hr (fun _ hk => nomatch ha.symm.trans hk) hbar habar nofun

theorem done_suspendExt (hr : s.record h = some r) : Done true s (suspendExt h r s) := by
  unfold suspendExt
  refine .okay ?_
  have hsuspended (hbar : r.state.isBarred = false) : Changes false true s (s.setAdmission h .suspended) :=
    changes_unbound hr hbar rfl rfl
  split
  next hst => exact hsuspended (by rw [hst]; rfl)
  next hst => exact hsuspended (by rw [hst]; rfl)
  · exact .refl
  next hst => exact (hsuspended (by rw [hst]; rfl)).trans (changes_faultAction _ _ _ _ _)
  next hst => exact (hsuspended (by rw [hst]; rfl)).trans (changes_faultAction _ _ _ _ _)
  next hst =>
    rw [State.updateRecord_of_record hr _]
    exact changes_setRecord hr rfl (fun _ => nofun) (fun hone _ => .of_lt rfl (Nat.sub_lt hone Nat.one_pos)) nofun

theorem done_resumeExt (hr : s.record h = some r) : Done true s (resumeExt h r s) := by
  unfold resumeExt
  split
  next hst => exact .okay (changes_unbound hr (by rw [hst]; rfl) rfl rfl)
  · exact .refuse _ s

theorem done_unbarExt (hr : s.record h = some r) : Done true s (unbarExt h r s) := by
  unfold unbarExt
  split
  · rw [State.updateRecord_of_record hr _]
    exact .okay (changes_setRecord hr rfl (fun _ => nofun) (fun hone _ => .of_lt rfl hone) nofun)
  · exact .refuse _ s

theorem done_revokeExt (hr : s.record h = some r) : Done true s (revokeExt h r s) := by
  unfold revokeExt
  dsimp only
  have hidle (hbar : r.state.isBarred = false) : Changes false true s (s.setAdmission h .idle) :=
    changes_unbound hr hbar rfl rfl
  split
  next hst => exact .okay ((hidle (by rw [hst]; rfl)).trans (changes_faultAction _ _ _ _ _))
  next hst => exact .okay ((hidle (by rw [hst]; rfl)).trans (changes_faultAction _ _ _ _ _))
  next hst => exact .okay (hidle (by rw [hst]; rfl))
  all_goals exact .refuse _ s

theorem done_mapSlots (a : Bool × List (Slot × Bool)) (s : State) : Done ln s (mapSlots a s) := by
  unfold mapSlots
  refine .okay (changes_table _ ?_ ?_)
  · split <;> rfl
  · intro h
    split
    · exact ⟨Nat.zero_le _, Nat.zero_le _⟩
    · exact h

/-! ### Chapter 10 -/

theorem Conf.bounded_fresh (chair : Option Handle) : (Conf.fresh chair).Bounded :=
  ⟨Nat.zero_le _, (by decide : 1 ≤ 128 ∧ 128 ≤ 191), Nat.zero_le _, Nat.zero_le _⟩

theorem changes_freshConf (s : State) (c : ConfNo) (chair : Option Handle) :
    Changes false true s (s.setConf c (some (Conf.fresh chair))) :=
  changes_setConf (fun _ _ hk => Option.some.inj hk ▸ Conf.bounded_fresh chair) nofun

theorem done_openConf (a : ConfNo × Option ExtRef) (s : State) : Done true s (openConf a s) := by
  unfold openConf
  split
  · exact .refuse _ s
  · split
    · exact .okay (changes_freshConf s _ _)
    · split
      · exact .refuse _ s
      · split
        · exact .refuse _ s
        · split
          · exact .refuse _ s
          · exact .okay (changes_freshConf s _ _)

theorem done_hostCloseConf (c : ConfNo) (s : State) : Done true s (hostCloseConf c s) := by
  unfold hostCloseConf
  split
  · exact .okay (changes_closeConf s c .host)
  · exact .refuse _ s

theorem done_readConf (a : ConfNo × Bool) (s : State) : Done ln s (readConf a s) := by
  unfold readConf
  split
  · exact .okay .refl
  next k hk =>
    refine .okay ?_
    split
    · refine changes_setConf (fun hb q hq => ?_) fun _ => by rw [hk]; rfl
      cases hq
      have := hb k hk
      exact ⟨this.members, this.governor, this.attenuation, Nat.zero_le _⟩
    · exact .refl

theorem State.length_lt_of_place {k : Conf} (h : ¬ s.noPlace k = true) : k.members.length < Config.memberRoom := by
  rw [State.noPlace, Bool.or_eq_true, not_or, decide_eq_true_eq] at h
  exact Nat.lt_of_not_le h.1

/-- R149: a member appended where the conference has a place. -/
theorem changes_appendMember {k : Conf} (hk : s.confs[c] = some k) (m : Member) (hplace : ¬ s.noPlace k = true) :
    Changes false true s (s.setConf c (some (k.append m))) := by
  refine changes_setConf (fun hb q hq => ?_) nofun
  cases hq
  have hbounded := hb k hk
  refine ⟨?_, hbounded.governor, hbounded.attenuation, hbounded.clippedBlocks⟩
  rw [Conf.append, List.length_append, List.length_singleton]
  exact State.length_lt_of_place hplace

theorem done_joinLeg {k : Conf} (hk : s.confs[c] = some k) (n : LegNo) : Done true s (joinLeg c k n s) := by
  unfold joinLeg
  split
  · exact .refuse _ s
  next l hl =>
    split
    · exact .refuse _ s
    · split
      · exact .refuse _ s
      · split
        · exact .refuse _ s
        · split
          · exact .refuse _ s
          next hplace =>
            refine .okay ?_
            have hline : Changes false true s { s with line :=
                if l.endpoint = .line then s.line.release (s.boundSlot l.owner) (.leg n) else s.line } := by
              split
              · exact changes_release s _ _
              · exact .refl
            refine hline.trans ?_
            generalize (if l.endpoint = .line then s.line.release (s.boundSlot l.owner) (.leg n) else s.line) = p
            have happend := changes_appendMember (s := { s with line := p }) hk (.leg n) hplace
            exact happend.trans (changes_setLeg hl (Leg.keeps_endpoint _))

theorem done_joinLocal {k : Conf} (hk : s.confs[c] = some k) (h : Handle) : Done true s (joinLocal c k h s) := by
  unfold joinLocal
  split
  · exact .refuse _ s
  · split
    · exact .refuse _ s
    · split
      · exact .refuse _ s
      · split
        · exact .refuse _ s
        next hplace =>
          have hconfs := State.parkEndpoint_confs (s := s) (s.lineLegOf h)
          have hplace' : ¬ (s.parkEndpoint (s.lineLegOf h)).noPlace k = true := by
            unfold State.noPlace State.freePlaces State.membersOf at hplace ⊢
            rw [hconfs]
            exact hplace
          refine .okay (.trans ((changes_parkEndpoint s _).trans (changes_appendMember ?_ (.loc h) hplace'))
            (changes_setSource _ _ _))
          rw [hconfs, hk]

theorem done_joinConf (c : ConfNo) (m : MemberRef) (s : State) : Done true s (joinConf c m s) := by
  unfold joinConf
  split
  · exact .refuse _ s
  next k hk =>
    split
    · exact done_joinLeg hk _
    · split
      · exact .refuse _ s
      · exact done_joinLocal hk _

theorem done_leaveMember {k : Conf} (hk : s.confs[c] = some k) (m : Member) : Done true s (leaveMember c k m s) := by
  have hconf : Changes false true s (s.setConf c (some (k.remove m))) :=
    changes_setConf (fun hb q hq => Option.some.inj hq ▸ Conf.bounded_remove m k (hb k hk)) nofun
  unfold leaveMember
  split
  · dsimp only
    split
    · exact .okay (hconf.trans (changes_updateEndpoint _ _ _))
    · exact .okay (hconf.trans (changes_release _ _ _))
  · exact .refuse _ s

theorem done_leaveConf (c : ConfNo) (m : MemberRef) (s : State) : Done true s (leaveConf c m s) := by
  unfold leaveConf
  split
  · exact .refuse _ s
  next k hk =>
    split
    · exact done_leaveMember hk _
    · split
      · exact .refuse _ s
      · exact done_leaveMember hk _

end Sys2Proof.Machine
end

section
/-! PROOFS. Held changes, the parameters and the notices as runs of elementary changes; what a request's handler can
answer, and what a frame's taking can make of the part. -/

namespace Sys2Proof.Machine

variable {ln : Bool} {s t u : State} {n : LegNo} {l k : Leg} {h : Handle} {r : ExtRecord} {c : ConfNo}

/-! ### Held changes (chapter 11) -/

theorem done_beginHold (s : State) : Done ln s (beginHold () s) := by
  unfold beginHold
  split
  next hs => exact .okay (changes_hold _ (by rw [hs]; exact Iff.rfl) fun _ => ⟨Nat.zero_le _, fun _ _ => nofun⟩)
  · exact .refuse _ s

theorem done_cancelHold (s : State) : Done ln s (cancelHold () s) := by
  unfold cancelHold
  split
  · exact .refuse _ s
  next hs => exact .okay (changes_hold _ (by rw [hs]; exact Iff.rfl) fun _ => ⟨Nat.zero_le _, fun _ _ => nofun⟩)
  · exact .refuse _ s

/-- R163: a request that may be staged. -/
theorem done_stageOr {e : HeldChange} {named : State → Bool} {f : State → State × Answer}
    (hgain : ∀ n g, e = .level n g → -6 ≤ g ∧ g ≤ 6) (hf : Done ln s (f s)) : Done ln s (stageOr e named f s) := by
  cases hs : s.hold with
  | closed => rwa [stageOr_closed hs]
  | opened entries mark =>
    rw [stageOr_opened hs]
    split
    · exact .refuse _ s
    · split
      next hroom =>
        refine ⟨changes_hold _ (by rw [hs]; exact Iff.rfl) fun hb => ⟨?_, fun n g hg => ?_⟩, _, _, rfl⟩
        · rw [Hold.entries, List.length_append, List.length_singleton]
          exact hroom
        · rcases List.mem_append.1 hg with hold | hnew
          · exact hb.gains n g (by rw [hs]; exact hold)
          · exact hgain n g (List.mem_singleton.1 hnew).symm
      · exact .refuse _ s

/-- R163: what an entry of the held-change list applies is in range, or stands in the list. -/
def HeldChange.Staged (hold : Hold) (e : HeldChange) : Prop :=
  ∀ n g, e = .level n g → (-6 ≤ g ∧ g ≤ 6) ∨ ∃ m, .level m g ∈ hold.entries

theorem done_applyChange {e : HeldChange} (he : e.Staged s.hold) : Done true s (applyChange e s) := by
  cases e with
  | level n g => exact done_levelLeg n s (he n g rfl)
  | connect n => exact done_connectLeg n s
  | park n => exact done_parkLeg n s
  | join c m => exact done_joinConf c m s
  | leave c m => exact done_leaveConf c m s

theorem connectLeg_hold (n : LegNo) (s : State) : (connectLeg n s).1.hold = s.hold := by
  unfold connectLeg
  split
  · rfl
  · split
    · rfl
    · split
      · rfl
      · split <;> rfl
      · split
        · rfl
        · exact State.parkEndpoint_hold s _

theorem parkLeg_hold (n : LegNo) (s : State) : (parkLeg n s).1.hold = s.hold := by
  unfold parkLeg
  split
  · rfl
  · split
    · rfl
    · split <;> rfl

theorem levelLeg_hold (n : LegNo) (g : Int) (s : State) : (levelLeg n g s).1.hold = s.hold := by
  unfold levelLeg
  split
  · rfl
  · split <;> rfl

theorem joinLeg_hold (c : ConfNo) (k : Conf) (n : LegNo) (s : State) : (joinLeg c k n s).1.hold = s.hold := by
  unfold joinLeg
  split
  · rfl
  · split
    · rfl
    · split
      · rfl
      · split
        · rfl
        · split <;> rfl

theorem joinLocal_hold (c : ConfNo) (k : Conf) (h : Handle) (s : State) : (joinLocal c k h s).1.hold = s.hold := by
  unfold joinLocal
  split
  · rfl
  · split
    · rfl
    · split
      · rfl
      · split
        · rfl
        · exact State.parkEndpoint_hold s _

theorem leaveMember_hold (c : ConfNo) (k : Conf) (m : Member) (s : State) : (leaveMember c k m s).1.hold = s.hold := by
  unfold leaveMember
  split
  · dsimp only
    split <;> rfl
  · rfl

/-- R166: an entry's application leaves the hold alone. -/
theorem applyChange_hold (e : HeldChange) (s : State) : (applyChange e s).1.hold = s.hold := by
  cases e with
  | level n g => exact levelLeg_hold n g s
  | connect n => exact connectLeg_hold n s
  | park n => exact parkLeg_hold n s
  | join c m =>
    unfold applyChange joinConf
    dsimp only
    split
    · rfl
    · split
      · exact joinLeg_hold _ _ _ s
      · split
        · rfl
        · exact joinLocal_hold _ _ _ s
  | leave c m =>
    unfold applyChange leaveConf
    dsimp only
    split
    · rfl
    · split
      · exact leaveMember_hold _ _ _ s
      · split
        · rfl
        · exact leaveMember_hold _ _ _ s

theorem changes_applyEntries (i : Nat) (entries : List HeldChange) (s : State)
    (he : ∀ e ∈ entries, e.Staged s.hold) : Changes false true s (applyEntries i entries s).1 := by
  induction entries generalizing i s with
  | nil => exact .refl
  | cons e rest ih =>
    refine (done_applyChange (he e List.mem_cons_self)).1.trans (ih (i + 1) _ fun x hx => ?_)
    rw [applyChange_hold]
    exact he x (List.mem_cons_of_mem e hx)

theorem staged_of_mem {hold : Hold} {e : HeldChange} (he : e ∈ hold.entries) : e.Staged hold :=
  fun n _ h => .inr ⟨n, h ▸ he⟩

/-- R166: the application of a commit, by the entries it applies. -/
theorem State.applyCommit_cases (s : State) : s.applyCommit = s ∨ ∃ entries reply, s.hold = .opened entries .due ∧
    Changes false true s (applyEntries 1 entries s).1 ∧
    s.applyCommit = { (applyEntries 1 entries s).1 with
      hold := .closed, link := (applyEntries 1 entries s).1.link.resolve reply } := by
  unfold State.applyCommit
  split
  next entries hs =>
    refine .inr ⟨entries, _, hs, changes_applyEntries 1 entries s fun e he => staged_of_mem ?_, rfl⟩
    rw [hs]
    exact he
  · exact .inl rfl

/-! ### Parameters and notices (chapter 12) -/

theorem clampNat_range {low high : Nat} (hle : low ≤ high) (v : Nat) : low ≤ clampNat low high v ∧ clampNat low high v ≤ high := by
  unfold clampNat
  split
  · exact ⟨Nat.le_refl _, hle⟩
  · split
    · exact ⟨hle, Nat.le_refl _⟩
    · omega

theorem refreshRange_range (v : Nat) : refreshRange v = 0 ∨ (10 ≤ refreshRange v ∧ refreshRange v ≤ 3600) := by
  unfold refreshRange
  split
  · exact .inl rfl
  · right
    split
    · omega
    · split <;> omega

theorem State.allLegsFree_iff : s.allLegsFree = true ↔ ∀ n : LegNo, s.legs[n] = none := by
  rw [State.allLegsFree, List.isEmpty_iff, List.eq_nil_iff_forall_not_mem]
  simp only [mem_placesWhere, Option.not_isSome_iff_eq_none]

theorem Admission.refreshOff_same (a : Admission) : a.refreshOff.slot? = a.slot? ∧
    a.refreshOff.isAdmitted = a.isAdmitted ∧ a.refreshOff.isBarred = a.isBarred := by
  cases a <;> exact ⟨rfl, rfl, rfl⟩

theorem changes_params (p : Params) (hf : p.failureLimit = s.params.failureLimit)
    (he : p.epochLength = s.params.epochLength) (hb : s.params.Bounded → p.Bounded) :
    Changes false ln s { s with params := p } := .single (.params p hf he hb)

theorem Done.answerParam {id : ParamId} (h : Changes false ln s t) : Done ln s (answerParam id t) := .okay h

theorem done_setParam (a : ParamId × Nat) (s : State) : Done ln s (setParam a s) := by
  obtain ⟨id, v⟩ := a
  unfold setParam
  dsimp only
  cases id with
  | epochLength =>
    dsimp only
    obtain ⟨hlow, hhigh⟩ := clampNat_range (low := 64) (high := 4096) (by decide) v
    split
    · exact .answerParam .refl
    · split
      · exact .refuse _ s
      next hfree =>
        have hset : Change false ln s { s with params := { s.params with epochLength := clampNat 64 4096 v } } :=
          .epochLength _ hlow hhigh (State.allLegsFree_iff.1 (by simpa using hfree))
        exact .answerParam (.single hset)
  | timing =>
    dsimp only
    have hset (timing : TrunkTiming) : Changes false ln s (s.setTiming timing) := by
      have hparams : Changes false ln s { s with params := { s.params with timing := timing } } :=
        changes_params _ rfl rfl fun h => ⟨h.epochLength, h.answerTimeout, h.barTime, h.refreshInterval, h.failureLimit, h.stride⟩
      exact hparams.trans (changes_trunk _ fun h => ⟨Nat.zero_le _, h.netSlips, h.changes⟩)
    have hchange (timing : TrunkTiming) : Done ln s (if timing = s.params.timing then answerParam .timing s
        else if !s.allLegsFree then refuse .busy s else answerParam .timing (s.setTiming timing)) := by
      split
      · exact .answerParam .refl
      · split
        · exact .refuse _ s
        · exact .answerParam (hset timing)
    split
    · exact hchange .locked
    · split
      · exact hchange .independent
      · exact .refuse _ s
  | answerTimeout =>
    exact .answerParam (changes_params _ rfl rfl fun h => ⟨h.epochLength, clampNat_range (by decide) v, h.barTime,
      h.refreshInterval, h.failureLimit, h.stride⟩)
  | barTime =>
    exact .answerParam (changes_params _ rfl rfl fun h => ⟨h.epochLength, h.answerTimeout, clampNat_range (by decide) v,
      h.refreshInterval, h.failureLimit, h.stride⟩)
  | refreshInterval =>
    dsimp only
    have hparams : Changes false ln s { s with params := { s.params with refreshInterval := refreshRange v } } :=
      changes_params _ rfl rfl fun h => ⟨h.epochLength, h.answerTimeout, h.barTime, refreshRange_range v, h.failureLimit,
        h.stride⟩
    refine .answerParam (hparams.trans ?_)
    split
    · refine changes_mapRecords (s := { s with params := { s.params with refreshInterval := refreshRange v } })
        (fun r => { r with state := r.state.refreshOff }) fun r => ?_
      obtain ⟨hslot, hadm, hbar⟩ := r.state.refreshOff_same
      exact ⟨rfl, rfl, hbar, by rw [ExtRecord.lineView, ExtRecord.lineView, hslot, hadm]⟩
    · exact .refl
  | failureLimit =>
    dsimp only
    obtain ⟨hlow, hhigh⟩ := clampNat_range (low := 1) (high := 15) (by decide) v
    split
    · exact .answerParam .refl
    · have hset : Change false ln s { s with
          params := { s.params with failureLimit := clampNat 1 15 v }
          ext := s.ext.mapRecords (ExtRecord.reclamp (clampNat 1 15 v)) } := .failureLimit _ hlow hhigh
      exact .answerParam (.single hset)
  | seed =>
    have hparams : Changes false ln s { s with params := { s.params with seed := BitVec.ofNat 16 v } } :=
      changes_params _ rfl rfl fun h => ⟨h.epochLength, h.answerTimeout, h.barTime, h.refreshInterval, h.failureLimit, h.stride⟩
    exact .answerParam (hparams.trans (changes_table
      (s := { s with params := { s.params with seed := BitVec.ofNat 16 v } }) { s.ext with generator := _ } rfl id))
  | stride =>
    refine .answerParam (changes_params _ rfl rfl fun h => ⟨h.epochLength, h.answerTimeout, h.barTime, h.refreshInterval,
      h.failureLimit, ?_⟩)
    simp

theorem changes_notices (v : NoticeUnit) (hv : s.notices.Keeps v) : Changes false ln s { s with notices := v } :=
  .single (.notices v hv)

theorem done_fetchNotices (n : Nat) (s : State) : Done ln s (fetchNotices n s) := by
  refine .okay (changes_notices _ ⟨fun h => ?_, fun _ => rfl⟩)
  rw [NoticeUnit.fetch, List.length_drop]
  exact (Nat.sub_le _ _).trans h

theorem done_maskNotices (a : Option (BitVec 32)) (s : State) : Done ln s (maskNotices a s) :=
  .okay (changes_notices _ ⟨id, id⟩)

/-! ### What a request's handler can answer -/

/-- What the handler of a request makes of the part and answers: a run of changes and a reply at once, the commit mark
and a reply made later (R165), or RESTART (R177). -/
inductive Handled (s : State) : State × Answer → Prop
  | done {out : State × Answer} : Done true s out → Handled s out
  | commit {entries : List HeldChange} : s.hold = .opened entries .absent →
      Handled s ({ s with hold := .opened entries .pending }, .later)
  | restarted : Handled s (okay [] s.restart)

theorem Handled.withArgs {α : Type} {x : Option α} {f : α → State → State × Answer}
    (h : ∀ a, x = some a → Handled s (f a s)) : Handled s (withArgs x f s) := by
  cases x with
  | none => exact .done (.refuse _ s)
  | some a => exact h a rfl

theorem Handled.ofDone {α : Type} {x : Option α} {f : α → State → State × Answer} (h : ∀ a, x = some a → Done true s (f a s)) :
    Handled s (Machine.withArgs x f s) := .withArgs fun a ha => .done (h a ha)

theorem Handled.withRecord {x : Option ExtRef} {f : Handle → ExtRecord → State → State × Answer}
    (h : ∀ h r, s.record h = some r → Done true s (f h r s)) : Handled s (withRecord x f s) := by
  unfold Machine.withRecord
  split
  · exact .done (.refuse _ s)
  · split
    · exact .done (.refuse _ s)
    · split
      · exact .done (.refuse _ s)
      next r hr => exact .done (h _ r hr)

theorem handled_commitHold (s : State) : Handled s (commitHold () s) := by
  unfold commitHold
  split
  · exact .done (.refuse _ s)
  next hs => exact .commit hs
  · exact .done (.refuse _ s)

theorem parseLegOpen_gain {body : List Byte} {a : LegOpenArgs} (h : parseLegOpen body = some a) : -6 ≤ a.gain ∧ a.gain ≤ 6 := by
  unfold parseLegOpen at h
  split at h
  · nomatch h
  · simp only [Option.bind_eq_bind, Option.bind_eq_some_iff] at h
    obtain ⟨leg, -, owner, -, slot, -, hasTag, -, setting, -, connect, -, h⟩ := h
    split at h
    · nomatch h
    · cases h
      exact clampGain_range _

theorem parseLegLevel_gain {body : List Byte} {a : LegNo × Int} (h : parseLegLevel body = some a) : -6 ≤ a.2 ∧ a.2 ≤ 6 := by
  unfold parseLegLevel at h
  split at h
  · obtain ⟨n, -, rfl⟩ := Option.map_eq_some_iff.1 h
    exact clampGain_range _
  · nomatch h

/-- R170: what the taking of a frame can make of the part: nothing, where 16 replies wait; else what its handler makes
of it, with its reply. -/
theorem State.takeFrame_cases (code : Byte) (body : List Byte) (s : State) : s.takeFrame code body = s ∨
    ∃ out, s.link.waiting < Config.replyRoom ∧ Handled s out ∧
      s.takeFrame code body = { out.1 with link := out.1.link.push (out.2.reply code) } := by
  have htake (code : Byte) {hd : State → State × Answer} (h : Handled s (hd s)) : takeRequest code hd s = s ∨
      ∃ out, s.link.waiting < Config.replyRoom ∧ Handled s out ∧
        takeRequest code hd s = { out.1 with link := out.1.link.push (out.2.reply code) } := by
    unfold takeRequest
    split
    next hw => exact .inr ⟨hd s, hw, h, rfl⟩
    next => exact .inl rfl
  unfold State.takeFrame
  split
  · exact htake _ (.ofDone fun a ha => done_openLeg (parseLegOpen_gain ha) s)
  · exact htake _ (.ofDone fun a _ => done_closeLeg a s)
  · exact htake _ (.ofDone fun a _ => done_stageOr (fun _ _ => nofun) (done_connectLeg a s))
  · exact htake _ (.ofDone fun a _ => done_stageOr (fun _ _ => nofun) (done_parkLeg a s))
  · refine htake _ (.ofDone fun a ha => done_stageOr (fun n g hg => ?_) (done_levelLeg a.1 s (.inl (parseLegLevel_gain ha))))
    cases hg
    exact parseLegLevel_gain ha
  · exact htake _ (.ofDone fun a _ => done_rekeyLeg a s)
  · exact htake _ (.ofDone fun a _ => done_readLeg a s)
  · exact htake _ (.ofDone fun a _ => done_readTrunk a s)
  · exact htake _ (.ofDone fun a _ => done_loadExt a s)
  · exact htake _ (.withRecord fun h r _ => done_removeExt h r s)
  · exact htake _ (.withRecord fun _ _ _ => .okay .refl)
  · exact htake _ (.withRecord fun _ _ hr => done_suspendExt hr)
  · exact htake _ (.withRecord fun _ _ hr => done_resumeExt hr)
  · exact htake _ (.withRecord fun _ _ hr => done_unbarExt hr)
  · exact htake _ (.withRecord fun _ _ hr => done_revokeExt hr)
  · exact htake _ (.ofDone fun a _ => done_mapSlots a s)
  · exact htake _ (.ofDone fun a _ => done_openConf a s)
  · exact htake _ (.ofDone fun a _ => done_stageOr (fun _ _ => nofun) (done_joinConf a.1 a.2 s))
  · exact htake _ (.ofDone fun a _ => done_stageOr (fun _ _ => nofun) (done_leaveConf a.1 a.2 s))
  · exact htake _ (.ofDone fun a _ => done_hostCloseConf a s)
  · exact htake _ (.ofDone fun a _ => done_readConf a s)
  · exact htake _ (.ofDone fun _ _ => done_beginHold s)
  · exact htake _ (.withArgs fun _ _ => handled_commitHold s)
  · exact htake _ (.ofDone fun _ _ => done_cancelHold s)
  · exact htake _ (.ofDone fun a _ => done_setParam a s)
  · exact htake _ (.ofDone fun _ _ => .okay .refl)
  · exact htake _ (.ofDone fun a _ => done_fetchNotices a s)
  · exact htake _ (.ofDone fun a _ => done_maskNotices a s)
  · exact htake _ (.withArgs fun _ _ => .restarted)
  · exact htake _ (.done (.refuse _ s))

end Sys2Proof.Machine
end

section
/-! PROOFS. What every taking keeps, a step keeps; and which takings there are. -/

namespace Sys2Proof.Machine

/-- A law that every taking keeps. -/
structure Kept (P : State → Prop) : Prop where
  completion : ∀ {s : State}, P s → P s.completeBlock
  frame : ∀ {s : State} lineIn trunkIn, P s.settle → P (s.lineFrame lineIn trunkIn)
  arrival : ∀ {s : State} f, P s → P (s.trunkArrival f)
  start : ∀ {s : State}, P s → P s.blockStart
  scramble : ∀ {s : State} n, P s → P (s.scrambleLeg n)
  trunkDeparture : ∀ {s : State}, P s → P s.trunkDeparture
  admissionDeparture : ∀ {s : State}, P s → P s.admissionDeparture
  admissionArrival : ∀ {s : State}, P s → P s.admissionArrival
  answerExpiry : ∀ {s : State} h, P s → P (s.answerExpiry h)
  barExpiry : ∀ {s : State} h, P s → P (s.barExpiry h)
  refreshExpiry : ∀ {s : State} h, P s → P (s.refreshExpiry h)
  governor : ∀ {s : State} c, P s → P (s.governConf c)
  apply : ∀ {s : State}, P s → P s.applyCommit
  request : ∀ {s : State} code body, P s → P (s.takeFrame code body)
  answer : ∀ {s : State} (r : Reply), s.link.waiting < Config.replyRoom → P s → P { s with link := s.link.push (some r) }
  assembly : ∀ {s : State} a, P s → P (s.setAssembly a)
  replyDeparture : ∀ {s : State}, P s → P { s with link := s.link.depart }
  assert : ∀ {s t : State}, P s → exec .resetAssert s = .next t → P t
  release : ∀ {s t : State}, P s → exec .resetRelease s = .next t → P t

namespace Kept

variable {P : State → Prop} {s t : State}

theorem foldl {α : Type} {f : State → α → State} (hf : ∀ {s} a, P s → P (f s a)) (l : List α) (hs : P s) :
    P (l.foldl f s) := by
  induction l generalizing s with
  | nil => exact hs
  | cons a rest ih => exact ih (hf a hs)

/-- The work of a line block start, each part taken or left alone. -/
theorem blockStartWork (K : Kept P) (hs : P s) : P s.blockStartWork := by
  unfold State.blockStartWork
  refine K.apply (foldl (fun c => K.governor c) _ ?_)
  refine foldl (fun h => K.refreshExpiry h) _ (foldl (fun h => K.barExpiry h) _ (foldl (fun h => K.answerExpiry h) _ ?_))
  exact K.admissionArrival (K.admissionDeparture (K.trunkDeparture (foldl (fun n => K.scramble n) _ hs)))

theorem settle (K : Kept P) (hs : P s) : P s.settle := by
  have hcompleted := K.completion hs
  unfold State.settle
  dsimp only
  split
  · exact K.blockStartWork (K.start hcompleted)
  · exact hcompleted

theorem unknown (K : Kept P) (code : Byte) (hs : P s) : P (s.takeUnknown code) := by
  unfold State.takeUnknown takeRequest
  split
  next hw => exact K.answer _ hw hs
  next => exact hs

theorem badFrame (K : Kept P) (hs : P s) : P s.answerBadFrame := by
  unfold State.answerBadFrame
  split
  next hw => exact K.answer _ hw hs
  next => exact hs

theorem linkByte (K : Kept P) (b : Byte) (hs : P s) : P (s.linkByte b) := by
  unfold State.linkByte
  split
  · split
    · exact K.assembly _ hs
    · exact hs
  · split <;> exact K.assembly _ hs
  · dsimp only
    split
    · exact K.assembly _ hs
    · unfold State.endFrame
      dsimp only
      split
      · exact K.request _ _ (K.assembly _ hs)
      · exact K.badFrame (K.assembly _ hs)

theorem nextRefresh (K : Kept P) (hs : P s) : P s.nextRefreshExpiry := by
  unfold State.nextRefreshExpiry
  split
  · exact hs
  · exact K.refreshExpiry _ hs

/-- An effect taken while the reset line is released. -/
theorem inService {f : State → State} (hs : P s) (hf : P (f s)) (h : whenInService s f = .next t) : P t := by
  unfold whenInService at h
  split at h <;> cases h
  · exact hs
  · exact hf

/-- What every taking keeps, every command keeps. -/
theorem exec (K : Kept P) (c : Instr) (hs : P s) (h : Machine.exec c s = .next t) : P t := by
  cases hreq : requestOf c with
  | some request =>
    obtain ⟨code, body⟩ := request
    rw [exec_request hreq] at h
    exact inService hs (K.request code body hs) h
  | none =>
    cases c
    case lineFrame lineIn trunkIn => exact inService hs (K.frame lineIn trunkIn (K.settle hs)) h
    case lineBlockStart => exact inService hs (K.start hs) h
    case trunkFrameArrival f => exact inService hs (K.arrival f hs) h
    case trunkReceiveBlockCompletion => exact inService hs (K.completion hs) h
    case legBlockScramble n => exact inService (f := fun s => s.scrambleLeg n) hs (K.scramble n hs) h
    case trunkCellDeparture => exact inService hs (K.trunkDeparture hs) h
    case admissionCellArrival => exact inService hs (K.admissionArrival hs) h
    case admissionCellDeparture => exact inService hs (K.admissionDeparture hs) h
    case answerTimerExpiry x => exact inService (f := fun s => s.answerExpiry x) hs (K.answerExpiry x hs) h
    case barTimerExpiry x => exact inService (f := fun s => s.barExpiry x) hs (K.barExpiry x hs) h
    case refreshTimerExpiry => exact inService hs (K.nextRefresh hs) h
    case governorUpdate c => exact inService (f := fun s => s.governConf c) hs (K.governor c hs) h
    case holdCommitApply => exact inService hs (K.apply hs) h
    case unknownRequest code =>
      refine inService (f := fun s => if knownRequest code then s else s.takeUnknown code) hs ?_ h
      split
      · exact hs
      · exact K.unknown code hs
    case badFrame => exact inService (f := fun s => (s.setAssembly .searching).answerBadFrame) hs (K.badFrame (K.assembly _ hs)) h
    case frameLengthDiscard length =>
      refine inService hs ?_ h
      split
      · exact K.assembly _ hs
      · exact hs
    case frameGapTimeout => exact inService (f := fun s => s.setAssembly .searching) hs (K.assembly _ hs) h
    case frameDiscarded =>
      refine inService (f := fun s => if s.link.waiting < Config.replyRoom then s else s.setAssembly .searching) hs ?_ h
      split
      · exact hs
      · exact K.assembly _ hs
    case replyDeparture => exact inService (f := fun s => { s with link := s.link.depart }) hs (K.replyDeparture hs) h
    case resetAssert => exact K.assert hs h
    case resetRelease => exact K.release hs h
    case linkByteReceived b => exact inService hs (K.linkByte b hs) h
    all_goals nomatch hreq

/-- What every taking keeps, a step keeps. -/
theorem step (K : Kept P) (hp : ∀ {s : State} q, P s → P { s with pending := q }) (hs : P s) (h : Machine.step s = .next t) : P t := by
  unfold Machine.step at h
  split at h
  · cases h
    exact hs
  next c rest _ => exact K.exec c (hp rest hs) h

end Kept

/-! ### Laws that runs of changes keep -/

/-- A law of the part kept by every elementary change, with what the link, the commits, RESTART and the reset line
make of it. -/
structure KeptByChanges (P : State → Prop) : Prop where
  change : ∀ {s t : State}, Change true true s t → P s → P t
  answer : ∀ {s : State} (r : Reply), s.link.waiting < Config.replyRoom → P s → P { s with link := s.link.push (some r) }
  assembly : ∀ {s : State} a, P s → P (s.setAssembly a)
  replyDeparture : ∀ {s : State}, P s → P { s with link := s.link.depart }
  commit : ∀ {s : State} {entries : List HeldChange}, s.hold = .opened entries .absent → s.link.waiting < Config.replyRoom → P s →
    P { s with hold := .opened entries .pending, link := s.link.push none }
  applied : ∀ {s : State} {entries : List HeldChange} (r : Reply), s.hold = .opened entries .due → P s →
    ∀ u, Changes false true s u → P { u with hold := .closed, link := u.link.resolve r }
  restart : ∀ {s : State}, s.link.waiting < Config.replyRoom → P s →
    ∀ r : Reply, P { s.restart with link := s.restart.link.push (some r) }
  assert : ∀ {s t : State}, P s → exec .resetAssert s = .next t → P t
  release : ∀ {s t : State}, P s → exec .resetRelease s = .next t → P t

theorem KeptByChanges.changes {P : State → Prop} (K : KeptByChanges P) {rx ln : Bool} {s t : State}
    (h : Changes rx ln s t) (hs : P s) : P t := h.any.keeps K.change hs

theorem changes_settled (lineIn trunkIn : Frame) (s : State) : Changes true true s.settle (s.lineFrame lineIn trunkIn) :=
  ((changes_frameSlots lineIn _).trans (changes_deliver trunkIn _)).trans (changes_handInward _ _)

theorem KeptByChanges.request {P : State → Prop} (K : KeptByChanges P) {s : State} (code : Byte) (body : List Byte)
    (hs : P s) : P (s.takeFrame code body) := by
  rcases State.takeFrame_cases code body s with hfull | ⟨out, hw, handled, hout⟩
  · rw [hfull]
    exact hs
  · rw [hout]
    cases handled with
    | done hdone =>
      obtain ⟨hchanges, st, b, hanswer⟩ := hdone
      rw [hanswer]
      have hlink : out.1.link = s.link := hchanges.link
      exact K.answer _ (by rw [hlink]; exact hw) (K.changes hchanges hs)
    | commit hhold => exact K.commit (s := s) hhold hw hs
    | restarted => exact K.restart hw hs _

theorem KeptByChanges.kept {P : State → Prop} (K : KeptByChanges P) : Kept P where
  completion := K.changes (changes_completeBlock (ln := true) _)
  frame lineIn trunkIn := K.changes (changes_settled lineIn trunkIn _)
  arrival f := K.changes (changes_trunkArrival (ln := true) f _)
  start := K.changes (changes_blockStart (ln := true) _)
  scramble n := K.changes (changes_scrambleLeg (rx := true) (ln := true) _ n)
  trunkDeparture := K.changes (changes_trunkDeparture (rx := true) (ln := true) _)
  admissionDeparture := K.changes (changes_admissionDeparture (rx := true) (ln := true) _)
  admissionArrival := K.changes (changes_admissionArrival (rx := true) _)
  answerExpiry h := K.changes (changes_answerExpiry (rx := true) _ h)
  barExpiry h := K.changes (changes_barExpiry (rx := true) (ln := true) _ h)
  refreshExpiry h := K.changes (changes_refreshExpiry (rx := true) (ln := true) _ h)
  governor c := K.changes (changes_governConf (rx := true) (ln := true) _ c)
  apply {s} hs := by
    rcases s.applyCommit_cases with hidle | ⟨entries, reply, hhold, hchanges, happly⟩
    · rw [hidle]
      exact hs
    · rw [happly]
      exact K.applied reply hhold hs _ hchanges
  request := K.request
  answer := K.answer
  assembly := K.assembly
  replyDeparture := K.replyDeparture
  assert := K.assert
  release := K.release

/-- A law of the legs, the extension table, the parameters and the Trunk Cell Queue. -/
structure TableLaw (P : State → Prop) : Prop where
  change : ∀ {s t : State}, Change true true s t → P s → P t
  congr : ∀ {s t : State}, t.legs = s.legs → t.ext = s.ext → t.params = s.params → t.cellQueue = s.cellQueue → P s → P t
  restart : ∀ {s : State}, P s → P s.restart
  reset : P State.reset

theorem TableLaw.kept {P : State → Prop} (T : TableLaw P) : Kept P :=
  KeptByChanges.kept
    { change := T.change
      answer := fun _ _ => T.congr rfl rfl rfl rfl
      assembly := fun _ => T.congr rfl rfl rfl rfl
      replyDeparture := T.congr rfl rfl rfl rfl
      commit := fun _ _ => T.congr rfl rfl rfl rfl
      applied := fun _ _ hs u hu => T.congr (s := u) rfl rfl rfl rfl (hu.any.keeps T.change hs)
      restart := fun {s} _ hs _ => T.congr (s := s.restart) rfl rfl rfl rfl (T.restart hs)
      assert := fun {s t} hs h => by
        cases h
        exact T.congr (s := s) rfl rfl rfl rfl hs
      release := fun _ h => by
        cases h
        exact T.congr (s := State.reset) rfl rfl rfl rfl T.reset }

theorem TableLaw.step {P : State → Prop} (T : TableLaw P) {s t : State} (hs : P s) (h : Machine.step s = .next t) : P t :=
  T.kept.step (fun _ => T.congr rfl rfl rfl rfl) hs h

/-! ### Every command answers -/

theorem pendingKept (q : List Instr) : Kept fun s => s.pending = q :=
  KeptByChanges.kept
    { change := fun h hs => h.frame.2.2.1.trans hs
      answer := fun _ _ hs => hs
      assembly := fun _ hs => hs
      replyDeparture := fun hs => hs
      commit := fun _ _ hs => hs
      applied := fun _ _ hs _ hu => hu.pending.trans hs
      restart := fun _ hs _ => hs
      assert := fun hs h => by
        cases h
        exact hs
      release := fun hs h => by
        cases h
        exact hs }

/-- Settles O2: every command is an effect taken in service, or the reset line's own; the queue is kept by every taking. -/
theorem everyCommandAnswersAndKeepsTheQueue : Obligations.EveryCommandAnswersAndKeepsTheQueue := by
  unfold Obligations.EveryCommandAnswersAndKeepsTheQueue
  intro c s
  have hanswers : ∃ t, exec c s = .next t := by
    by_cases ha : c = .resetAssert
    · subst ha
      exact ⟨_, rfl⟩
    · by_cases hr : c = .resetRelease
      · subst hr
        exact ⟨_, rfl⟩
      · obtain ⟨f, hf⟩ := exec_eq_whenInService ha hr
        rw [hf, whenInService]
        split <;> exact ⟨_, rfl⟩
  obtain ⟨t, ht⟩ := hanswers
  exact ⟨t, ht, (pendingKept s.pending).exec c rfl ht⟩

end Sys2Proof.Machine
end

section
/-! PROOFS. What an elementary change makes of one leg, and the laws of the tables (R50, R105, R106, R113). -/

namespace Sys2Proof.Machine

variable {rx ln : Bool} {s t : State} {o : Option LegNo} {n m : LegNo} {l k : Leg}

/-! ### What a change makes of one leg -/

/-- What one elementary change, made in state s, makes of leg n; o is the leg it opens, if it opens one. -/
inductive Fate (rx ln : Bool) (s : State) (o : Option LegNo) (n : LegNo) : Option Leg → Option Leg → Prop
  | free : Fate rx ln s o n none none
  | kept {l k : Leg} : l.Keeps rx ln s.params.epochLength k → Fate rx ln s o n (some l) (some k)
  | level {l : Leg} {g : Int} : (-6 ≤ g ∧ g ≤ 6) ∨ (∃ m, .level m g ∈ s.hold.entries) →
      Fate rx ln s o n (some l) (some { l with gain := g })
  | opened {a : LegOpenArgs} {h : Handle} {e : Endpoint} : o = some n → ln = true → -6 ≤ a.gain ∧ a.gain ≤ 6 →
      (∀ (m : LegNo) k, s.legs[m] = some k → a.slot ≠ k.slot ∧ a.farTag.getD (byteOf a.slot) ≠ k.receiveTag) →
      Fate rx ln s o n none (some (a.record h e))
  | rekeyed {l : Leg} {p : KeySetting} {e : Option Half} {w : Bool} : l.state.isOpen = true → p.gen ≠ l.txKey.gen →
      e = none ∨ (e = l.switchEpoch ∧ l.pendingKey = none) →
      Fate rx ln s o n (some l) (some { l with pendingKey := some p, switchEpoch := e, wantsRoll := w })
  | cleared {l : Leg} {cause : CloseCause} {room : Bool} : ln = true → l.state.isOpen = true →
      Fate rx ln s o n (some l) (some (l.cleared cause room))
  | rolled {l : Leg} {e : Half} : { kind := .roll, leg := n } ∈ s.cellQueue →
      Fate rx ln s o n (some l) (some { l with switchEpoch := some e })
  | freed {l : Leg} : l.state.isOpen = false → Fate rx ln s o n (some l) none
  | served {l : Leg} {roll clear : Bool} : Fate rx ln s o n (some l) (some { l with wantsRoll := roll, wantsClear := clear })

theorem Fate.same (x : Option Leg) : Fate rx ln s o n x x := by
  cases x with
  | none => exact .free
  | some l => exact .kept (.refl _ _ _ l)

theorem Fate.ofRel {x y : Option Leg} (h : Option.Rel (Leg.Keeps rx ln s.params.epochLength) x y) : Fate rx ln s o n x y := by
  cases h with
  | none => exact .free
  | some h => exact .kept h

/-- One place of the legs written. -/
theorem Fate.set {x : Option Leg} (h : Fate rx ln s o n s.legs[n] x) (m : LegNo) :
    Fate rx ln s o m s.legs[m] (s.legs.set n x)[m] := by
  rw [getElem_set_fin]
  split
  next hnm => subst hnm; exact h
  next => exact .same _

theorem Leg.keeps_skippedSyncs {x : Nat} (hx : x ≤ 65535) {len : Nat} : l.Keeps rx ln len { l with skippedSyncs := x } :=
  .of_sameKeys rfl rfl rfl rfl rfl rfl rfl rfl rfl rfl rfl
    (fun h => ⟨h.output, h.gain, h.realigns, h.mutedBlocks, hx⟩) (fun _ => rfl) fun _ => rfl

/-- The legs after one elementary change. -/
theorem Change.fate (h : Change rx ln s t) : ∃ o, ∀ m : LegNo, Fate rx ln s o m s.legs[m] t.legs[m] := by
  cases h
  case legs v hv => exact ⟨none, fun m => .ofRel (hv m)⟩
  case level n l g hl hg => exact ⟨none, .set (n := n) (hl ▸ .level hg)⟩
  case openLeg n a x e hln hfree hgain hdistinct =>
    exact ⟨some n, .set (n := n) (hfree ▸ .opened rfl hln hgain hdistinct)⟩
  case askSync n l hl ho =>
    refine ⟨none, fun m => ?_⟩
    unfold State.askSync
    split
    · exact .same _
    · split
      · exact .same _
      · exact .set (n := n) (hl ▸ .kept (Leg.keeps_skippedSyncs (bump_le _))) m
  case askRoll n l p e hl ho hgen he =>
    refine ⟨none, fun m => ?_⟩
    have hrekeyed (w : Bool) : Fate rx ln s none n s.legs[n] (some { l with pendingKey := some p, switchEpoch := e, wantsRoll := w }) :=
      hl ▸ .rekeyed ho hgen he
    unfold State.askRoll
    split
    · exact .set (hrekeyed l.wantsRoll) m
    · split
      · exact .set (hrekeyed l.wantsRoll) m
      · split
        · exact .set (hrekeyed l.wantsRoll) m
        · exact .set (hrekeyed true) m
  case clearLeg n l cause slot hln hl ho =>
    refine ⟨none, fun m => ?_⟩
    rw [(State.clearLeg_some cause slot hl).1]
    exact .set (n := n) (hl ▸ .cleared hln ho) m
  case depart r rest hq =>
    refine ⟨none, fun m => ?_⟩
    have hmem : r ∈ s.cellQueue := hq ▸ List.mem_cons_self
    unfold State.sendRequest
    split
    · exact .same _
    next l hl =>
      have hl' : s.legs[r.leg] = some l := hl
      dsimp only
      split
      · exact .same _
      next hroll =>
        split
        · exact .same _
        · exact .set (n := r.leg) (hl' ▸ .rolled (by rw [← hroll]; exact hmem)) m
      next cause _ hst => exact .set (n := r.leg) (hl' ▸ .freed (by rw [hst]; rfl)) m
      · exact .same _
  case serve n =>
    refine ⟨none, fun m => ?_⟩
    unfold State.serveWants
    split
    · exact .same _
    next l hl =>
      split
      · split
        · exact .set (n := n) (hl ▸ .served (roll := l.wantsRoll) (clear := false)) m
        · split
          · exact .set (n := n) (hl ▸ .served (roll := false) (clear := l.wantsClear)) m
          · exact .same _
      · exact .same _
  all_goals exact ⟨none, fun _ => .same _⟩

/-! ### R50: trunk slots and receive tags -/

theorem Fate.place {x : Option Leg} (h : Fate rx ln s o n x (some k)) :
    (∃ l, x = some l ∧ k.slot = l.slot ∧ k.farTag = l.farTag) ∨
    (o = some n ∧ ∀ (m : LegNo) l, s.legs[m] = some l → k.slot ≠ l.slot ∧ k.receiveTag ≠ l.receiveTag) := by
  cases h
  case kept l hkeeps => exact .inl ⟨l, rfl, hkeeps.slot, hkeeps.farTag⟩
  case opened ho _ _ hdistinct => exact .inr ⟨ho, hdistinct⟩
  all_goals exact .inl ⟨_, rfl, rfl, rfl⟩

theorem Leg.receiveTag_congr (hslot : k.slot = l.slot) (hfar : k.farTag = l.farTag) : k.receiveTag = l.receiveTag := by
  rw [Leg.receiveTag, Leg.receiveTag, hslot, hfar]

/-- R50: no change opens a leg on another's slot or tag, and no other change moves a leg. -/
theorem Change.legsDistinct (h : Change rx ln s t) (hs : s.LegsDistinct) : t.LegsDistinct := by
  intro n m l k hl hk hnm
  obtain ⟨o, hfate⟩ := h.fate
  rcases (hl ▸ hfate n).place with ⟨l', hl', hslot, hfar⟩ | ⟨hn, hnew⟩
  · rcases (hk ▸ hfate m).place with ⟨k', hk', hslot', hfar'⟩ | ⟨-, hnew'⟩
    · rw [hslot, hslot', Leg.receiveTag_congr hslot hfar, Leg.receiveTag_congr hslot' hfar']
      exact hs n m l' k' hl' hk' hnm
    · rw [hslot, Leg.receiveTag_congr hslot hfar]
      exact (hnew' n l' hl').imp Ne.symm Ne.symm
  · rcases (hk ▸ hfate m).place with ⟨k', hk', hslot', hfar'⟩ | ⟨hm, -⟩
    · rw [hslot', Leg.receiveTag_congr hslot' hfar']
      exact hnew m k' hk'
    · exact absurd (Option.some.inj (hn.symm.trans hm)) hnm

theorem legsDistinct_law : TableLaw State.LegsDistinct where
  change := Change.legsDistinct
  congr hl _ _ _ hs := by
    intro n m l k hn hm
    exact hs n m l k (hl ▸ hn) (hl ▸ hm)
  restart _ n := by
    intro m l k hn
    simp [State.restart] at hn
  reset n := by
    intro m l k hn
    simp [State.reset] at hn

/-! ### R105, R106, R113: records -/

theorem Change.ext_eq (h : Change rx ln s t) : (t.ext = s.ext ∧ t.params.failureLimit = s.params.failureLimit) ∨
    (∃ e, t = { s with ext := e } ∧ (s.RecordsDistinct → t.RecordsDistinct) ∧
      (1 ≤ s.params.failureLimit → s.FailureLaw → t.FailureLaw)) ∨
    ∃ n, 1 ≤ n ∧ t = { s with params := { s.params with failureLimit := n }, ext := s.ext.mapRecords (ExtRecord.reclamp n) } := by
  cases h
  case ext e h1 h2 _ _ => exact .inr (.inl ⟨e, rfl, h1, h2⟩)
  case failureLimit n h1 h2 => exact .inr (.inr ⟨n, h1, rfl⟩)
  case params p h1 _ _ => exact .inl ⟨rfl, h1⟩
  case askSync => exact .inl ⟨by simp, by simp⟩
  case askRoll =>
    rw [State.askRoll_frame]
    exact .inl ⟨rfl, rfl⟩
  case clearLeg => exact .inl ⟨by simp, by simp⟩
  case depart =>
    rw [State.sendRequest_frame]
    exact .inl ⟨rfl, rfl⟩
  case serve => exact .inl ⟨by simp, by simp⟩
  all_goals exact .inl ⟨rfl, rfl⟩

theorem State.record_congr (he : t.ext = s.ext) (h : Handle) : t.record h = s.record h := by
  rw [State.record, State.record, he]

theorem State.RecordsDistinct.congr (he : t.ext = s.ext) (hs : s.RecordsDistinct) : t.RecordsDistinct :=
  hs.of_records (fun h q hq => .inl ⟨q, (State.record_congr he h).symm.trans hq, rfl⟩) fun h k hk => by
    rw [State.boundSlot, State.record_congr he] at hk
    exact .inl hk

theorem State.FailureLaw.congr (he : t.ext = s.ext) (hl : t.params.failureLimit = s.params.failureLimit)
    (hs : s.FailureLaw) : t.FailureLaw := by
  intro h r hr
  rw [hl]
  exact hs h r ((State.record_congr he h).symm.trans hr)

/-- A table with every record mapped, its records' numbers kept and none newly bound. -/
theorem State.RecordsDistinct.mapRecords {f : ExtRecord → ExtRecord} (he : t.ext.records = (s.ext.mapRecords f).records)
    (hf : ∀ r, (f r).number = r.number ∧ ∀ k, (f r).state.slot? = some k → r.state.slot? = some k)
    (hs : s.RecordsDistinct) : t.RecordsDistinct := by
  have hrecord (k : Handle) : t.record k = (s.record k).map f := by
    rw [State.record, he, ExtTable.mapRecords, getElem_ofFn_fin]
    rfl
  refine hs.of_records (fun k p hp => ?_) fun k slot hk => ?_
  · rw [hrecord] at hp
    obtain ⟨r, hr, rfl⟩ := Option.map_eq_some_iff.1 hp
    exact .inl ⟨r, hr, (hf r).1⟩
  · obtain ⟨p, hp, hslot⟩ := State.boundSlot_eq_some.1 hk
    rw [hrecord] at hp
    obtain ⟨r, hr, rfl⟩ := Option.map_eq_some_iff.1 hp
    exact .inl (State.boundSlot_eq_some.2 ⟨r, hr, (hf r).2 slot hslot⟩)

theorem ExtRecord.reclamp_state (n : Nat) (r : ExtRecord) : (r.reclamp n).state = r.state := by
  unfold ExtRecord.reclamp
  split
  · rfl
  · split <;> rfl

theorem ExtRecord.reclamp_number (n : Nat) (r : ExtRecord) : (r.reclamp n).number = r.number := by
  unfold ExtRecord.reclamp
  split
  · rfl
  · split <;> rfl

/-- R113: a record brought into line with a limit fits it. -/
theorem ExtRecord.reclamp_fits {n : Nat} (hn : 1 ≤ n) (r : ExtRecord) : (r.reclamp n).FailuresFit n := by
  unfold ExtRecord.reclamp
  split
  next hst => rw [ExtRecord.FailuresFit, hst]; rfl
  next hst =>
    have hbar : r.state.isBarred = false := by
      unfold Admission.isBarred
      split
      next => exact absurd ‹_› (hst _)
      next => rfl
    split
    · exact .of_lt hbar (Nat.sub_lt hn Nat.one_pos)
    next hlt => exact .of_lt hbar (Nat.lt_of_not_le hlt)

theorem Change.recordsDistinct (h : Change rx ln s t) (hs : s.RecordsDistinct) : t.RecordsDistinct := by
  rcases h.ext_eq with ⟨he, -⟩ | ⟨e, -, hkeeps, -⟩ | ⟨n, -, rfl⟩
  · exact hs.congr he
  · exact hkeeps hs
  · exact hs.mapRecords rfl fun r => ⟨r.reclamp_number n, fun k hk => by rwa [ExtRecord.reclamp_state] at hk⟩

theorem Change.failureLaw (h : Change rx ln s t) (hs : 1 ≤ s.params.failureLimit ∧ s.FailureLaw) :
    1 ≤ t.params.failureLimit ∧ t.FailureLaw := by
  rcases h.ext_eq with ⟨he, hl⟩ | ⟨e, rfl, -, hkeeps⟩ | ⟨n, hn, rfl⟩
  · exact ⟨hl ▸ hs.1, hs.2.congr he hl⟩
  · exact ⟨hs.1, hkeeps hs.1 hs.2⟩
  · refine ⟨hn, fun h r hr => ?_⟩
    rw [State.record, ExtTable.mapRecords, getElem_ofFn_fin] at hr
    obtain ⟨q, -, rfl⟩ := Option.map_eq_some_iff.1 hr
    exact ExtRecord.reclamp_fits hn q

theorem Admission.restarted_slot (a : Admission) : a.restarted.slot? = none := by
  cases a <;> rfl

theorem Admission.restarted_isBarred (a : Admission) : a.restarted.isBarred = a.isBarred := by
  cases a <;> rfl

theorem State.restart_records (s : State) :
    s.restart.ext.records = (s.ext.mapRecords fun r => { r with state := r.state.restarted }).records := rfl

theorem State.record_restart (s : State) (h : Handle) :
    s.restart.record h = (s.record h).map fun r => { r with state := r.state.restarted } := by
  rw [State.record, State.restart_records, ExtTable.mapRecords, getElem_ofFn_fin]
  rfl

theorem recordsDistinct_law : TableLaw State.RecordsDistinct where
  change := Change.recordsDistinct
  congr _ he _ _ hs := hs.congr he
  restart {s} hs := hs.mapRecords s.restart_records fun r => ⟨rfl, fun k hk => by rw [Admission.restarted_slot] at hk; nomatch hk⟩
  reset := LineLaws_reset.records

theorem failureLaw_law : TableLaw fun s => 1 ≤ s.params.failureLimit ∧ s.FailureLaw where
  change := Change.failureLaw
  congr _ he hp _ hs := ⟨by rw [hp]; exact hs.1, hs.2.congr he (by rw [hp])⟩
  restart {s} hs := by
    refine ⟨hs.1, fun h r hr => ?_⟩
    rw [State.record_restart] at hr
    obtain ⟨q, hq, rfl⟩ := Option.map_eq_some_iff.1 hr
    have hfit := hs.2 h q hq
    rw [← Admission.restarted_isBarred] at hfit
    exact hfit
  reset := ⟨by decide, fun h r hr => by rw [record_reset] at hr; nomatch hr⟩

/-- Settles O57: by the change, each law by what an elementary change makes of the legs and of the table. -/
theorem stepsKeepTheTables : Obligations.StepsKeepTheTables := by
  unfold Obligations.StepsKeepTheTables
  exact ⟨fun _ _ hs h => legsDistinct_law.step hs h, fun _ _ hs h => recordsDistinct_law.step hs h,
    fun _ _ hp hs h => (failureLaw_law.step ⟨hp.failureLimit.1, hs⟩ h).2⟩

end Sys2Proof.Machine
end

section
/-! PROOFS. Every queue, list and counter within its range, and the replies in order (R4, R10, R13, R42, R76, R80, R92,
R114, R120, R145, R162, R171, R172, R174). -/

namespace Sys2Proof.Machine

variable {rx ln : Bool} {s t : State} {o : Option LegNo} {n m : LegNo} {l k : Leg}

/-! ### Ranges, change by change -/

theorem Fate.bounded {x : Option Leg} (h : Fate rx ln s o n x (some k))
    (hgains : ∀ m g, .level m g ∈ s.hold.entries → -6 ≤ g ∧ g ≤ 6)
    (hx : ∀ l, x = some l → l.Bounded) : k.Bounded := by
  cases h
  case kept l hkeeps => exact hkeeps.bounded (hx l rfl)
  case level l g hg =>
    have hl := hx l rfl
    exact ⟨hl.output, hg.elim id fun ⟨m, hm⟩ => hgains m g hm, hl.realigns, hl.mutedBlocks, hl.skippedSyncs⟩
  case opened hgain _ => exact ⟨Nat.zero_le _, hgain, Nat.zero_le _, Nat.zero_le _, Nat.zero_le _⟩
  case rekeyed l _ _ _ _ _ _ =>
    obtain ⟨houtput, hgain, hrealigns, hmuted, hskipped⟩ := hx l rfl
    exact ⟨houtput, hgain, hrealigns, hmuted, hskipped⟩
  case cleared l _ _ _ _ =>
    obtain ⟨houtput, hgain, hrealigns, hmuted, hskipped⟩ := hx l rfl
    exact ⟨houtput, hgain, hrealigns, hmuted, hskipped⟩
  case rolled l _ _ => exact ⟨(hx l rfl).output, (hx l rfl).gain, (hx l rfl).realigns, (hx l rfl).mutedBlocks, (hx l rfl).skippedSyncs⟩
  case served l _ _ => exact ⟨(hx l rfl).output, (hx l rfl).gain, (hx l rfl).realigns, (hx l rfl).mutedBlocks, (hx l rfl).skippedSyncs⟩

/-- The legs' part of the ranges, for every change. -/
theorem Change.legsBounded (h : Change rx ln s t) (hs : s.Bounded) (n : LegNo) (k : Leg) (hk : t.legs[n] = some k) :
    k.Bounded := by
  obtain ⟨o, hfate⟩ := h.fate
  exact (hk ▸ hfate n).bounded hs.heldGains fun l hl => hs.legs n l hl

/-- A request joins a queue that has room for it. -/
theorem length_append_le {α : Type} {q : List α} {x : α} {room : Nat} (h : q.length < room) : (q ++ [x]).length ≤ room := by
  rw [List.length_append, List.length_singleton]
  exact h

theorem State.clearLeg_frame (s : State) (n : LegNo) (cause : CloseCause) (slot : Option Slot) :
    s.clearLeg n cause slot = { s with
      line := (s.clearLeg n cause slot).line, confs := (s.clearLeg n cause slot).confs
      cellQueue := (s.clearLeg n cause slot).cellQueue, legs := (s.clearLeg n cause slot).legs } := by
  unfold State.clearLeg
  split <;> rfl

theorem State.serveWants_frame (s : State) (n : LegNo) :
    s.serveWants n = { s with cellQueue := (s.serveWants n).cellQueue, legs := (s.serveWants n).legs } := by
  unfold State.serveWants
  split
  · rfl
  · split
    · split
      · rfl
      · split <;> rfl
    · rfl

theorem State.sendRequest_notices (s : State) (r : CellRequest) : s.notices.Keeps (s.sendRequest r).1.notices := by
  have hsame : s.notices.Keeps s.notices := ⟨id, id⟩
  unfold State.sendRequest
  split
  · exact hsame
  · dsimp only
    split
    · exact hsame
    · split <;> exact hsame
    · exact NoticeUnit.keeps_push _ _
    · exact hsame

/-- R13, R80 to R92, R114, R120, R162, R172 to R174: a change of everything but the legs and their queue. -/
theorem Change.bounded (h : Change rx ln s t) (hs : s.Bounded) : t.Bounded := by
  have hlegs := h.legsBounded hs
  cases h
  case notices u hu =>
    exact { hs with notices := hu.room hs.notices, attention := fun hr => hu.attention (hs.attention hr) }
  case line p hp _ _ => exact { hs with cellIn := hp hs.cellIn }
  case trunk p hp =>
    have hbounded := hp ⟨hs.store, hs.netSlips, hs.changes⟩
    exact { hs with store := hbounded.store, netSlips := hbounded.netSlips, changes := hbounded.changes }
  case framer f hf _ =>
    have hbounded := hf ⟨hs.window, hs.badRun, hs.framerCounters⟩
    exact { hs with window := hbounded.window, badRun := hbounded.badRun, framerCounters := hbounded.counters }
  case admQueue q hq => exact { hs with admQueue := hq hs.admQueue }
  case ext e _ _ he _ => exact { hs with extCounters := he hs.extCounters }
  case failureLimit x hlow hhigh =>
    have hparams := hs.params
    have hext : (s.ext.mapRecords (ExtRecord.reclamp x)).Bounded := .mapRecords (e := s.ext) _ hs.extCounters
    generalize s.ext.mapRecords (ExtRecord.reclamp x) = e at hext hlegs
    exact { hs with
      extCounters := hext
      params := { hparams with failureLimit := ⟨hlow, hhigh⟩ } }
  case params p _ _ hp => exact { hs with params := hp hs.params }
  case epochLength x hlow hhigh _ =>
    have hparams := hs.params
    exact { hs with params := { hparams with epochLength := ⟨hlow, hhigh⟩ } }
  case confs v hv _ => exact { hs with confs := fun c => hv c (hs.confs c) }
  case hold u _ hu =>
    have hbounded := hu ⟨hs.held, hs.heldGains⟩
    exact { hs with held := hbounded.room, heldGains := hbounded.gains }
  case legs => exact { hs with legs := hlegs }
  case level => exact { hs with legs := hlegs }
  case openLeg => exact { hs with legs := hlegs }
  case askSync n l _ _ =>
    unfold State.askSync at hlegs ⊢
    split
    · exact hs
    next hqueued =>
      rw [if_neg hqueued] at hlegs
      split
      next hroom => exact { hs with cellQueue := length_append_le hroom }
      next hroom =>
        rw [if_neg hroom] at hlegs
        obtain ⟨hbad, hunknown, -⟩ := hs.framerCounters
        exact { hs with framerCounters := ⟨hbad, hunknown, bump_le _⟩, legs := hlegs }
  case askRoll n l p e _ _ _ _ =>
    have hqueue : (s.askRoll n { l with pendingKey := some p, switchEpoch := e }).1.cellQueue.length ≤ Config.cellQueueRoom := by
      unfold State.askRoll
      split
      · exact hs.cellQueue
      · split
        · exact hs.cellQueue
        · split
          next hroom => exact length_append_le hroom
          next => exact hs.cellQueue
    rw [State.askRoll_frame] at hlegs ⊢
    exact { hs with cellQueue := hqueue, legs := hlegs }
  case clearLeg n l cause slot _ hl _ =>
    have hq : (withoutSyncRoll n s.cellQueue).length ≤ Config.cellQueueRoom :=
      (List.length_filter_le _ _).trans hs.cellQueue
    have hqueue : (s.clearLeg n cause slot).cellQueue.length ≤ Config.cellQueueRoom := by
      rw [(State.clearLeg_some cause slot hl).2.1]
      split
      next hroom => exact length_append_le (of_decide_eq_true hroom)
      next => exact hq
    have hcell : (s.clearLeg n cause slot).line.cellIn.length = (s.clearLeg n cause slot).line.framePos := by
      rw [(State.clearLeg_some cause slot hl).2.2.1]
      split
      · rw [LinePort.release_frame]
        exact hs.cellIn
      · exact hs.cellIn
    have hconfs (c : ConfNo) (k : Conf) (hk : (s.clearLeg n cause slot).confs[c] = some k) : k.Bounded := by
      rw [(State.clearLeg_some cause slot hl).2.2.2] at hk
      split at hk
      next d _ =>
        rw [getElem_set_fin] at hk
        split at hk
        · obtain ⟨q, hq, rfl⟩ := Option.map_eq_some_iff.1 hk
          exact Conf.bounded_remove _ q (hs.confs d q hq)
        · exact hs.confs c k hk
      next => exact hs.confs c k hk
    rw [State.clearLeg_frame] at hlegs ⊢
    exact { hs with cellQueue := hqueue, legs := hlegs, cellIn := hcell, confs := hconfs }
  case depart r rest hq =>
    have hrest : rest.length ≤ Config.cellQueueRoom := by
      have := hs.cellQueue
      rw [hq, List.length_cons] at this
      exact Nat.le_of_succ_le this
    have hnotices := State.sendRequest_notices { s with cellQueue := rest } r
    rw [State.sendRequest_frame] at hlegs ⊢
    exact { hs with
      cellQueue := hrest, legs := hlegs
      notices := hnotices.room hs.notices, attention := fun hr => hnotices.attention (hs.attention hr) }
  case serve n =>
    have hqueue : (s.serveWants n).cellQueue.length ≤ Config.cellQueueRoom := by
      unfold State.serveWants
      split
      · exact hs.cellQueue
      · split
        next hroom =>
          split
          · exact length_append_le hroom
          · split
            · exact length_append_le hroom
            · exact hs.cellQueue
        next => exact hs.cellQueue
    rw [State.serveWants_frame] at hlegs ⊢
    exact { hs with cellQueue := hqueue, legs := hlegs }

/-! ### The reply list (R171) -/

/-- R171: how many places the replies and an outstanding commit reply take. -/
theorem Link.length_replies (l : Link) : l.replies.length = l.waiting + l.outstanding := by
  unfold Link.waiting Link.outstanding
  induction l.replies with
  | nil => rfl
  | cons a rest ih =>
    cases a with
    | none => rw [List.filter_cons_of_neg (by decide), List.filter_cons_of_pos rfl, List.length_cons, List.length_cons, ih]; omega
    | some r => rw [List.filter_cons_of_pos rfl, List.filter_cons_of_neg (by simp), List.length_cons, List.length_cons, ih]; omega

/-- R171: the reply list within its room, its outstanding places counted, and nothing kept back that could leave. -/
structure Link.InOrder (outstanding : Nat) (asserted : Bool) (l : Link) : Prop where
  room : l.replies.length ≤ Config.replyRoom + 1
  outstanding : l.outstanding = outstanding
  leaving : l.leaving = none → asserted = false → ∀ r rest, l.replies = r :: rest → r = none

/-- Section 11.2: the places a commit takes in the reply list. -/
def CommitMark.places (m : CommitMark) : Nat := if m = .absent then 0 else 1

theorem State.repliesInOrder_iff : s.RepliesInOrder ↔ s.link.InOrder s.hold.mark.places s.resetAsserted :=
  ⟨fun h => ⟨h.room, h.outstanding, h.leaving⟩, fun h => ⟨h.room, h.outstanding, h.leaving⟩⟩

/-- R171: sending what can leave. -/
theorem Link.send_inOrder {places : Nat} {asserted : Bool} {l : Link} (hroom : l.replies.length ≤ Config.replyRoom + 1)
    (hout : l.outstanding = places) : l.send.InOrder places asserted := by
  rcases l.send_cases with ⟨r, rest, -, hreplies, hsend⟩ | ⟨hsend, hheld⟩
  · rw [hsend]
    rw [hreplies, List.length_cons] at hroom
    refine ⟨Nat.le_of_succ_le hroom, ?_, fun h => nomatch h⟩
    rw [← hout, Link.outstanding, Link.outstanding, hreplies]
    rfl
  · rw [hsend]
    refine ⟨hroom, hout, fun hnone _ r rest hreplies => ?_⟩
    cases r with
    | none => rfl
    | some r => exact absurd hreplies (hheld r rest hnone)

/-- R171: a reply, or a commit's place, joins the list. -/
theorem Link.push_inOrder {places : Nat} {asserted : Bool} {l : Link} {r : Option Reply}
    (hroom : l.replies.length ≤ Config.replyRoom) (hout : l.outstanding + (if r.isNone then 1 else 0) = places) :
    (l.push r).InOrder places asserted := by
  refine Link.send_inOrder ?_ ?_
  · rw [List.length_append, List.length_singleton]
    exact Nat.succ_le_succ hroom
  · rw [← hout]
    cases r <;> simp [Link.outstanding]

theorem length_fillFirst (r : Reply) (l : List (Option Reply)) : (fillFirst r l).length = l.length := by
  induction l with
  | nil => rfl
  | cons a rest ih =>
    cases a with
    | none => rfl
    | some x => exact congrArg Nat.succ ih

theorem outstanding_fillFirst (r : Reply) (l : List (Option Reply)) :
    ((fillFirst r l).filter (·.isNone)).length = (l.filter (·.isNone)).length - 1 := by
  induction l with
  | nil => rfl
  | cons a rest ih =>
    cases a with
    | none => rfl
    | some x => exact ih

/-- R165: the outstanding commit reply made in its place. -/
theorem Link.resolve_inOrder {asserted : Bool} {l : Link} (r : Reply) (hroom : l.replies.length ≤ Config.replyRoom + 1)
    (hout : l.outstanding ≤ 1) : (l.resolve r).InOrder 0 asserted := by
  refine Link.send_inOrder ?_ ?_
  · rw [length_fillFirst]
    exact hroom
  · rw [Link.outstanding, outstanding_fillFirst]
    exact Nat.sub_eq_zero_of_le hout

theorem Link.length_send_le (l : Link) : l.send.replies.length ≤ l.replies.length := by
  rcases l.send_cases with ⟨r, rest, -, hreplies, hsend⟩ | ⟨hsend, -⟩
  · rw [hsend, hreplies]
    exact Nat.le_succ _
  · rw [hsend]

theorem Link.length_resolve_le (l : Link) (r : Reply) : (l.resolve r).replies.length ≤ l.replies.length :=
  (Link.length_send_le _).trans (Nat.le_of_eq (length_fillFirst r _))

theorem CommitMark.places_le (m : CommitMark) : m.places ≤ 1 := by
  unfold CommitMark.places
  split <;> decide

theorem CommitMark.places_congr {m m' : CommitMark} (h : m' = .absent ↔ m = .absent) : m'.places = m.places := by
  simp only [CommitMark.places, h]

/-- R171: while fewer than 16 replies wait the list has a place for one more. -/
theorem Link.length_le_of_waiting {places : Nat} {asserted : Bool} {l : Link} (h : l.InOrder places asserted)
    (hw : l.waiting < Config.replyRoom) (hplaces : places ≤ 1) : l.replies.length ≤ Config.replyRoom := by
  have hlength := l.length_replies
  have hout := h.outstanding
  omega

/-- R168: a commit that is ended has its reply made, so nothing is outstanding. -/
theorem Link.endCommit_inOrder {asserted : Bool} {hold : Hold} {l : Link} (h : l.InOrder hold.mark.places asserted)
    (hlength : l.replies.length ≤ Config.replyRoom) :
    (l.endCommit hold).replies.length ≤ Config.replyRoom ∧ (l.endCommit hold).outstanding = 0 := by
  have hresolve (r : Reply) : (l.resolve r).replies.length ≤ Config.replyRoom ∧ (l.resolve r).outstanding = 0 :=
    ⟨(l.length_resolve_le r).trans hlength,
      (Link.resolve_inOrder (asserted := asserted) r h.room (h.outstanding ▸ hold.mark.places_le)).outstanding⟩
  unfold Link.endCommit
  split
  · exact ⟨hlength, h.outstanding⟩
  · exact ⟨hlength, h.outstanding⟩
  · exact hresolve _

/-! ### The ranges after RESTART -/

theorem ExtTable.Bounded.zero (e : ExtTable) : ExtTable.Bounded { e with ignoredCells := 0, badCells := 0 } :=
  ⟨Nat.zero_le _, Nat.zero_le _⟩

/-- R177: RESTART leaves every queue and counter empty or within its range. -/
theorem State.Bounded.restart (hs : s.Bounded) : s.restart.Bounded where
  cellQueue := Nat.zero_le _
  admQueue := Nat.zero_le _
  notices := (by decide : 1 ≤ Config.noticeRoom)
  attention _ := rfl
  store := hs.store
  netSlips := (by decide : (-32767 : Int) ≤ 0 ∧ (0 : Int) ≤ 32767)
  changes := Nat.zero_le _
  cellIn := hs.cellIn
  window := Nat.zero_le _
  badRun := Nat.zero_le _
  framerCounters := ⟨Nat.zero_le _, Nat.zero_le _, Nat.zero_le _⟩
  extCounters := ⟨Nat.zero_le _, Nat.zero_le _⟩
  held := Nat.zero_le _
  heldGains _ _ h := nomatch h
  legs n l h := by simp [State.restart] at h
  confs c k h := by simp [State.restart] at h
  params := hs.params

/-! ### The step -/

/-- The ranges with the order of the replies. -/
def State.InRange (s : State) : Prop := s.Bounded ∧ s.link.InOrder s.hold.mark.places s.resetAsserted

theorem State.Bounded.relink (link : Link) (hs : s.Bounded) : State.Bounded { s with link := link } := { hs with }

theorem inRange_law : KeptByChanges State.InRange where
  change h hs := by
    obtain ⟨hl, hr, -, hm⟩ := h.frame
    refine ⟨h.bounded hs.1, ?_⟩
    rw [hl, hr, CommitMark.places_congr hm]
    exact hs.2
  answer {s} r hw hs := ⟨hs.1.relink _,
    Link.push_inOrder (Link.length_le_of_waiting hs.2 hw s.hold.mark.places_le) hs.2.outstanding⟩
  assembly a hs := ⟨hs.1.relink _, hs.2.room, hs.2.outstanding, hs.2.leaving⟩
  replyDeparture hs := ⟨hs.1.relink _, Link.send_inOrder hs.2.room hs.2.outstanding⟩
  commit {s entries} hhold hw hs := by
    have hplaces : s.hold.mark.places = 0 := by rw [hhold]; rfl
    have hlength := Link.length_le_of_waiting hs.2 hw s.hold.mark.places_le
    have hbounded := hs.1
    refine ⟨{ hbounded with held := ?_, heldGains := ?_ }, Link.push_inOrder hlength ?_⟩
    · have := hs.1.held
      rwa [hhold] at this
    · have := hs.1.heldGains
      rwa [hhold] at this
    · rw [hs.2.outstanding, hplaces]
      rfl
  applied {s entries} r hhold hs u hu := by
    have hbounded := hu.any.keeps Change.bounded hs.1
    have hlink := hu.link
    refine ⟨{ hbounded with held := Nat.zero_le _, heldGains := fun _ _ h => nomatch h }, ?_⟩
    refine Link.resolve_inOrder r ?_ ?_ <;> rw [hlink]
    · exact hs.2.room
    · exact hs.2.outstanding ▸ s.hold.mark.places_le
  restart {s} hw hs r := by
    obtain ⟨hlength, hout⟩ := Link.endCommit_inOrder hs.2 (Link.length_le_of_waiting hs.2 hw s.hold.mark.places_le)
    exact ⟨hs.1.restart.relink _, Link.push_inOrder hlength hout⟩
  assert {s t} hs h := by
    cases h
    have hbounded := hs.1
    exact ⟨{ hbounded with attention := fun h => nomatch h }, hs.2.room, hs.2.outstanding, fun _ h => nomatch h⟩
  release {s t} _ h := by
    cases h
    have hbounded := Bounded_reset
    exact ⟨{ hbounded with }, Nat.zero_le _, rfl, fun _ _ _ _ h => nomatch h⟩

/-- Settles O56: by the change, with the link's own takings and RESTART. -/
theorem stepsKeepTheRanges : Obligations.StepsKeepTheRanges := by
  unfold Obligations.StepsKeepTheRanges
  intro s t hbounded hreplies h
  have hs : s.InRange := ⟨hbounded, State.repliesInOrder_iff.1 hreplies⟩
  have hpending {s : State} (q : List Instr) (hs : s.InRange) : State.InRange { s with pending := q } :=
    have hbounded := hs.1
    ⟨{ hbounded with }, hs.2⟩
  obtain ⟨ht, hlink⟩ := inRange_law.kept.step hpending hs h
  exact ⟨ht, State.repliesInOrder_iff.2 hlink⟩

end Sys2Proof.Machine
end

section
/-! PROOFS. The laws of the Trunk Cell Queue and of the legs' keys (R36, R66, R76, R79, R97, R102), read leg by leg. -/

namespace Sys2Proof.Machine

variable {rx ln : Bool} {s t : State} {o : Option LegNo} {n m : LegNo} {l k : Leg}

/-! ### The laws of one leg -/

/-- What the laws say of leg n, held in x, with the queue q. `full`: the laws of its keys and counters are meant too. -/
structure LegAt (full : Bool) (len : Nat) (q : List CellRequest) (n : LegNo) (x : Option Leg) : Prop where
  owner : ∀ kind, { kind := kind, leg := n } ∈ q → ∃ l, x = some l ∧ l.state.isClearing = (kind == .clear)
  wantsClear : ∀ l, x = some l → l.wantsClear = true → l.state.isClearing = true ∧ { kind := .clear, leg := n } ∉ q
  wantsRoll : ∀ l, x = some l → l.wantsRoll = true → l.state.isOpen = true ∧ { kind := .roll, leg := n } ∉ q
  cleared : ∀ l, x = some l → l.state.isClearing = true → l.wantsClear = true ∨ { kind := .clear, leg := n } ∈ q
  keys : full = true → ∀ l, x = some l → l.KeyLaws len
  rolls : full = true → ∀ l, x = some l → l.wantsRoll = true ∨ { kind := .roll, leg := n } ∈ q → l.RollReady

/-- The laws of the queue, and of the keys where they are meant. -/
structure State.QueueLaws (full : Bool) (s : State) : Prop where
  epochLength : full = true → 64 ≤ s.params.epochLength ∧ s.params.epochLength ≤ 4096
  once : s.cellQueue.Nodup
  legs : ∀ n : LegNo, LegAt full s.params.epochLength s.cellQueue n s.legs[n]

theorem State.queueLaws_false : s.QueueLaws false ↔ s.CellQueueLaws where
  mp h :=
    { once := h.once
      owners := fun r hr => (h.legs r.leg).owner r.kind hr
      wantsClear := fun n => (h.legs n).wantsClear
      wantsRoll := fun n => (h.legs n).wantsRoll
      cleared := fun n => (h.legs n).cleared }
  mpr h :=
    { epochLength := nofun
      once := h.once
      legs := fun n => ⟨fun _ => h.owners _, h.wantsClear n, h.wantsRoll n, h.cleared n, nofun, nofun⟩ }

theorem State.queueLaws_true : s.QueueLaws true ↔ s.CellQueueLaws ∧ s.KeyLaws where
  mp h :=
    ⟨{ once := h.once
       owners := fun r hr => (h.legs r.leg).owner r.kind hr
       wantsClear := fun n => (h.legs n).wantsClear
       wantsRoll := fun n => (h.legs n).wantsRoll
       cleared := fun n => (h.legs n).cleared },
     { epochLength := h.epochLength rfl
       legs := fun n => (h.legs n).keys rfl
       rolls := fun n => (h.legs n).rolls rfl }⟩
  mpr h :=
    { epochLength := fun _ => h.2.epochLength
      once := h.1.once
      legs := fun n => ⟨fun _ => h.1.owners _, h.1.wantsClear n, h.1.wantsRoll n, h.1.cleared n, fun _ => h.2.legs n,
        fun _ => h.2.rolls n⟩ }

/-! ### What keeps the laws of one leg -/

variable {full : Bool} {len : Nat} {q q' : List CellRequest}

/-- Another queue with the same requests of the leg. -/
theorem LegAt.requeue {x : Option Leg} (h : LegAt full len q n x)
    (hq : ∀ kind, { kind := kind, leg := n } ∈ q' ↔ { kind := kind, leg := n } ∈ q) : LegAt full len q' n x := by
  obtain ⟨howner, hclear, hroll, hcleared, hkeys, hrolls⟩ := h
  refine ⟨?_, ?_, ?_, ?_, hkeys, ?_⟩
  · simpa only [hq] using howner
  · simpa only [hq] using hclear
  · simpa only [hq] using hroll
  · simpa only [hq] using hcleared
  · simpa only [hq] using hrolls

/-- A leg that the queue's laws see as they did, its keys still lawful. -/
theorem LegAt.congr (h : LegAt full len q n (some l)) (ho : k.state.isOpen = l.state.isOpen)
    (hr : k.wantsRoll = l.wantsRoll) (hc : k.wantsClear = l.wantsClear) (hk : l.KeyLaws len → k.KeyLaws len)
    (hroll : l.RollReady → k.RollReady) : LegAt full len q n (some k) := by
  have hclearing : k.state.isClearing = l.state.isClearing := by rw [LegState.isClearing_eq, LegState.isClearing_eq, ho]
  constructor
  · intro kind hkind
    obtain ⟨l', hl', hstate⟩ := h.owner kind hkind
    cases hl'
    exact ⟨k, rfl, hclearing.trans hstate⟩
  · rintro _ ⟨⟩ hw
    rw [hclearing]
    exact h.wantsClear l rfl (hc ▸ hw)
  · rintro _ ⟨⟩ hw
    rw [ho]
    exact h.wantsRoll l rfl (hr ▸ hw)
  · rintro _ ⟨⟩ hw
    rw [hc]
    exact h.cleared l rfl (hclearing ▸ hw)
  · rintro hkeys _ ⟨⟩
    exact hk (h.keys hkeys l rfl)
  · rintro hkeys _ ⟨⟩ hw
    exact hroll (h.rolls hkeys l rfl (hr ▸ hw))

theorem LegAt.keeps (h : LegAt full len q n (some l)) (hk : l.Keeps rx ln len k) : LegAt full len q n (some k) :=
  h.congr hk.isOpen hk.wantsRoll hk.wantsClear hk.keys hk.roll

/-- Only leg n and its requests changed. -/
theorem State.QueueLaws.local (h : s.QueueLaws full) (n : LegNo) (hlen : t.params.epochLength = s.params.epochLength)
    (hlegs : ∀ m, n ≠ m → t.legs[m] = s.legs[m]) (hq : ∀ r : CellRequest, n ≠ r.leg → (r ∈ t.cellQueue ↔ r ∈ s.cellQueue))
    (honce : t.cellQueue.Nodup) (hn : LegAt full s.params.epochLength t.cellQueue n t.legs[n]) : t.QueueLaws full where
  epochLength := by
    rw [hlen]
    exact h.epochLength
  once := honce
  legs m := by
    rw [hlen]
    by_cases hnm : n = m
    · subst hnm
      exact hn
    · rw [hlegs m hnm]
      exact (h.legs m).requeue fun kind => hq _ hnm

/-- Every leg changed, the queue kept. -/
theorem State.QueueLaws.everywhere (h : s.QueueLaws full) (hlen : t.params.epochLength = s.params.epochLength)
    (hq : t.cellQueue = s.cellQueue)
    (hlegs : ∀ m : LegNo, LegAt full s.params.epochLength s.cellQueue m s.legs[m] →
      LegAt full s.params.epochLength s.cellQueue m t.legs[m]) : t.QueueLaws full where
  epochLength := by
    rw [hlen]
    exact h.epochLength
  once := hq ▸ h.once
  legs m := by
    rw [hlen, hq]
    exact hlegs m (h.legs m)

/-! ### The queue's own operations -/

theorem mem_append_request {r x : CellRequest} : r ∈ q ++ [x] ↔ r ∈ q ∨ r = x := by
  rw [List.mem_append, List.mem_singleton]

/-- Another leg's requests are not touched by a request appended for this one. -/
theorem mem_append_other {kind : RequestKind} (r : CellRequest) (hr : n ≠ r.leg) :
    r ∈ q ++ [{ kind := kind, leg := n }] ↔ r ∈ q := by
  rw [mem_append_request, or_iff_left]
  exact fun h => hr (congrArg CellRequest.leg h).symm

theorem mem_append_kind {kind kind' : RequestKind} (hk : kind' ≠ kind) :
    ({ kind := kind', leg := n } : CellRequest) ∈ q ++ [{ kind := kind, leg := n }] ↔ { kind := kind', leg := n } ∈ q := by
  rw [mem_append_request, or_iff_left]
  exact fun h => hk (congrArg CellRequest.kind h)

theorem nodup_append_request {x : CellRequest} (h : q.Nodup) (hx : x ∉ q) : (q ++ [x]).Nodup :=
  List.nodup_append.2 ⟨h, List.nodup_singleton x, fun _ ha _ hb hab => hx (List.mem_singleton.1 hb ▸ hab ▸ ha)⟩

theorem not_mem_of_contains {x : CellRequest} (h : ¬ q.contains x = true) : x ∉ q :=
  fun hx => h (List.contains_iff_mem.2 hx)

/-- R64: no request stands for a FREE leg. -/
theorem LegAt.not_mem (h : LegAt full len q n none) (kind : RequestKind) : ({ kind := kind, leg := n } : CellRequest) ∉ q := by
  intro hmem
  obtain ⟨l, hl, -⟩ := h.owner kind hmem
  nomatch hl

/-- R66: no CLEAR request stands for an open leg. -/
theorem LegAt.clear_not_mem (h : LegAt full len q n (some l)) (ho : l.state.isOpen = true) :
    ({ kind := .clear, leg := n } : CellRequest) ∉ q := by
  intro hmem
  obtain ⟨l', hl', hclearing⟩ := h.owner .clear hmem
  cases hl'
  rw [LegState.isClearing_eq, ho] at hclearing
  nomatch hclearing

/-- R57: a SYNC request of an open leg. -/
theorem LegAt.appendSync (h : LegAt full len q n (some l)) (ho : l.state.isOpen = true) :
    LegAt full len (q ++ [{ kind := .sync, leg := n }]) n (some l) where
  owner kind hkind := by
    rcases mem_append_request.1 hkind with hold | hnew
    · exact h.owner kind hold
    · have hkind : kind = .sync := congrArg CellRequest.kind hnew
      rw [hkind]
      exact ⟨l, rfl, by rw [LegState.isClearing_eq, ho]; rfl⟩
  wantsClear := by
    rw [mem_append_kind (by decide)]
    exact h.wantsClear
  wantsRoll := by
    rw [mem_append_kind (by decide)]
    exact h.wantsRoll
  cleared := by
    rw [mem_append_kind (by decide)]
    exact h.cleared
  keys := h.keys
  rolls := by
    rw [mem_append_kind (by decide)]
    exact h.rolls

/-- R79: a ROLL request of an open leg whose flag is down, or is taken down with it. -/
theorem LegAt.appendRoll (h : LegAt full len q n (some l)) (ho : k.state.isOpen = true) (hw : k.wantsRoll = false)
    (hc : k.wantsClear = l.wantsClear) (hst : k.state = l.state) (hkeys : full = true → k.KeyLaws len ∧ k.RollReady) :
    LegAt full len (q ++ [{ kind := .roll, leg := n }]) n (some k) where
  owner kind hkind := by
    rcases mem_append_request.1 hkind with hold | hnew
    · obtain ⟨l', hl', hstate⟩ := h.owner kind hold
      cases hl'
      exact ⟨k, rfl, by rw [hst]; exact hstate⟩
    · have hkind : kind = .roll := congrArg CellRequest.kind hnew
      rw [hkind]
      exact ⟨k, rfl, by rw [LegState.isClearing_eq, ho]; rfl⟩
  wantsClear := by
    rintro _ ⟨⟩ hclear
    rw [mem_append_kind (by decide), hst]
    exact h.wantsClear l rfl (hc ▸ hclear)
  wantsRoll := by
    rintro _ ⟨⟩ hroll
    rw [hw] at hroll
    nomatch hroll
  cleared := by
    rintro _ ⟨⟩ hclearing
    rw [LegState.isClearing_eq, ho] at hclearing
    nomatch hclearing
  keys := by
    rintro hf _ ⟨⟩
    exact (hkeys hf).1
  rolls := by
    rintro hf _ ⟨⟩ _
    exact (hkeys hf).2

/-- R95, R96: the pending key set, with its ROLL queued, wanted or still to be. -/
theorem Leg.rekeyed_keyLaws {p : KeySetting} {e : Option Half} {w : Bool} (hl : l.KeyLaws len) (hgen : p.gen ≠ l.txKey.gen)
    (he : e = none ∨ (e = l.switchEpoch ∧ l.pendingKey = none)) :
    Leg.KeyLaws len { l with pendingKey := some p, switchEpoch := e, wantsRoll := w } ∧
    Leg.RollReady { l with pendingKey := some p, switchEpoch := e, wantsRoll := w } := by
  have hnone : e = none := by
    rcases he with he | ⟨he, hpending⟩
    · exact he
    · cases hsw : l.switchEpoch with
      | none => exact he.trans hsw
      | some x =>
        obtain ⟨p', hp', -⟩ := hl.switching (by rw [hsw]; rfl)
        rw [hpending] at hp'
        nomatch hp'
  subst hnone
  exact ⟨⟨hl.txIndex, hl.rxIndex, fun _ _ => rfl, nofun, hl.awaited⟩, rfl, p, rfl, hgen⟩

/-- R62, R66: an open leg cleared, its SYNC and ROLL requests removed. -/
theorem LegAt.clear {cause : CloseCause} (h : LegAt full len q n (some l)) (ho : l.state.isOpen = true) (room : Bool) :
    LegAt full len (if room then withoutSyncRoll n q ++ [{ kind := .clear, leg := n }] else withoutSyncRoll n q) n
      (some (l.cleared cause room)) := by
  have hnot (kind : RequestKind) : ({ kind := kind, leg := n } : CellRequest) ∉ withoutSyncRoll n q := by
    intro hmem
    obtain ⟨hq, hkind⟩ := List.mem_filter.1 hmem
    simp only [beq_self_eq_true, Bool.true_and, bne, Bool.not_not, beq_iff_eq] at hkind
    exact h.clear_not_mem ho (hkind ▸ hq)
  have hclear {kind : RequestKind} (hmem : ({ kind := kind, leg := n } : CellRequest) ∈
      if room then withoutSyncRoll n q ++ [{ kind := .clear, leg := n }] else withoutSyncRoll n q) :
      room = true ∧ kind = .clear := by
    split at hmem
    next hroom =>
      rcases mem_append_request.1 hmem with hold | hnew
      · exact absurd hold (hnot kind)
      · exact ⟨hroom, congrArg CellRequest.kind hnew⟩
    next => exact absurd hmem (hnot kind)
  refine ⟨fun kind hkind => ?_, ?_, ?_, ?_, ?_, ?_⟩
  · obtain ⟨-, rfl⟩ := hclear hkind
    exact ⟨_, rfl, rfl⟩
  · rintro _ ⟨⟩ hw
    refine ⟨rfl, fun hmem => ?_⟩
    obtain ⟨hroom, -⟩ := hclear hmem
    rw [Leg.cleared, hroom] at hw
    nomatch hw
  · rintro _ ⟨⟩ hw
    nomatch hw
  · rintro _ ⟨⟩ _
    cases room with
    | true => exact .inr (mem_append_request.2 (.inr rfl))
    | false => exact .inl rfl
  · rintro hf _ ⟨⟩
    have hl := h.keys hf l rfl
    exact ⟨hl.txIndex, hl.rxIndex, nofun, nofun, nofun⟩
  · rintro hf _ ⟨⟩ hw
    rcases hw with hw | hw
    · nomatch hw
    · obtain ⟨-, hkind⟩ := hclear hw
      nomatch hkind

/-- R55: a leg newly opened, on a queue that has no request of it. -/
theorem LegAt.open {a : LegOpenArgs} {x : Handle} {e : Endpoint} (h : LegAt full len q n none)
    (hlen : full = true → 64 ≤ len) : LegAt full len q n (some (a.record x e)) where
  owner kind hkind := absurd hkind (h.not_mem kind)
  wantsClear := by
    rintro _ ⟨⟩ hw
    nomatch hw
  wantsRoll := by
    rintro _ ⟨⟩ hw
    nomatch hw
  cleared := by
    rintro _ ⟨⟩ hw
    nomatch hw
  keys := by
    rintro hf _ ⟨⟩
    have hpos : 0 < len := Nat.lt_of_lt_of_le (by decide) (hlen hf)
    exact ⟨hpos, hpos, fun _ hgen => absurd rfl hgen, nofun, nofun⟩
  rolls := by
    rintro hf _ ⟨⟩ hw
    rcases hw with hw | hw
    · nomatch hw
    · exact absurd hw (h.not_mem .roll)

/-- R64: the leg freed by its CLEAR's departure. -/
theorem LegAt.free (h : LegAt full len ({ kind := .clear, leg := n } :: q) n (some l))
    (honce : ({ kind := .clear, leg := n } :: q : List CellRequest).Nodup) (ho : l.state.isClearing = true) :
    LegAt full len q n none where
  owner kind hkind := by
    obtain ⟨l', hl', hstate⟩ := h.owner kind (List.mem_cons_of_mem _ hkind)
    cases hl'
    rw [ho] at hstate
    rw [eq_comm, beq_iff_eq] at hstate
    subst hstate
    exact absurd hkind (List.nodup_cons.1 honce).1
  wantsClear _ h := nomatch h
  wantsRoll _ h := nomatch h
  cleared _ h := nomatch h
  keys _ _ h := nomatch h
  rolls _ _ h := nomatch h

end Sys2Proof.Machine
end

section
/-! PROOFS. The laws of the Trunk Cell Queue and of the legs' keys, change by change and step by step. -/

namespace Sys2Proof.Machine

variable {rx ln : Bool} {s t : State} {n m : LegNo} {l k : Leg} {full : Bool}

/-- One leg written, the queue kept. -/
theorem State.QueueLaws.setLeg {x : Option Leg} (h : s.QueueLaws full)
    (hx : LegAt full s.params.epochLength s.cellQueue n s.legs[n] → LegAt full s.params.epochLength s.cellQueue n x) :
    (s.setLeg n x).QueueLaws full := by
  refine h.local n rfl (fun m hnm => State.setLeg_other s n m x hnm) (fun _ _ => Iff.rfl) h.once ?_
  rw [State.setLeg_same]
  exact hx (h.legs n)

/-- R57: a SYNC asked for. -/
theorem State.QueueLaws.askSync (h : s.QueueLaws full) (hl : s.legs[n] = some l) (ho : l.state.isOpen = true) :
    (s.askSync n).QueueLaws full := by
  unfold State.askSync
  split
  · exact h
  next hqueued =>
    split
    · refine h.local n rfl (fun _ _ => rfl) (fun r => mem_append_other r)
        (nodup_append_request h.once (not_mem_of_contains hqueued)) ?_
      show LegAt _ _ _ n s.legs[n]
      have hn := h.legs n
      rw [hl] at hn ⊢
      exact hn.appendSync ho
    · have hset : (s.setLeg n ((s.legs[n]).map fun l => { l with skippedSyncs := bump l.skippedSyncs })).QueueLaws full :=
        h.setLeg fun hn => by
          rw [hl] at hn ⊢
          exact hn.keeps (rx := false) (ln := false) (Leg.keeps_skippedSyncs (bump_le _))
      exact ⟨hset.epochLength, hset.once, hset.legs⟩

/-- R95: a leg rekeyed, its ROLL queued already or still to be. -/
theorem LegAt.rekey {len : Nat} {q : List CellRequest} (h : LegAt full len q n (some l)) (hst : k.state = l.state)
    (hc : k.wantsClear = l.wantsClear)
    (hroll : k.wantsRoll = true → l.state.isOpen = true ∧ ({ kind := .roll, leg := n } : CellRequest) ∉ q)
    (hkeys : full = true → k.KeyLaws len ∧ k.RollReady) : LegAt full len q n (some k) where
  owner kind hkind := by
    obtain ⟨l', hl', hstate⟩ := h.owner kind hkind
    cases hl'
    exact ⟨k, rfl, by rw [hst]; exact hstate⟩
  wantsClear := by
    rintro _ ⟨⟩ hw
    rw [hst]
    exact h.wantsClear l rfl (hc ▸ hw)
  wantsRoll := by
    rintro _ ⟨⟩ hw
    rw [hst]
    exact hroll hw
  cleared := by
    rintro _ ⟨⟩ hw
    rw [hc]
    exact h.cleared l rfl (hst ▸ hw)
  keys := by
    rintro hf _ ⟨⟩
    exact (hkeys hf).1
  rolls := by
    rintro hf _ ⟨⟩ _
    exact (hkeys hf).2

/-- R95, R96: a ROLL asked for. -/
theorem State.QueueLaws.askRoll {p : KeySetting} {e : Option Half} (h : s.QueueLaws full) (hl : s.legs[n] = some l)
    (ho : l.state.isOpen = true) (hgen : p.gen ≠ l.txKey.gen) (he : e = none ∨ (e = l.switchEpoch ∧ l.pendingKey = none)) :
    (s.askRoll n { l with pendingKey := some p, switchEpoch := e }).1.QueueLaws full := by
  have hn := h.legs n
  rw [hl] at hn
  have hkeys (w : Bool) (hf : full = true) := Leg.rekeyed_keyLaws (w := w) (hn.keys hf l rfl) hgen he
  have hkept : LegAt full s.params.epochLength s.cellQueue n (some { l with pendingKey := some p, switchEpoch := e }) :=
    hn.rekey rfl rfl (hn.wantsRoll l rfl) (hkeys l.wantsRoll)
  unfold State.askRoll
  split
  · exact h.setLeg fun _ => hkept
  next hqueued =>
    have hnot := not_mem_of_contains hqueued
    split
    · exact h.setLeg fun _ => hkept
    next hwants =>
      split
      · refine h.local n rfl (fun m hnm => State.setLeg_other s n m _ hnm) (fun r => mem_append_other r)
          (nodup_append_request h.once hnot) ?_
        show LegAt _ _ _ n (s.setLeg n _).legs[n]
        rw [State.setLeg_same]
        exact hn.appendRoll ho (Bool.eq_false_of_not_eq_true hwants) rfl rfl (hkeys l.wantsRoll)
      · exact h.setLeg fun _ => hn.rekey rfl rfl (fun _ => ⟨ho, hnot⟩) (hkeys true)

theorem mem_withoutSyncRoll_other {q : List CellRequest} (r : CellRequest) (hr : n ≠ r.leg) :
    r ∈ withoutSyncRoll n q ↔ r ∈ q := by
  rw [withoutSyncRoll, List.mem_filter]
  simp [Ne.symm hr]

/-- R62, R66: an open leg cleared. -/
theorem State.QueueLaws.clearLeg (h : s.QueueLaws full) (cause : CloseCause) (slot : Option Slot) (hl : s.legs[n] = some l)
    (ho : l.state.isOpen = true) : (s.clearLeg n cause slot).QueueLaws full := by
  have hn := h.legs n
  rw [hl] at hn
  obtain ⟨hlegs, hqueue, -, -⟩ := State.clearLeg_some cause slot hl
  have honce : (withoutSyncRoll n s.cellQueue).Nodup := h.once.filter _
  have hclear := hn.clear_not_mem ho
  refine h.local n (by simp) (fun m hnm => ?_) (fun r hr => ?_) ?_ ?_
  · rw [hlegs, getElem_set_fin, if_neg hnm]
  · rw [hqueue]
    split
    · rw [mem_append_other r hr, mem_withoutSyncRoll_other r hr]
    · exact mem_withoutSyncRoll_other r hr
  · rw [hqueue]
    split
    · exact nodup_append_request honce fun hmem => hclear (List.mem_filter.1 hmem).1
    · exact honce
  · rw [hlegs, hqueue, getElem_set_fin, if_pos rfl]
    exact hn.clear ho _

/-- R77: a SYNC or ROLL request leaves the queue. -/
theorem LegAt.dequeue {len : Nat} {kind : RequestKind} {rest : List CellRequest} {x : Option Leg}
    (h : LegAt full len ({ kind := kind, leg := n } :: rest) n x) (hkind : kind ≠ .clear) : LegAt full len rest n x where
  owner kind' hmem := h.owner kind' (List.mem_cons_of_mem _ hmem)
  wantsClear l hl hw :=
    have hclear := h.wantsClear l hl hw
    ⟨hclear.1, fun hmem => hclear.2 (List.mem_cons_of_mem _ hmem)⟩
  wantsRoll l hl hw :=
    have hroll := h.wantsRoll l hl hw
    ⟨hroll.1, fun hmem => hroll.2 (List.mem_cons_of_mem _ hmem)⟩
  cleared l hl hw := by
    rcases h.cleared l hl hw with hflag | hmem
    · exact .inl hflag
    · rcases List.mem_cons.1 hmem with hhead | hrest
      · exact absurd (congrArg CellRequest.kind hhead).symm hkind
      · exact .inr hrest
  keys := h.keys
  rolls hf l hl hw := h.rolls hf l hl (hw.imp_right (List.mem_cons_of_mem _))

/-- R78: a ROLL sent fixes its leg's switch epoch. -/
theorem LegAt.rollSent {len : Nat} {rest : List CellRequest} (e : Half)
    (h : LegAt full len ({ kind := .roll, leg := n } :: rest) n (some l))
    (hnot : ({ kind := .roll, leg := n } : CellRequest) ∉ rest) :
    LegAt full len rest n (some { l with switchEpoch := some e }) where
  owner kind hmem := by
    obtain ⟨l', hl', hstate⟩ := h.owner kind (List.mem_cons_of_mem _ hmem)
    cases hl'
    exact ⟨_, rfl, hstate⟩
  wantsClear := by
    rintro _ ⟨⟩
    exact (h.dequeue (by decide)).wantsClear l rfl
  wantsRoll := by
    rintro _ ⟨⟩
    exact (h.dequeue (by decide)).wantsRoll l rfl
  cleared := by
    rintro _ ⟨⟩
    exact (h.dequeue (by decide)).cleared l rfl
  keys := by
    rintro hf _ ⟨⟩
    have hl := h.keys hf l rfl
    obtain ⟨-, hpending⟩ := h.rolls hf l rfl (.inr List.mem_cons_self)
    exact ⟨hl.txIndex, hl.rxIndex, hl.pending, fun _ => hpending, hl.awaited⟩
  rolls := by
    rintro hf _ ⟨⟩ hw
    rcases hw with hw | hw
    · exact absurd List.mem_cons_self (h.wantsRoll l rfl hw).2
    · exact absurd hw hnot

theorem LegState.exists_of_isClearing {st : LegState} (h : st.isClearing = true) : ∃ cause, st = .clearing cause := by
  cases st with
  | clearing cause => exact ⟨cause, rfl⟩
  | waiting | running | holding => nomatch h

theorem LegAt.ofRel {len : Nat} {q : List CellRequest} {x y : Option Leg} (h : LegAt full len q n x)
    (hxy : Option.Rel (Leg.Keeps rx ln len) x y) : LegAt full len q n y := by
  cases hxy with
  | none => exact h
  | some hkeeps => exact h.keeps hkeeps

/-- R79: a CLEAR request served of a leg in CLEARING. -/
theorem LegAt.clearServed {len : Nat} {q : List CellRequest} (h : LegAt full len q n (some l))
    (hc : l.state.isClearing = true) :
    LegAt full len (q ++ [{ kind := .clear, leg := n }]) n (some { l with wantsClear := false }) where
  owner kind hkind := by
    rcases mem_append_request.1 hkind with hold | hnew
    · obtain ⟨l', hl', hstate⟩ := h.owner kind hold
      cases hl'
      exact ⟨_, rfl, hstate⟩
    · have hkind : kind = .clear := congrArg CellRequest.kind hnew
      rw [hkind]
      exact ⟨_, rfl, hc⟩
  wantsClear := by
    rintro _ ⟨⟩ hw
    nomatch hw
  wantsRoll := by
    rintro _ ⟨⟩ hw
    rw [mem_append_kind (by decide)]
    exact h.wantsRoll l rfl hw
  cleared := by
    rintro _ ⟨⟩ _
    exact .inr (mem_append_request.2 (.inr rfl))
  keys := by
    rintro hf _ ⟨⟩
    have hl := h.keys hf l rfl
    exact ⟨hl.txIndex, hl.rxIndex, hl.pending, hl.switching, hl.awaited⟩
  rolls := by
    rintro hf _ ⟨⟩ hw
    rw [mem_append_kind (by decide)] at hw
    exact h.rolls hf l rfl hw

/-- R77, R64: the head of the queue sent, with its effect on its leg. -/
theorem State.QueueLaws.depart {r : CellRequest} {rest : List CellRequest} (h : s.QueueLaws full)
    (hq : s.cellQueue = r :: rest) : (State.sendRequest { s with cellQueue := rest } r).1.QueueLaws full := by
  obtain ⟨kind, n⟩ := r
  have hn := h.legs n
  have honce := h.once
  rw [hq] at hn honce
  obtain ⟨hnot, hrest⟩ := List.nodup_cons.1 honce
  obtain ⟨l, hl, hstate⟩ := hn.owner kind List.mem_cons_self
  rw [hl] at hn
  have hother (x : CellRequest) (hx : n ≠ x.leg) : x ∈ rest ↔ x ∈ s.cellQueue := by
    rw [hq, List.mem_cons, or_iff_right]
    exact fun h => hx (congrArg CellRequest.leg h).symm
  have hlocal {x : Option Leg} (hx : LegAt full s.params.epochLength rest n x) :
      (State.setLeg { s with cellQueue := rest } n x).QueueLaws full :=
    h.local n rfl (fun m hnm => State.setLeg_other s n m x hnm) hother hrest (by rw [State.setLeg_same]; exact hx)
  have hsame (hkind : kind ≠ .clear) : State.QueueLaws full { s with cellQueue := rest } :=
    h.local n rfl (fun _ _ => rfl) hother hrest (by rw [hl]; exact hn.dequeue hkind)
  unfold State.sendRequest
  split
  next hnone => rw [hl] at hnone; nomatch hnone
  next l' hl' =>
    rw [hl] at hl'
    cases hl'
    dsimp only
    cases kind with
    | sync => exact hsame (by decide)
    | roll =>
      dsimp only
      split
      · exact hsame (by decide)
      · exact hlocal (hn.rollSent _ hnot)
    | clear =>
      have hfree := hlocal (hn.free honce hstate)
      obtain ⟨cause, hst⟩ := LegState.exists_of_isClearing hstate
      rw [hst]
      exact ⟨hfree.epochLength, hfree.once, hfree.legs⟩

/-- R79: a wants flag served while the queue has room. -/
theorem State.QueueLaws.serve (h : s.QueueLaws full) (n : LegNo) : (s.serveWants n).QueueLaws full := by
  have hn := h.legs n
  unfold State.serveWants
  split
  · exact h
  next l hl =>
    rw [hl] at hn
    split
    · split
      next hclear =>
        obtain ⟨hclearing, hnot⟩ := hn.wantsClear l rfl hclear
        refine h.local n rfl (fun m hnm => State.setLeg_other s n m _ hnm) (fun r => mem_append_other r)
          (nodup_append_request h.once hnot) ?_
        show LegAt _ _ _ n (s.setLeg n _).legs[n]
        rw [State.setLeg_same]
        exact hn.clearServed hclearing
      · split
        next hroll =>
          obtain ⟨ho, hnot⟩ := hn.wantsRoll l rfl hroll
          refine h.local n rfl (fun m hnm => State.setLeg_other s n m _ hnm) (fun r => mem_append_other r)
            (nodup_append_request h.once hnot) ?_
          show LegAt _ _ _ n (s.setLeg n _).legs[n]
          rw [State.setLeg_same]
          refine hn.appendRoll ho rfl rfl rfl fun hf => ?_
          have hkeys := hn.keys hf l rfl
          exact ⟨⟨hkeys.txIndex, hkeys.rxIndex, hkeys.pending, hkeys.switching, hkeys.awaited⟩, hn.rolls hf l rfl (.inl hroll)⟩
        next => exact h
    · exact h

/-! ### Every change and every step -/

theorem Change.queueLaws (h : Change rx ln s t) (hs : s.QueueLaws full) : t.QueueLaws full := by
  cases h
  case legs v hv => exact hs.everywhere rfl rfl fun m hm => hm.ofRel (hv m)
  case level n l g hl _ =>
    refine hs.setLeg fun hn => ?_
    rw [hl] at hn
    exact hn.congr rfl rfl rfl (fun hk => ⟨hk.txIndex, hk.rxIndex, hk.pending, hk.switching, hk.awaited⟩) id
  case openLeg n a x e _ hfree _ _ =>
    refine hs.setLeg fun hn => ?_
    rw [hfree] at hn
    exact hn.open fun hf => (hs.epochLength hf).1
  case epochLength len hlow hhigh hfree =>
    refine ⟨fun _ => ⟨hlow, hhigh⟩, hs.once, fun m => ?_⟩
    have hm := hs.legs m
    rw [hfree m] at hm
    show LegAt _ _ _ m s.legs[m]
    rw [hfree m]
    exact ⟨hm.owner, hm.wantsClear, hm.wantsRoll, hm.cleared, fun _ _ h => (nomatch h), hm.rolls⟩
  case params p _ hlen _ => exact hs.everywhere hlen rfl fun _ => id
  case failureLimit => exact hs.everywhere rfl rfl fun _ => id
  case askSync hl ho => exact hs.askSync hl ho
  case askRoll hl ho hgen he => exact hs.askRoll hl ho hgen he
  case clearLeg cause slot _ hl ho => exact hs.clearLeg cause slot hl ho
  case depart hq => exact hs.depart hq
  case serve n => exact hs.serve n
  all_goals exact hs.everywhere rfl rfl fun _ => id

/-- RESTART leaves no leg and no request. -/
theorem State.QueueLaws.empty (hlen : full = true → 64 ≤ s.params.epochLength ∧ s.params.epochLength ≤ 4096)
    (hq : s.cellQueue = []) (hlegs : ∀ n : LegNo, s.legs[n] = none) : s.QueueLaws full where
  epochLength := hlen
  once := hq ▸ List.nodup_nil
  legs n := by
    rw [hq, hlegs]
    exact ⟨fun _ h => (nomatch h), fun _ h => (nomatch h), fun _ h => (nomatch h), fun _ h => (nomatch h),
      fun _ _ h => (nomatch h), fun _ _ h => (nomatch h)⟩

theorem queueLaws_law (full : Bool) : TableLaw (State.QueueLaws full) where
  change := Change.queueLaws
  congr hl _ hp hq hs := ⟨by rw [hp]; exact hs.epochLength, by rw [hq]; exact hs.once, by rw [hl, hp, hq]; exact hs.legs⟩
  restart hs := .empty hs.epochLength rfl fun n => Vector.getElem_replicate _
  reset := .empty (fun _ => by decide) rfl fun n => getElem_reset_legs n

/-- Settles O58: by the change, leg by leg. -/
theorem stepsKeepTheQueueAndKeys : Obligations.StepsKeepTheQueueAndKeys := by
  unfold Obligations.StepsKeepTheQueueAndKeys
  refine ⟨fun s t hs h => ?_, fun s t hs hk h => ?_⟩
  · exact State.queueLaws_false.1 ((queueLaws_law false).step (State.queueLaws_false.2 hs) h)
  · exact (State.queueLaws_true.1 ((queueLaws_law true).step (State.queueLaws_true.2 ⟨hs, hk⟩) h)).2

end Sys2Proof.Machine
end

section
/-! PROOFS. The receive side (R40, R80 to R86): the framer aligned with the line frames, and legs counting in SYNC only. -/

namespace Sys2Proof.Machine

variable {ln : Bool} {s t : State} {n m : LegNo} {l k : Leg} {f g : Framer} {p pos : Position}

/-! ### The framer's block in progress -/

/-- The framer's part that the receive laws speak of. -/
def Framer.phase (f : Framer) : FramerMode × List Byte × Nat × Nat × Bool × Nat :=
  (f.mode, f.window, f.blockFrames, f.blockLength, f.blockEnded, f.slipMark)

theorem Framer.phase_eq_iff : g.phase = f.phase ↔ g.mode = f.mode ∧ g.window = f.window ∧ g.blockFrames = f.blockFrames ∧
    g.blockLength = f.blockLength ∧ g.blockEnded = f.blockEnded ∧ g.slipMark = f.slipMark := by
  simp only [Framer.phase, Prod.mk.injEq]

theorem Framer.Aligned.congr (h : f.Aligned pos p) (hg : g.phase = f.phase) : g.Aligned pos p := by
  obtain ⟨-, hw, hf, hl, he, hm⟩ := Framer.phase_eq_iff.1 hg
  obtain ⟨h1, h2, h3, h4, h5⟩ := h
  exact ⟨hw ▸ h1, by rw [hf, hl]; exact h2, by rw [hf, hl]; exact h3, by rw [hf, hl, he]; exact h4, by rw [hm, hl]; exact h5⟩

/-- R80: the block that follows an ended one is aligned as it was. -/
theorem Framer.Aligned.nextBlock (h : f.Aligned pos p) (he : f.blockEnded = true) : f.nextBlock.Aligned pos p where
  window := h.window
  position := by
    have hended := h.ended
    rw [he, eq_comm, decide_eq_true_eq] at hended
    have hpos := h.position
    rw [hended] at hpos
    show (p.val + 0 + 16 - 8) % 8 = pos.val
    omega
  frames := Nat.zero_le _
  ended := rfl
  length := .inl ⟨rfl, rfl⟩

/-- R85: a slip while a block of eight is in progress, not all its frames delivered. -/
theorem Framer.Aligned.slip {d : SlipDirection} (h : f.Aligned pos p) (hmode : f.mode = .sync p)
    (he : f.blockEnded = false) : ∃ q, (f.slip d).mode = .sync q ∧ (f.slip d).Aligned pos q ∧
      (f.slip d).blockFrames = f.blockFrames := by
  obtain ⟨hw, hpos, hframes, hended, hlength⟩ := h
  have hlt : f.blockFrames ≠ f.blockLength := by
    rw [he, eq_comm, decide_eq_false_iff_not] at hended
    exact hended
  have hp := p.isLt
  by_cases hmark : f.slipMark = 0
  · obtain ⟨-, hlen⟩ : f.slipMark = 0 ∧ f.blockLength = 8 := by
      rcases hlength with h | ⟨h | h, -⟩
      · exact h
      · rw [hmark] at h; nomatch h
      · rw [hmark] at h; nomatch h
    cases d with
    | plus =>
      rw [Framer.slip_plus_of_sync hmode hmark]
      refine ⟨p + 7, rfl, ⟨hw, ?_, ?_, ?_, .inr ⟨.inl rfl, .inl rfl⟩⟩, rfl⟩
      · simp only [Fin.val_add]
        show ((p.val + 7) % 8 + f.blockFrames + 16 - 7) % 8 = pos.val
        omega
      · show f.blockFrames ≤ 7
        omega
      · show decide (7 ≤ f.blockFrames) = decide (f.blockFrames = 7)
        rw [decide_eq_decide]
        omega
    | minus =>
      rw [Framer.slip_minus_of_sync hmode hmark]
      refine ⟨p + 1, rfl, ⟨hw, ?_, ?_, ?_, .inr ⟨.inl rfl, .inr rfl⟩⟩, rfl⟩
      · simp only [Fin.val_add]
        show ((p.val + 1) % 8 + f.blockFrames + 16 - 9) % 8 = pos.val
        omega
      · show f.blockFrames ≤ 9
        omega
      · show f.blockEnded = decide (f.blockFrames = 9)
        rw [he, eq_comm, decide_eq_false_iff_not]
        omega
  · rw [Framer.slip_of_sync_marked hmode hmark]
    refine ⟨p, hmode, ⟨hw, hpos, hframes, hended, .inr ⟨.inr rfl, ?_⟩⟩, rfl⟩
    rcases hlength with ⟨h, -⟩ | ⟨-, h⟩
    · exact absurd h hmark
    · exact h

theorem length_windowPush (h : f.window.length = 8) (b : Byte) : (windowPush f.window b).length = 8 := by
  rw [windowPush, List.length_drop, List.length_append, List.length_singleton, h]

/-- R80: a frame delivered while the block has not all its frames. -/
theorem Framer.Aligned.deliver (h : f.Aligned pos p) (hmode : f.mode = .presync p ∨ f.mode = .sync p)
    (he : f.blockEnded = false) (at' : Position) (b : Byte) : (f.deliver at' b).Aligned (pos + 1) p ∧
      (f.deliver at' b).mode = f.mode ∧ (f.deliver at' b).blockFrames = f.blockFrames + 1 ∧
      (f.deliver at' b).slipMark = f.slipMark := by
  obtain ⟨hw, hpos, hframes, hended, hlength⟩ := h
  have hlt : f.blockFrames < f.blockLength := by
    rw [he, eq_comm, decide_eq_false_iff_not] at hended
    omega
  have hdeliver : f.deliver at' b = { f with
      window := windowPush f.window b, blockFrames := f.blockFrames + 1
      blockEnded := decide (f.blockLength ≤ f.blockFrames + 1) } := by
    unfold Framer.deliver
    rcases hmode with hmode | hmode <;> rw [hmode]
  rw [hdeliver]
  refine ⟨⟨length_windowPush hw b, ?_, hlt, ?_, hlength⟩, rfl, rfl, rfl⟩
  · have hp := p.isLt
    simp only [Fin.val_add]
    show (p.val + (f.blockFrames + 1) + 16 - f.blockLength) % 8 = (pos.val + 1) % 8
    omega
  · show decide (f.blockLength ≤ f.blockFrames + 1) = decide (f.blockFrames + 1 = f.blockLength)
    rw [decide_eq_decide]
    omega

/-! ### The legs -/

theorem Leg.output_assembly (b : Block) (l : Leg) : (l.output b).rxAssembly = [] := rfl

theorem Leg.takeRow_assembly {len : Nat} {loaded muted : Bool} (ho : l.state.isOpen = true) :
    (l.takeRow len loaded muted).rxAssembly = [] := by
  unfold Leg.takeRow
  split
  · split <;> rfl
  · rfl
  · rfl
  · rfl
  · rfl
  next hst => rw [hst] at ho; nomatch ho

/-- R41: a leg that has taken its block starts its assembly afresh. -/
theorem Leg.takeBlock_assembly {len : Nat} {loaded straddles : Bool} (ho : l.state.isOpen = true) :
    (l.takeBlock len loaded straddles).leg.rxAssembly = [] := by
  have htake (c : Bool) (k : Leg) (hk : k.state.isOpen = true) :
      (if c then k.output silentBlock else k.takeRow len loaded (straddles || loaded)).rxAssembly = [] := by
    split
    · rfl
    · exact Leg.takeRow_assembly hk
  have hstart : l.receiveEpochStart.leg.state.isOpen = true :=
    (Leg.keeps_receiveEpochStart (ln := true) (len := len) ho).isOpen.trans ho
  unfold Leg.takeBlock
  dsimp only
  split
  · split
    · exact htake _ _ rfl
    · rfl
  · exact htake _ _ hstart

theorem Leg.takeRow_state {len : Nat} {loaded muted : Bool} : (l.takeRow len loaded muted).state = l.state := by
  have hadvance : (l.advanceRx len loaded).state = l.state := by
    unfold Leg.advanceRx
    split <;> rfl
  unfold Leg.takeRow
  split
  · split <;> exact hadvance
  · exact hadvance
  all_goals rfl

theorem Leg.receiveEpochStart_idle (hc : l.state.counts = false) : l.receiveEpochStart = { leg := l, notices := [] } := by
  unfold Leg.receiveEpochStart
  split
  · rfl
  · rw [hc]
    rfl

theorem Leg.awaitedKey_idle (hc : l.state.counts = false) : l.awaitedKey = none := by
  unfold Leg.awaitedKey
  split
  next hst => rw [hst] at hc; nomatch hc
  next => rfl

/-- R41: a leg that does not count its blocks is not made to by taking one. -/
theorem Leg.takeBlock_idle {len : Nat} {loaded straddles : Bool} (hc : l.state.counts = false) :
    (l.takeBlock len loaded straddles).leg.state = l.state := by
  unfold Leg.takeBlock
  rw [Leg.receiveEpochStart_idle hc]
  dsimp only
  rw [Leg.awaitedKey_idle hc]
  dsimp only
  split
  · rfl
  · exact Leg.takeRow_state

/-- R84: no leg counts its blocks. -/
def State.NoneCounts (s : State) : Prop := ∀ (n : LegNo) l, s.legs[n] = some l → l.state.counts = false

/-- R82, R83: the framer is where a block has just ended, or has lost its phase with no leg left counting. -/
def State.BlockDone (s : State) : Prop :=
  (∃ p, s.framer.mode = .sync p ∧ s.framer.Aligned s.line.framePos p ∧ s.framer.blockFrames = 0) ∨
  (s.framer.mode = .hunt ∧ s.framer.blockEnded = false ∧ s.framer.slipMark = 0 ∧ s.NoneCounts)

/-- R41: what the legs hold once they have taken their blocks. -/
theorem State.takeBlocks_leg {ld : Option LegNo} {st : Bool} (hk : (s.takeBlocks ld st).legs[n] = some k)
    (hc : k.state.counts = true) : k.rxAssembly = [] ∧ ¬ s.NoneCounts := by
  rw [State.takeBlocks_legs] at hk
  obtain ⟨l, hl, rfl⟩ := Option.map_eq_some_iff.1 hk
  unfold Leg.afterBlock at hc ⊢
  split
  next ho =>
    rw [if_pos ho] at hc
    refine ⟨Leg.takeBlock_assembly ho, fun hnone => ?_⟩
    have hidle := hnone n l hl
    rw [Leg.takeBlock_idle hidle, hidle] at hc
    nomatch hc
  next ho =>
    rw [if_neg ho] at hc
    exact absurd (LegState.isOpen_of_counts hc) ho

theorem State.BlockDone.takeBlocks (h : s.BlockDone) (ld : Option LegNo) (st : Bool) :
    (s.takeBlocks ld st).ReceiveLaws := by
  have hleg {n : LegNo} {k : Leg} := State.takeBlocks_leg (s := s) (n := n) (k := k) (ld := ld) (st := st)
  rw [State.takeBlocks_frame] at hleg ⊢
  rcases h with ⟨p, hmode, haligned, hframes⟩ | ⟨hmode, hended, hmark, hnone⟩
  · refine ⟨fun hhunt => ?_, fun q hq => ?_, fun q hq => ?_, fun n k hk hc => ⟨⟨p, hmode⟩, ?_⟩⟩
    · nomatch hmode.symm.trans hhunt
    · nomatch hmode.symm.trans hq
    · cases hmode.symm.trans hq
      exact haligned
    · rw [(hleg hk hc).1]
      exact hframes.symm
  · refine ⟨fun _ => ⟨hended, hmark⟩, fun q hq => ?_, fun q hq => ?_, fun n k hk hc => ?_⟩
    · nomatch hmode.symm.trans hq
    · nomatch hmode.symm.trans hq
    · exact absurd hnone (hleg hk hc).2

/-! ### Completions (R82 to R86) -/

/-- The framer's block and the line frame's place as they were. -/
structure SamePhase (s t : State) : Prop where
  framer : t.framer.phase = s.framer.phase
  framePos : t.line.framePos = s.line.framePos

theorem SamePhase.refl (s : State) : SamePhase s s := ⟨rfl, rfl⟩

theorem SamePhase.trans {u : State} (h : SamePhase s t) (h' : SamePhase t u) : SamePhase s u :=
  ⟨h'.framer.trans h.framer, h'.framePos.trans h.framePos⟩

theorem SamePhase.mode (h : SamePhase s t) : t.framer.mode = s.framer.mode := (Framer.phase_eq_iff.1 h.framer).1

theorem SamePhase.blockFrames (h : SamePhase s t) : t.framer.blockFrames = s.framer.blockFrames :=
  (Framer.phase_eq_iff.1 h.framer).2.2.1

theorem SamePhase.blockEnded (h : SamePhase s t) : t.framer.blockEnded = s.framer.blockEnded :=
  (Framer.phase_eq_iff.1 h.framer).2.2.2.2.1

theorem SamePhase.slipMark (h : SamePhase s t) : t.framer.slipMark = s.framer.slipMark :=
  (Framer.phase_eq_iff.1 h.framer).2.2.2.2.2

theorem SamePhase.aligned (h : SamePhase s t) (ha : s.framer.Aligned s.line.framePos p) :
    t.framer.Aligned t.line.framePos p := by
  rw [h.framePos]
  exact ha.congr h.framer

theorem samePhase_onTaggedLeg (s : State) (tag : Byte) (act : Leg → LegChange × Bool) :
    SamePhase s (s.onTaggedLeg tag act).1 := by
  unfold State.onTaggedLeg
  split
  · exact ⟨rfl, rfl⟩
  · split
    · exact .refl s
    · dsimp only
      rw [State.notifyAll_frame]
      exact ⟨rfl, rfl⟩

theorem samePhase_actOnCell (s : State) (cell : TrunkCell) : SamePhase s (s.actOnCell cell).1 := by
  cases cell with
  | idle => exact .refl s
  | sync | roll | clear => exact samePhase_onTaggedLeg s _ _

/-- R83: a valid cell acted on where a block has just ended. -/
theorem receiveLaws_completeValid (cell : TrunkCell) (hmode : s.framer.mode = .sync p)
    (ha : s.framer.Aligned s.line.framePos p) (hf : s.framer.blockFrames = 0) : (s.completeValid cell).ReceiveLaws := by
  unfold State.completeValid
  have hcleared : SamePhase s { s with framer := { s.framer with badRun := 0 } } := ⟨rfl, rfl⟩
  have hsame := hcleared.trans (samePhase_actOnCell _ cell)
  exact State.BlockDone.takeBlocks (.inl ⟨p, hsame.mode.trans hmode, hsame.aligned ha, hsame.blockFrames.trans hf⟩) _ _

theorem Leg.hunt_counts (l : Leg) : l.hunt.state.counts = false := by
  unfold Leg.hunt
  split
  · rfl
  next h => exact Bool.eq_false_of_not_eq_true h

/-- R83, R84: a bad cell counted where a block has just ended. -/
theorem blockDone_badCell (hmode : s.framer.mode = .sync p) (ha : s.framer.Aligned s.line.framePos p)
    (hf : s.framer.blockFrames = 0) : (s.badCell p).BlockDone := by
  unfold State.badCell
  dsimp only
  split
  · refine .inr ⟨rfl, rfl, rfl, fun n k hk => ?_⟩
    have hk' : (huntLegs s.legs)[n] = some k := hk
    rw [huntLegs, getElem_ofFn_fin] at hk'
    obtain ⟨l, -, rfl⟩ := Option.map_eq_some_iff.1 hk'
    exact l.hunt_counts
  · exact .inl ⟨p, hmode, ha.congr rfl, hf⟩

theorem receiveLaws_completeSync (hmode : s.framer.mode = .sync p) (ha : s.framer.Aligned s.line.framePos p)
    (he : s.framer.blockEnded = true) : (s.completeSync p).ReceiveLaws := by
  have hnext := ha.nextBlock he
  unfold State.completeSync
  dsimp only
  split
  · split
    · exact receiveLaws_completeValid _ hmode hnext rfl
    · exact (blockDone_badCell (s := { s with framer := s.framer.nextBlock }) hmode hnext rfl).takeBlocks _ _
  · split
    · exact State.BlockDone.takeBlocks (s := { s with framer := s.framer.nextBlock }) (.inl ⟨p, hmode, hnext, rfl⟩) _ _
    · exact (blockDone_badCell (s := { s with framer := s.framer.nextBlock }) hmode hnext rfl).takeBlocks _ _

theorem State.ReceiveLaws.noneCounts (hs : s.ReceiveLaws) (h : ∀ p, s.framer.mode ≠ .sync p) : s.NoneCounts := by
  intro n l hl
  cases hc : l.state.counts with
  | false => rfl
  | true =>
    obtain ⟨⟨p, hp⟩, -⟩ := hs.counting n l hl hc
    exact absurd hp (h p)

/-- R82, R85: a framer that has lost its phase, the legs' assemblies emptied. -/
theorem receiveLaws_toHunt (hnone : s.NoneCounts) :
    State.ReceiveLaws { s with framer := s.framer.toHunt, legs := emptyAssemblies s.legs } where
  hunt _ := ⟨rfl, rfl⟩
  presync _ h := nomatch h
  sync _ h := nomatch h
  counting n k hk hc := by
    rw [getElem_emptyAssemblies] at hk
    obtain ⟨l, hl, rfl⟩ := Option.map_eq_some_iff.1 hk
    have := hnone n l hl
    rw [hc] at this
    nomatch this

theorem receiveLaws_completePresync (hs : s.ReceiveLaws) (hmode : s.framer.mode = .presync p)
    (he : s.framer.blockEnded = true) : (s.completePresync p).ReceiveLaws := by
  unfold State.completePresync
  have hnext := (hs.presync p hmode).1.nextBlock he
  split
  · exact receiveLaws_completeValid _ rfl ⟨hnext.1, hnext.2, hnext.3, hnext.4, hnext.5⟩ rfl
  · exact receiveLaws_toHunt (hs.noneCounts fun q hq => by nomatch hmode.symm.trans hq)

theorem receiveLaws_completeBlock (hs : s.ReceiveLaws) : s.completeBlock.ReceiveLaws := by
  unfold State.completeBlock
  split
  next he =>
    split
    next hmode =>
      rw [(hs.hunt hmode).1] at he
      nomatch he
    next p hmode => exact receiveLaws_completePresync hs hmode he
    next p hmode => exact receiveLaws_completeSync hmode (hs.sync p hmode) he
  next => exact hs

end Sys2Proof.Machine
end

section
/-! PROOFS. The receive side step by step. -/

namespace Sys2Proof.Machine

variable {ln : Bool} {s t : State} {o : Option LegNo} {n m : LegNo} {l k : Leg} {f g : Framer} {p pos : Position}

/-! ### Changes that leave the receive side alone -/

theorem Fate.counting {x : Option Leg} (h : Fate false ln s o n x (some k)) (hc : k.state.counts = true) :
    ∃ l, x = some l ∧ l.state.counts = true ∧ k.rxAssembly = l.rxAssembly := by
  cases h
  case kept l hkeeps =>
    obtain ⟨hl, hassembly⟩ := hkeeps.receive rfl hc
    exact ⟨l, rfl, hl, hassembly⟩
  case opened => nomatch hc
  case cleared => nomatch hc
  all_goals exact ⟨_, rfl, hc, rfl⟩

/-- Such a change leaves the framer's block in progress and the line frame's place as they are. -/
theorem Change.samePhase (h : Change false ln s t) : SamePhase s t := by
  cases h
  case line q _ hpos _ => exact ⟨rfl, hpos rfl⟩
  case framer f _ hf =>
    obtain ⟨_, _, _, _, rfl⟩ := hf rfl
    exact ⟨rfl, rfl⟩
  case askSync n l _ _ =>
    unfold State.askSync
    split
    · exact .refl s
    · split <;> exact ⟨rfl, rfl⟩
  case askRoll =>
    rw [State.askRoll_frame]
    exact ⟨rfl, rfl⟩
  case clearLeg n l cause slot _ hl _ =>
    refine ⟨by rw [State.clearLeg_framer], ?_⟩
    rw [(State.clearLeg_some cause slot hl).2.2.1]
    split
    · rw [LinePort.release_frame]
    · rfl
  case depart =>
    rw [State.sendRequest_frame]
    exact ⟨rfl, rfl⟩
  case serve =>
    rw [State.serveWants_frame]
    exact ⟨rfl, rfl⟩
  all_goals exact ⟨rfl, rfl⟩

theorem Changes.samePhase (h : Changes false ln s t) : SamePhase s t := by
  induction h with
  | refl => exact .refl s
  | tail _ hstep ih => exact ih.trans hstep.samePhase

theorem SamePhase.receiveLaws (h : SamePhase s t) (hs : s.ReceiveLaws)
    (hcounting : ∀ (n : LegNo) k, t.legs[n] = some k → k.state.counts = true →
      ∃ l, s.legs[n] = some l ∧ l.state.counts = true ∧ k.rxAssembly = l.rxAssembly) : t.ReceiveLaws where
  hunt hhunt := by
    rw [h.blockEnded, h.slipMark]
    exact hs.hunt (h.mode.symm.trans hhunt)
  presync p hp := by
    have hpresync := hs.presync p (h.mode.symm.trans hp)
    exact ⟨h.aligned hpresync.1, h.slipMark.trans hpresync.2⟩
  sync p hp := h.aligned (hs.sync p (h.mode.symm.trans hp))
  counting n k hk hc := by
    obtain ⟨l, hl, hcl, hassembly⟩ := hcounting n k hk hc
    rw [h.mode, hassembly, h.blockFrames]
    exact hs.counting n l hl hcl

theorem Change.receiveLaws (h : Change false ln s t) (hs : s.ReceiveLaws) : t.ReceiveLaws := by
  obtain ⟨o, hfate⟩ := h.fate
  exact h.samePhase.receiveLaws hs fun n k hk hc => (hk ▸ hfate n).counting hc

theorem Changes.receiveLaws (h : Changes false ln s t) (hs : s.ReceiveLaws) : t.ReceiveLaws := h.keeps Change.receiveLaws hs

/-! ### What a line frame is taken in -/

theorem samePhase_takeBlocks (s : State) (ld : Option LegNo) (st : Bool) : SamePhase s (s.takeBlocks ld st) := by
  rw [State.takeBlocks_frame]
  exact ⟨rfl, rfl⟩

theorem samePhase_completeValid (s : State) (cell : TrunkCell) : SamePhase s (s.completeValid cell) := by
  have hcleared : SamePhase s { s with framer := { s.framer with badRun := 0 } } := ⟨rfl, rfl⟩
  exact (hcleared.trans (samePhase_actOnCell _ cell)).trans (samePhase_takeBlocks _ _ _)

theorem blockEnded_badCell (he : s.framer.blockEnded = false) : (s.badCell p).framer.blockEnded = false := by
  unfold State.badCell
  dsimp only
  split
  · rfl
  · exact he

/-- R83: no block waits for its completion once the completion is taken. -/
theorem blockEnded_completeBlock (s : State) : s.completeBlock.framer.blockEnded = false := by
  have htake (u : State) (hu : u.framer.blockEnded = false) (ld : Option LegNo) (st : Bool) :
      (u.takeBlocks ld st).framer.blockEnded = false := (samePhase_takeBlocks u ld st).blockEnded.trans hu
  unfold State.completeBlock
  split
  · split
    · rfl
    · unfold State.completePresync
      split
      · rw [(samePhase_completeValid _ _).blockEnded]
        rfl
      · rfl
    · unfold State.completeSync
      dsimp only
      split
      · split
        · rw [(samePhase_completeValid _ _).blockEnded]
          rfl
        · exact htake _ (blockEnded_badCell rfl) _ _
      · split
        · exact htake _ rfl _ _
        · exact htake _ (blockEnded_badCell rfl) _ _
  next he => exact Bool.eq_false_of_not_eq_true he

theorem completeBlock_idle (he : s.framer.blockEnded = false) : s.completeBlock = s := by
  rw [State.completeBlock, he]
  rfl

theorem samePhase_blockStart (he : s.framer.blockEnded = false) : SamePhase s s.blockStart := by
  rw [State.blockStart_eq]
  split
  · rw [completeBlock_idle he]
    exact (changes_started (ln := true) s).samePhase
  · exact .refl s

theorem samePhase_applyCommit (s : State) : SamePhase s s.applyCommit := by
  rcases s.applyCommit_cases with hidle | ⟨entries, reply, -, hchanges, happly⟩
  · rw [hidle]
    exact .refl s
  · rw [happly]
    exact ⟨hchanges.samePhase.framer, hchanges.samePhase.framePos⟩

theorem samePhase_foldl {α : Type} {f : State → α → State} (hf : ∀ s a, Changes false true s (f s a)) (l : List α)
    (s : State) : SamePhase s (l.foldl f s) := (Changes.foldl hf l s).samePhase

theorem samePhase_blockStartWork (s : State) : SamePhase s s.blockStartWork := by
  unfold State.blockStartWork
  have hscrambled := samePhase_foldl changes_scrambleLeg (List.finRange 32) s
  have hdeparted := (changes_trunkDeparture (rx := false) (ln := true) ((List.finRange 32).foldl State.scrambleLeg s)).samePhase
  refine .trans ?_ (samePhase_applyCommit _)
  refine .trans ?_ (samePhase_foldl changes_governConf _ _)
  refine .trans ?_ (samePhase_foldl changes_refreshExpiry _ _)
  refine .trans ?_ (samePhase_foldl changes_barExpiry _ _)
  refine .trans ?_ (samePhase_foldl changes_answerExpiry _ _)
  refine .trans ?_ (changes_admissionArrival _).samePhase
  refine .trans ?_ (changes_admissionDeparture (ln := true) _).samePhase
  exact hscrambled.trans hdeparted

/-- R2, R42: no block waits for its completion when the slots of a line frame are taken. -/
theorem blockEnded_settle (s : State) : s.settle.framer.blockEnded = false := by
  have hcompleted := blockEnded_completeBlock s
  unfold State.settle
  dsimp only
  split
  · exact (samePhase_blockStartWork _).blockEnded.trans ((samePhase_blockStart hcompleted).blockEnded.trans hcompleted)
  · exact hcompleted

/-! ### Slips (R85, R86) -/

/-- The receive laws of a framer and the legs, the next line frame having a position. -/
structure ReceiveSide (pos : Position) (f : Framer) (legs : Vector (Option Leg) 32) : Prop where
  hunt : f.mode = .hunt → f.blockEnded = false ∧ f.slipMark = 0
  presync : ∀ p, f.mode = .presync p → f.Aligned pos p ∧ f.slipMark = 0
  sync : ∀ p, f.mode = .sync p → f.Aligned pos p
  counting : ∀ (n : LegNo) l, legs[n] = some l → l.state.counts = true →
    (∃ p, f.mode = .sync p) ∧ l.rxAssembly.length = f.blockFrames

theorem State.receiveLaws_iff : s.ReceiveLaws ↔ ReceiveSide s.line.framePos s.framer s.legs :=
  ⟨fun h => ⟨h.hunt, h.presync, h.sync, h.counting⟩, fun h => ⟨h.hunt, h.presync, h.sync, h.counting⟩⟩

theorem State.ReceiveLaws.congr (hs : s.ReceiveLaws) (hpos : t.line.framePos = s.line.framePos)
    (hf : t.framer = s.framer) (hl : t.legs = s.legs) : t.ReceiveLaws := by
  rw [State.receiveLaws_iff, hpos, hf, hl]
  exact State.receiveLaws_iff.1 hs

variable {legs : Vector (Option Leg) 32}

/-- R85, R86: a slip while no block waits for its completion. -/
theorem ReceiveSide.slip (h : ReceiveSide pos f legs) (he : f.blockEnded = false) (d : SlipDirection) :
    ReceiveSide pos (f.slip d) (f.mode.slipLegs legs) := by
  cases hmode : f.mode with
  | hunt =>
    rw [Framer.slip_of_hunt hmode]
    exact h
  | presync p =>
    rw [Framer.slip_of_presync hmode]
    refine ⟨fun _ => ⟨rfl, rfl⟩, fun _ h => (nomatch h), fun _ h => (nomatch h), fun n k hk hc => ?_⟩
    have hk' : (emptyAssemblies legs)[n] = some k := hk
    rw [getElem_emptyAssemblies] at hk'
    obtain ⟨l, hl, rfl⟩ := Option.map_eq_some_iff.1 hk'
    obtain ⟨⟨q, hq⟩, -⟩ := h.counting n l hl hc
    nomatch hmode.symm.trans hq
  | sync p =>
    obtain ⟨q, hq, haligned, hframes⟩ := (h.sync p hmode).slip (d := d) hmode he
    refine ⟨fun h => ?_, fun r h => ?_, fun r h => ?_, fun n l hl hc => ⟨⟨q, hq⟩, ?_⟩⟩
    · nomatch hq.symm.trans h
    · nomatch hq.symm.trans h
    · cases hq.symm.trans h
      exact haligned
    · exact (h.counting n l hl hc).2.trans hframes.symm

theorem blockEnded_slip_minus (he : f.blockEnded = false) : (f.slip .minus).blockEnded = false := by
  cases hmode : f.mode with
  | hunt =>
    rw [Framer.slip_of_hunt hmode]
    exact he
  | presync p =>
    rw [Framer.slip_of_presync hmode]
    rfl
  | sync p =>
    by_cases hmark : f.slipMark = 0
    · rw [Framer.slip_minus_of_sync hmode hmark]
      exact he
    · rw [Framer.slip_of_sync_marked hmode hmark]
      exact he

theorem receiveLaws_trunkArrival (f : Frame) (hs : s.ReceiveLaws) : (s.trunkArrival f).ReceiveLaws := by
  have hcompleted := State.receiveLaws_iff.1 (receiveLaws_completeBlock hs)
  unfold State.trunkArrival
  split
  · exact hs
  · dsimp only
    split
    · exact State.receiveLaws_iff.2 hcompleted
    · rw [State.handleSlip_eq]
      exact State.receiveLaws_iff.2 (hcompleted.slip (blockEnded_completeBlock s) .plus)

/-! ### Line frames (R40, R80, R81) -/

/-- R40: a delivered frame handed inward while no block waits for its completion. -/
theorem ReceiveSide.deliver (h : ReceiveSide pos f legs) (he : f.blockEnded = false) (frame : Frame) :
    ReceiveSide (pos + 1) (f.deliver pos frame[0])
      (if f.mode ≠ .hunt then Vector.ofFn fun n => (legs[n]).map (Leg.gatherReceive frame) else legs) := by
  cases hmode : f.mode with
  | hunt =>
    obtain ⟨-, hmark⟩ := h.hunt hmode
    have hnone (n : LegNo) (l : Leg) (hl : legs[n] = some l) (hc : l.state.counts = true) : False := by
      obtain ⟨⟨q, hq⟩, -⟩ := h.counting n l hl hc
      nomatch hmode.symm.trans hq
    rw [if_neg (fun h => h rfl)]
    unfold Framer.deliver
    rw [hmode]
    dsimp only
    split
    next hfound =>
      refine ⟨fun h => (nomatch h), fun p hp => ?_, fun _ h => (nomatch h), fun n l hl hc => (hnone n l hl hc).elim⟩
      cases hp
      refine ⟨⟨?_, ?_, Nat.zero_le _, rfl, .inl ⟨rfl, rfl⟩⟩, rfl⟩
      · by_contra hlength
        rw [parseTrunkCell_of_length hlength] at hfound
        nomatch hfound
      · show ((pos + 1).val + 0 + 16 - 8) % 8 = (pos + 1).val
        have := (pos + 1).isLt
        omega
    next =>
      exact ⟨fun _ => ⟨he, hmark⟩, fun p hp => (nomatch hp), fun p hp => (nomatch hp),
        fun n l hl hc => (hnone n l hl hc).elim⟩
  | presync p =>
    obtain ⟨haligned, hmark⟩ := h.presync p hmode
    obtain ⟨hnext, hkept, -, hmark'⟩ := haligned.deliver (.inl hmode) he pos frame[0]
    rw [if_pos nofun]
    refine ⟨fun h => ?_, fun q hq => ?_, fun q hq => ?_, fun n k hk hc => ?_⟩
    · nomatch (hkept.trans hmode).symm.trans h
    · cases (hkept.trans hmode).symm.trans hq
      exact ⟨hnext, hmark'.trans hmark⟩
    · nomatch (hkept.trans hmode).symm.trans hq
    · rw [getElem_ofFn_fin] at hk
      obtain ⟨l, hl, rfl⟩ := Option.map_eq_some_iff.1 hk
      have hstate : (l.gatherReceive frame).state = l.state := by
        unfold Leg.gatherReceive
        split <;> rfl
      obtain ⟨⟨q, hq⟩, -⟩ := h.counting n l hl (hstate ▸ hc)
      nomatch hmode.symm.trans hq
  | sync p =>
    obtain ⟨hnext, hkept, hframes, -⟩ := (h.sync p hmode).deliver (.inr hmode) he pos frame[0]
    rw [if_pos nofun]
    refine ⟨fun h => ?_, fun q hq => ?_, fun q hq => ?_, fun n k hk hc => ⟨⟨p, hkept.trans hmode⟩, ?_⟩⟩
    · nomatch (hkept.trans hmode).symm.trans h
    · nomatch (hkept.trans hmode).symm.trans hq
    · cases (hkept.trans hmode).symm.trans hq
      exact hnext
    · rw [getElem_ofFn_fin] at hk
      obtain ⟨l, hl, rfl⟩ := Option.map_eq_some_iff.1 hk
      unfold Leg.gatherReceive at hc ⊢
      split at hc
      next ho =>
        rw [if_pos ho]
        dsimp only
        rw [List.length_append, List.length_singleton, hframes, (h.counting n l hl hc).2]
      next ho => exact absurd (LegState.isOpen_of_counts hc) ho

theorem State.fixMixingSets_frame (s : State) : s.fixMixingSets = { s with confs := s.fixMixingSets.confs } := by
  unfold State.fixMixingSets
  split <;> rfl

theorem LinePort.framePos_nextFrame (b : Byte) (p : LinePort) : (p.takeSlot0 b).nextFrame.framePos = p.framePos + 1 := by
  unfold LinePort.takeSlot0
  dsimp only
  split <;> rfl

/-- R38, R42: the slots of a line frame leave the framer and the legs' receive assemblies alone. -/
theorem receiveSide_frameSlots (lineIn : Frame) (h : ReceiveSide s.line.framePos s.framer s.legs) :
    ReceiveSide s.line.framePos (s.frameSlots lineIn).framer (s.frameSlots lineIn).legs := by
  have hfixed : ReceiveSide s.line.framePos s.fixMixingSets.framer s.fixMixingSets.legs := by
    rw [State.fixMixingSets_frame]
    exact h
  unfold State.frameSlots
  refine ⟨hfixed.hunt, hfixed.presync, hfixed.sync, fun n k hk hc => ?_⟩
  dsimp only at hk
  rw [getElem_ofFn_fin] at hk
  obtain ⟨l, hl, rfl⟩ := Option.map_eq_some_iff.1 hk
  exact hfixed.counting n l hl hc

theorem framer_frameSlots (lineIn : Frame) (s : State) : (s.frameSlots lineIn).framer = s.framer := by
  have : s.fixMixingSets.framer = s.framer := by rw [State.fixMixingSets_frame]
  exact this

theorem framePos_frameSlots (lineIn : Frame) (s : State) : (s.frameSlots lineIn).line.framePos = s.line.framePos + 1 := by
  have hfixed : s.fixMixingSets.line = s.line := by rw [State.fixMixingSets_frame]
  unfold State.frameSlots
  dsimp only
  rw [LinePort.framePos_nextFrame]
  show s.fixMixingSets.line.framePos + 1 = s.line.framePos + 1
  rw [hfixed]

/-- R9, R11: the frame delivered, with the slip of a read from an empty primed store. -/
theorem receiveSide_deliver (trunkIn : Frame) (h : ReceiveSide pos s.framer s.legs) (he : s.framer.blockEnded = false) :
    ReceiveSide pos (s.deliver trunkIn).framer (s.deliver trunkIn).legs ∧ (s.deliver trunkIn).framer.blockEnded = false ∧
      (s.deliver trunkIn).line = s.line := by
  unfold State.deliver
  split
  · exact ⟨h, he, rfl⟩
  · split
    · exact ⟨h, he, rfl⟩
    · split
      · rw [State.handleSlip_eq]
        exact ⟨h.slip he .minus, blockEnded_slip_minus he, rfl⟩
      · exact ⟨h, he, rfl⟩

theorem receiveLaws_lineFrame (lineIn trunkIn : Frame) (s : State) (hs : s.settle.ReceiveLaws) :
    (s.lineFrame lineIn trunkIn).ReceiveLaws := by
  have he : (s.settle.frameSlots lineIn).framer.blockEnded = false := by
    rw [framer_frameSlots]
    exact blockEnded_settle s
  have hslots := receiveSide_frameSlots lineIn (State.receiveLaws_iff.1 hs)
  obtain ⟨hdelivered, hended, hline⟩ := receiveSide_deliver trunkIn hslots he
  have hside := hdelivered.deliver hended ((s.settle.frameSlots lineIn).deliver trunkIn).trunk.lastDelivered
  rw [← framePos_frameSlots lineIn s.settle, ← hline] at hside
  exact State.receiveLaws_iff.2 hside

/-! ### The step -/

theorem receiveLaws_blockStart (hs : s.ReceiveLaws) : s.blockStart.ReceiveLaws := by
  rw [State.blockStart_eq]
  split
  · exact (changes_started (ln := true) _).receiveLaws (receiveLaws_completeBlock hs)
  · exact hs

theorem receiveLaws_empty (hmode : s.framer = Framer.reset) (hlegs : ∀ n : LegNo, s.legs[n] = none) : s.ReceiveLaws := by
  refine ⟨fun _ => ?_, fun p hp => ?_, fun p hp => ?_, fun n l hl => ?_⟩
  · rw [hmode]
    exact ⟨rfl, rfl⟩
  · rw [hmode] at hp
    nomatch hp
  · rw [hmode] at hp
    nomatch hp
  · rw [hlegs] at hl
    nomatch hl

theorem receiveLaws_takeFrame (code : Byte) (body : List Byte) (hs : s.ReceiveLaws) : (s.takeFrame code body).ReceiveLaws := by
  rcases State.takeFrame_cases code body s with hfull | ⟨out, -, handled, hout⟩
  · rw [hfull]
    exact hs
  · rw [hout]
    refine State.ReceiveLaws.congr (s := out.1) ?_ rfl rfl rfl
    cases handled with
    | done hdone => exact hdone.1.receiveLaws hs
    | commit _ => exact hs.congr rfl rfl rfl
    | restarted => exact receiveLaws_empty rfl fun n => Vector.getElem_replicate _

theorem receiveLaws_kept : Kept State.ReceiveLaws where
  completion := receiveLaws_completeBlock
  frame lineIn trunkIn := receiveLaws_lineFrame lineIn trunkIn _
  arrival f := receiveLaws_trunkArrival f
  start := receiveLaws_blockStart
  scramble n := (changes_scrambleLeg (ln := true) _ n).receiveLaws
  trunkDeparture := (changes_trunkDeparture (ln := true) _).receiveLaws
  admissionDeparture := (changes_admissionDeparture (ln := true) _).receiveLaws
  admissionArrival := (changes_admissionArrival _).receiveLaws
  answerExpiry h := (changes_answerExpiry _ h).receiveLaws
  barExpiry h := (changes_barExpiry (ln := true) _ h).receiveLaws
  refreshExpiry h := (changes_refreshExpiry (ln := true) _ h).receiveLaws
  governor c := (changes_governConf (ln := true) _ c).receiveLaws
  apply {s} hs := by
    rcases s.applyCommit_cases with hidle | ⟨entries, reply, -, hchanges, happly⟩
    · rw [hidle]
      exact hs
    · rw [happly]
      exact (hchanges.receiveLaws hs).congr rfl rfl rfl
  request code body := receiveLaws_takeFrame code body
  answer _ _ hs := hs.congr rfl rfl rfl
  assembly _ hs := hs.congr rfl rfl rfl
  replyDeparture hs := hs.congr rfl rfl rfl
  assert hs h := by
    cases h
    exact hs.congr rfl rfl rfl
  release _ h := by
    cases h
    exact receiveLaws_empty rfl fun n => Vector.getElem_replicate _

/-- Settles O59: the completions, the slips and the line frames by hand; everything else leaves the receive side alone. -/
theorem stepsKeepTheReceiveSide : Obligations.StepsKeepTheReceiveSide := by
  unfold Obligations.StepsKeepTheReceiveSide
  intro s t hs h
  exact receiveLaws_kept.step (fun _ hs => hs.congr rfl rfl rfl) hs h

end Sys2Proof.Machine
end

section
/-! PROOFS. The line side seen from afar (R7, R51, R52, R105, R146): where the legs stand, who the conferences hold and
what the line slot output map names; the accord of these, and each of the moves that keep it. -/

namespace Sys2Proof.Machine

/-- What the laws of the line side see: each leg's openness, owner and endpoint; each conference's members and chair;
the map. -/
@[ext] structure LineView where
  place : LegNo → Option (Bool × Handle × Endpoint)
  members : ConfNo → List Member
  chair : ConfNo → Option Handle
  map : Slot → SlotSource

/-- Who is admitted, with the bound slot and the class. -/
abbrev Roster := Handle → Option (Slot × ExtClass)

/-- An extension of the roster whose class meets a test. -/
def Roster.Has (who : Roster) (h : Handle) (p : ExtClass → Bool) : Prop := ∃ k c, who h = some (k, c) ∧ p c = true

/-- R7, R51, R52, R105, R146: legs, conferences and map in accord with a roster. -/
structure LineView.Accord (who : Roster) (v : LineView) : Prop where
  slots : ∀ h h' k c c', who h = some (k, c) → who h' = some (k, c') → h = h'
  owners : ∀ n h e, v.place n = some (true, h, e) → who.Has h (·.mayScramble)
  pool : ((List.finRange 8).map fun c => (v.members c).length).sum ≤ Config.poolRoom
  room : ∀ c, (v.members c).length ≤ Config.memberRoom
  once : ∀ c, (v.members c).Nodup
  onlyOnce : ∀ c d m, m ∈ v.members c → m ∈ v.members d → c = d
  legs : ∀ c n, .leg n ∈ v.members c ↔ ∃ h, v.place n = some (true, h, .conference c)
  locals : ∀ c h, .loc h ∈ v.members c → who.Has h (·.mayConference)
  chairs : ∀ c h, v.chair c = some h → who.Has h (·.mayConference)
  mapLegs : ∀ k n, v.map k = .leg n ↔ ∃ h c, v.place n = some (true, h, .line) ∧ who h = some (k, c)
  mapConfs : ∀ k c, v.map k = .conference c ↔ ∃ h cl, .loc h ∈ v.members c ∧ who h = some (k, cl)
  parked : ∀ n h e, v.place n = some (false, h, e) → e = .parked

namespace LineView

variable {who who' : Roster} {v : LineView} {n : LegNo} {c : ConfNo} {h : Handle} {k : Slot} {cl : ExtClass}

/-! ### Moves -/

def setPlace (v : LineView) (n : LegNo) (p : Option (Bool × Handle × Endpoint)) : LineView :=
  { v with place := fun m => if m = n then p else v.place m }

def setMap (v : LineView) (k : Slot) (x : SlotSource) : LineView := { v with map := fun j => if j = k then x else v.map j }

def setMembers (v : LineView) (c : ConfNo) (l : List Member) : LineView :=
  { v with members := fun d => if d = c then l else v.members d }

def setChair (v : LineView) (c : ConfNo) (x : Option Handle) : LineView :=
  { v with chair := fun d => if d = c then x else v.chair d }

namespace Accord

/-- A leg outside the line and the conferences stays outside them: opened, closed or freed while PARKED. -/
theorem setResting (a : v.Accord who) {p : Option (Bool × Handle × Endpoint)}
    (hold : ∀ b x e, v.place n = some (b, x, e) → e = .parked)
    (hnew : ∀ b x e, p = some (b, x, e) → e = .parked ∧ (b = true → who.Has x (·.mayScramble))) :
    (v.setPlace n p).Accord who := by
  have hplace (m : LegNo) (x : Handle) (e : Endpoint) (he : e ≠ .parked) :
      (v.setPlace n p).place m = some (true, x, e) ↔ v.place m = some (true, x, e) := by
    unfold setPlace
    grind
  exact { a with
    owners := fun m x e hm => by
      have := a.owners m x e
      unfold setPlace at hm
      grind
    legs := fun c m => by
      simp only [hplace m _ (.conference c) nofun]
      exact a.legs c m
    mapLegs := fun k m => by
      simp only [hplace m _ .line nofun]
      exact a.mapLegs k m
    parked := fun m x e hm => by
      have := a.parked m x e
      unfold setPlace at hm
      grind }

/-- R52: a LINE leg parked and its entry given up. -/
theorem parkLine (a : v.Accord who) (hp : v.place n = some (true, h, .line)) (hw : who h = some (k, cl)) :
    ((v.setPlace n (some (true, h, .parked))).setMap k .vacant).Accord who := by
  have hk : v.map k = .leg n := (a.mapLegs k n).2 ⟨h, cl, hp, hw⟩
  unfold setPlace setMap
  exact { a with
    owners := fun m x e hm => by
      have := a.owners m x
      grind
    legs := fun c m => by
      have := a.legs c m
      grind
    mapLegs := fun j m => by
      have := a.mapLegs j m
      have := a.slots
      grind
    mapConfs := fun j c => by
      have := a.mapConfs j c
      grind
    parked := fun m x e hm => by
      have := a.parked m x e
      grind }

/-- R56, R58: a PARKED leg given its owner's slot, which nothing else has. -/
theorem lineUp (a : v.Accord who) (hp : v.place n = some (true, h, .parked)) (hw : who h = some (k, cl))
    (hfree : v.map k = .vacant) : ((v.setPlace n (some (true, h, .line))).setMap k (.leg n)).Accord who := by
  unfold setPlace setMap
  exact { a with
    owners := fun m x e hm => by
      have := a.owners m x
      grind
    legs := fun c m => by
      have := a.legs c m
      grind
    mapLegs := fun j m => by
      have := a.mapLegs j m
      have := a.slots
      grind
    mapConfs := fun j c => by
      have := a.mapConfs j c
      grind
    parked := fun m x e hm => by
      have := a.parked m x e
      grind }

/-- R146: the places taken in all conferences, when one's list is replaced. -/
theorem sum_setMembers (v : LineView) (c : ConfNo) (l : List Member) :
    ((List.finRange 8).map fun d => ((v.setMembers c l).members d).length).sum + (v.members c).length =
      ((List.finRange 8).map fun d => (v.members d).length).sum + l.length := by
  rw [← Fin.sum_univ_def, ← Fin.sum_univ_def, ← Finset.add_sum_erase _ _ (Finset.mem_univ c),
    ← Finset.add_sum_erase _ (fun d => (v.members d).length) (Finset.mem_univ c)]
  have hrest : ∑ d ∈ Finset.univ.erase c, ((v.setMembers c l).members d).length =
      ∑ d ∈ Finset.univ.erase c, (v.members d).length :=
    Finset.sum_congr rfl fun d hd => congrArg List.length (if_neg (Finset.ne_of_mem_erase hd))
  have hc : (v.setMembers c l).members c = l := if_pos rfl
  rw [hrest, hc]
  omega

/-- R62, R152: a leg member taken out and parked. -/
theorem removeLeg (a : v.Accord who) (hp : v.place n = some (true, h, .conference c)) :
    ((v.setPlace n (some (true, h, .parked))).setMembers c ((v.members c).erase (.leg n))).Accord who := by
  have hlength : ((v.members c).erase (.leg n)).length ≤ (v.members c).length := List.length_erase_le
  have hsum := sum_setMembers v c ((v.members c).erase (.leg n))
  have hmem (m : Member) : m ∈ (v.members c).erase (.leg n) ↔ m ≠ .leg n ∧ m ∈ v.members c := (a.once c).mem_erase_iff
  have honce := (a.once c).erase (.leg n)
  have hpool := a.pool
  exact { a with
    pool := by
      show ((List.finRange 8).map fun d => ((v.setMembers c _).members d).length).sum ≤ _
      omega
    room := fun d => by
      have := a.room
      unfold setMembers setPlace
      grind
    once := fun d => by
      have := a.once d
      unfold setMembers setPlace
      grind
    onlyOnce := fun d d' m hd hd' => by
      have := a.onlyOnce d d' m
      unfold setMembers setPlace at hd hd'
      grind
    owners := fun m x e hm => by
      have := a.owners m x
      unfold setMembers setPlace at hm
      grind
    legs := fun d m => by
      have := a.legs d m
      have := a.legs c n
      unfold setMembers setPlace
      grind
    locals := fun d x hx => by
      have := a.locals d x
      unfold setMembers setPlace at hx
      grind
    mapLegs := fun j m => by
      have := a.mapLegs j m
      unfold setMembers setPlace
      grind
    mapConfs := fun j d => by
      have := a.mapConfs j d
      unfold setMembers setPlace
      grind
    parked := fun m x e hm => by
      have := a.parked m x e
      unfold setMembers setPlace at hm
      grind }

/-- R149, R150: a PARKED leg joined. -/
theorem addLeg (a : v.Accord who) (hp : v.place n = some (true, h, .parked)) (hroom : (v.members c).length < Config.memberRoom)
    (hpool : ((List.finRange 8).map fun c => (v.members c).length).sum < Config.poolRoom) :
    ((v.setPlace n (some (true, h, .conference c))).setMembers c (v.members c ++ [.leg n])).Accord who := by
  have hsum := sum_setMembers v c (v.members c ++ [.leg n])
  have hlength : (v.members c ++ [Member.leg n]).length = (v.members c).length + 1 := List.length_append
  have hnot (d : ConfNo) : Member.leg n ∉ v.members d := by
    rw [a.legs d n, hp]
    rintro ⟨_, h⟩
    nomatch h
  have honce := a.once c
  have hnodup : (v.members c ++ [Member.leg n]).Nodup := by
    rw [List.nodup_append]
    exact ⟨honce, List.nodup_singleton _, fun x hx y hy => by grind⟩
  have hmem (x : Member) : x ∈ v.members c ++ [Member.leg n] ↔ x ∈ v.members c ∨ x = .leg n := by
    rw [List.mem_append, List.mem_singleton]
  generalize v.members c ++ [Member.leg n] = after at hsum hlength hnodup hmem ⊢
  exact { a with
    pool := by
      show ((List.finRange 8).map fun d => ((v.setMembers c _).members d).length).sum ≤ _
      omega
    room := fun d => by
      have := a.room
      unfold setMembers setPlace
      grind
    once := fun d => by
      have := a.once d
      unfold setMembers setPlace
      grind
    onlyOnce := fun d d' m hd hd' => by
      have := a.onlyOnce d d' m
      unfold setMembers setPlace at hd hd'
      grind
    owners := fun m x e hm => by
      have := a.owners m x
      unfold setMembers setPlace at hm
      grind
    legs := fun d m => by
      have hd := a.legs d m
      have hdn := hnot d
      unfold setMembers setPlace
      by_cases hmn : m = n
      · subst hmn
        simp only [if_true, Option.some.injEq, Prod.mk.injEq, Endpoint.conference.injEq]
        grind
      · grind
    locals := fun d x hx => by
      have := a.locals d x
      unfold setMembers setPlace at hx
      grind
    mapLegs := fun j m => by
      have := a.mapLegs j m
      unfold setMembers setPlace
      grind
    mapConfs := fun j d => by
      have := a.mapConfs j d
      unfold setMembers setPlace
      grind
    parked := fun m x e hm => by
      have := a.parked m x e
      unfold setMembers setPlace at hm
      grind }

/-- R149, R151: a local handset joined, its slot its own so far nothing's. -/
theorem addLocal (a : v.Accord who) (hw : who h = some (k, cl)) (hmay : cl.mayConference = true)
    (hfree : v.map k = .vacant) (hroom : (v.members c).length < Config.memberRoom)
    (hpool : ((List.finRange 8).map fun c => (v.members c).length).sum < Config.poolRoom) :
    ((v.setMembers c (v.members c ++ [.loc h])).setMap k (.conference c)).Accord who := by
  have hsum := sum_setMembers v c (v.members c ++ [.loc h])
  have hlength : (v.members c ++ [Member.loc h]).length = (v.members c).length + 1 := List.length_append
  have hnot (d : ConfNo) : Member.loc h ∉ v.members d := by
    intro hmem
    have := (a.mapConfs k d).2 ⟨h, cl, hmem, hw⟩
    rw [hfree] at this
    nomatch this
  have honce := a.once c
  have hnodup : (v.members c ++ [Member.loc h]).Nodup := by
    rw [List.nodup_append]
    exact ⟨honce, List.nodup_singleton _, fun x hx y hy => by grind⟩
  have hmem (x : Member) : x ∈ v.members c ++ [Member.loc h] ↔ x ∈ v.members c ∨ x = .loc h := by
    rw [List.mem_append, List.mem_singleton]
  generalize v.members c ++ [Member.loc h] = after at hsum hlength hnodup hmem ⊢
  have hhas : who.Has h (·.mayConference) := ⟨k, cl, hw, hmay⟩
  exact { a with
    pool := by
      show ((List.finRange 8).map fun d => ((v.setMembers c _).members d).length).sum ≤ _
      omega
    room := fun d => by
      have := a.room
      unfold setMembers setMap
      grind
    once := fun d => by
      have := a.once d
      unfold setMembers setMap
      grind
    onlyOnce := fun d d' m hd hd' => by
      have := a.onlyOnce d d' m
      unfold setMembers setMap at hd hd'
      grind
    legs := fun d m => by
      have := a.legs d m
      unfold setMembers setMap
      grind
    locals := fun d x hx => by
      have := a.locals d x
      unfold setMembers setMap at hx
      grind
    mapLegs := fun j m => by
      have := a.mapLegs j m
      unfold setMembers setMap
      grind
    mapConfs := fun j d => by
      have := a.mapConfs j d
      have := a.slots
      unfold setMembers setMap
      grind }

/-- R139, R152: a local handset taken out, its entry given up. -/
theorem removeLocal (a : v.Accord who) (hmem : .loc h ∈ v.members c) (hw : who h = some (k, cl)) :
    ((v.setMembers c ((v.members c).erase (.loc h))).setMap k .vacant).Accord who := by
  have hlength : ((v.members c).erase (.loc h)).length ≤ (v.members c).length := List.length_erase_le
  have hsum := sum_setMembers v c ((v.members c).erase (.loc h))
  have hin (m : Member) : m ∈ (v.members c).erase (.loc h) ↔ m ≠ .loc h ∧ m ∈ v.members c := (a.once c).mem_erase_iff
  have honce := (a.once c).erase (.loc h)
  have hk : v.map k = .conference c := (a.mapConfs k c).2 ⟨h, cl, hmem, hw⟩
  have hpool := a.pool
  exact { a with
    pool := by
      show ((List.finRange 8).map fun d => ((v.setMembers c _).members d).length).sum ≤ _
      omega
    room := fun d => by
      have := a.room
      unfold setMembers setMap
      grind
    once := fun d => by
      have := a.once d
      unfold setMembers setMap
      grind
    onlyOnce := fun d d' m hd hd' => by
      have := a.onlyOnce d d' m
      unfold setMembers setMap at hd hd'
      grind
    legs := fun d m => by
      have := a.legs d m
      unfold setMembers setMap
      grind
    locals := fun d x hx => by
      have := a.locals d x
      unfold setMembers setMap at hx
      grind
    mapLegs := fun j m => by
      have := a.mapLegs j m
      unfold setMembers setMap
      grind
    mapConfs := fun j d => by
      have := a.mapConfs j d
      have := a.mapConfs k d
      have := a.slots
      have := a.onlyOnce c d
      unfold setMembers setMap
      grind }

/-- R147, R148: a chair set or gone. -/
theorem setChair (a : v.Accord who) {x : Option Handle} (hx : ∀ h, x = some h → who.Has h (·.mayConference)) :
    (v.setChair c x).Accord who :=
  { a with
    chairs := fun d h hd => by
      have := a.chairs d h
      unfold LineView.setChair at hd
      grind }

/-- An extension with no open leg, no place and no chair admitted, dropped or moved. -/
theorem reroster (a : v.Accord who) (hsame : ∀ x, x ≠ h → who' x = who x)
    (hslots : ∀ x x' k c c', who' x = some (k, c) → who' x' = some (k, c') → x = x')
    (hleg : ∀ n e, v.place n ≠ some (true, h, e)) (hloc : ∀ c, .loc h ∉ v.members c) (hchair : ∀ c, v.chair c ≠ some h) :
    v.Accord who' := by
  have hhas (x : Handle) (p : ExtClass → Bool) (hx : x ≠ h) (hp : who.Has x p) : who'.Has x p := by
    unfold Roster.Has at hp ⊢
    rw [hsame x hx]
    exact hp
  exact { a with
    slots := hslots
    owners := fun n x e hn => hhas x _ (fun hx => hleg n e (hx ▸ hn)) (a.owners n x e hn)
    locals := fun c x hx => hhas x _ (fun h => hloc c (h ▸ hx)) (a.locals c x hx)
    chairs := fun c x hx => hhas x _ (fun h => hchair c (h ▸ hx)) (a.chairs c x hx)
    mapLegs := fun k n => by
      have := a.mapLegs k n
      grind
    mapConfs := fun k c => by
      have := a.mapConfs k c
      grind }

end Accord
end LineView

end Sys2Proof.Machine
end

section
/-! PROOFS. The state's view of the line side, and what each operation makes of it. -/

namespace Sys2Proof.Machine

variable {s t : State} {n m : LegNo} {l : Leg} {c d : ConfNo} {h : Handle} {k : Slot} {r : ExtRecord} {cl : ExtClass}
  {who : Roster} {v : LineView}

/-! ### The view of a state -/

/-- Where a leg stands. -/
def Leg.place (l : Leg) : Bool × Handle × Endpoint := (l.state.isOpen, l.owner, l.endpoint)

def State.view (s : State) : LineView where
  place n := (s.legs[n]).map Leg.place
  members := s.membersOf
  chair c := (s.confs[c]).bind (·.chair)
  map k := s.line.outMap[k]

/-- The slot and the class of an admitted extension. -/
def ExtRecord.admission (r : ExtRecord) : Option (Slot × ExtClass) :=
  if r.state.isAdmitted then r.state.slot?.map fun k => (k, r.cls) else none

def State.roster (s : State) : Roster := fun h => (s.record h).bind ExtRecord.admission

theorem Admission.slot_of_isAdmitted {a : Admission} (h : a.isAdmitted = true) : ∃ k, a.slot? = some k := by
  cases a with
  | admitted k _ => exact ⟨k, rfl⟩
  | refreshing k _ _ => exact ⟨k, rfl⟩
  | idle | challenged | barred | suspended => nomatch h

theorem ExtRecord.admission_eq_some : r.admission = some (k, cl) ↔
    r.state.isAdmitted = true ∧ r.state.slot? = some k ∧ r.cls = cl := by
  unfold ExtRecord.admission
  split
  next h => simp [h]
  next h => simp [h]

theorem State.roster_eq_some : s.roster h = some (k, cl) ↔
    ∃ r, s.record h = some r ∧ r.state.isAdmitted = true ∧ r.state.slot? = some k ∧ r.cls = cl := by
  simp only [State.roster, Option.bind_eq_some_iff, ExtRecord.admission_eq_some]

theorem State.boundSlot_of_roster (hw : s.roster h = some (k, cl)) : s.boundSlot h = some k := by
  obtain ⟨r, hr, -, hslot, -⟩ := State.roster_eq_some.1 hw
  exact State.boundSlot_eq_some.2 ⟨r, hr, hslot⟩

theorem State.roster_has {p : ExtClass → Bool} : s.roster.Has h p ↔ s.admittedWith h p = true := by
  rw [State.admittedWith, Option.any_eq_true]
  constructor
  · rintro ⟨k, c, hw, hp⟩
    obtain ⟨r, hr, hadm, -, rfl⟩ := State.roster_eq_some.1 hw
    exact ⟨r, hr, by rw [hadm, hp]; rfl⟩
  · rintro ⟨r, hr, hp⟩
    rw [Bool.and_eq_true] at hp
    obtain ⟨k, hk⟩ := Admission.slot_of_isAdmitted hp.1
    exact ⟨k, r.cls, State.roster_eq_some.2 ⟨r, hr, hp.1, hk, rfl⟩, hp.2⟩

theorem State.place_eq_some {b : Bool} {e : Endpoint} : s.view.place n = some (b, h, e) ↔
    ∃ l, s.legs[n] = some l ∧ l.state.isOpen = b ∧ l.owner = h ∧ l.endpoint = e := by
  simp only [State.view, Option.map_eq_some_iff, Leg.place, Prod.mk.injEq]

/-- R7, R51, R52, R105, R146: the laws of the line side are the accord of its view with the roster. -/
theorem State.lineLaws_iff : s.LineLaws ↔ s.RecordsDistinct ∧ s.view.Accord s.roster := by
  have hclearing (l : Leg) : l.state.isClearing = true ↔ l.state.isOpen = false := by
    rw [LegState.isClearing_eq, Bool.not_eq_true']
  constructor
  · intro hs
    refine ⟨hs.records, ?_⟩
    have howner (n : LegNo) (l : Leg) (hl : s.legs[n] = some l) (ho : l.state.isOpen = true) :=
      State.roster_has.2 (hs.owners n l hl ho)
    have hbound (x : Handle) (k : Slot) {p : ExtClass → Bool} (hx : s.roster.Has x p) (hk : s.boundSlot x = some k) :
        ∃ c, s.roster x = some (k, c) := by
      obtain ⟨k', c, hw, -⟩ := hx
      cases (State.boundSlot_of_roster hw).symm.trans hk
      exact ⟨c, hw⟩
    refine ⟨fun h h' k c c' hc hc' => ?_, fun n h e hn => ?_, hs.members.pool, hs.members.room, hs.members.once,
      hs.members.onlyOnce, fun c n => ?_, fun c h hm => State.roster_has.2 (hs.members.locals c h hm), fun c h hc => ?_,
      fun k n => ?_, fun k c => ?_, fun n h e hn => ?_⟩
    · exact hs.records.slots h h' k (State.boundSlot_of_roster hc) (State.boundSlot_of_roster hc')
    · obtain ⟨l, hl, ho, rfl, -⟩ := State.place_eq_some.1 hn
      exact howner n l hl ho
    · simp only [State.place_eq_some]
      rw [show Member.leg n ∈ s.view.members c ↔ _ from hs.members.legs c n]
      exact ⟨fun ⟨l, hl, ho, he⟩ => ⟨l.owner, l, hl, ho, rfl, he⟩, fun ⟨_, l, hl, ho, _, he⟩ => ⟨l, hl, ho, he⟩⟩
    · obtain ⟨k, hk, hchair⟩ := Option.bind_eq_some_iff.1 hc
      exact State.roster_has.2 (hs.members.chairs c k h hk hchair)
    · simp only [State.place_eq_some]
      rw [show s.view.map k = .leg n ↔ _ from hs.map.legs k n]
      constructor
      · rintro ⟨l, hl, ho, he, hk⟩
        obtain ⟨c, hw⟩ := hbound _ _ (howner n l hl ho) hk
        exact ⟨l.owner, c, ⟨l, hl, ho, rfl, he⟩, hw⟩
      · rintro ⟨_, c, ⟨l, hl, ho, rfl, he⟩, hw⟩
        exact ⟨l, hl, ho, he, State.boundSlot_of_roster hw⟩
    · rw [show s.view.map k = .conference c ↔ _ from hs.map.conferences k c]
      constructor
      · rintro ⟨x, hm, hk⟩
        obtain ⟨cl, hw⟩ := hbound _ _ (State.roster_has.2 (hs.members.locals c x hm)) hk
        exact ⟨x, cl, hm, hw⟩
      · rintro ⟨x, cl, hm, hw⟩
        exact ⟨x, hm, State.boundSlot_of_roster hw⟩
    · obtain ⟨l, hl, ho, -, rfl⟩ := State.place_eq_some.1 hn
      exact hs.parked n l hl ((hclearing l).2 ho)
  · rintro ⟨hrecords, a⟩
    have hplace (n : LegNo) (l : Leg) (hl : s.legs[n] = some l) (ho : l.state.isOpen = true) :
        s.view.place n = some (true, l.owner, l.endpoint) := State.place_eq_some.2 ⟨l, hl, ho, rfl, rfl⟩
    have hbound (x : Handle) (k : Slot) {p : ExtClass → Bool} (hx : s.roster.Has x p) (hk : s.boundSlot x = some k) :
        ∃ c, s.roster x = some (k, c) := by
      obtain ⟨k', c, hw, -⟩ := hx
      cases (State.boundSlot_of_roster hw).symm.trans hk
      exact ⟨c, hw⟩
    refine ⟨hrecords, fun n l hl ho => State.roster_has.1 (a.owners n _ _ (hplace n l hl ho)),
      ⟨a.pool, a.room, a.once, a.onlyOnce, fun c n => ?_, fun c h hm => State.roster_has.1 (a.locals c h hm),
        fun c k h hk hc => State.roster_has.1 (a.chairs c h (Option.bind_eq_some_iff.2 ⟨k, hk, hc⟩))⟩,
      ⟨fun k n => ?_, fun k c => ?_⟩, fun n l hl hc => ?_⟩
    · rw [show Member.leg n ∈ s.membersOf c ↔ _ from a.legs c n]
      simp only [State.place_eq_some]
      exact ⟨fun ⟨_, l, hl, ho, _, he⟩ => ⟨l, hl, ho, he⟩, fun ⟨l, hl, ho, he⟩ => ⟨l.owner, l, hl, ho, rfl, he⟩⟩
    · rw [show s.line.outMap[k] = .leg n ↔ _ from a.mapLegs k n]
      simp only [State.place_eq_some]
      constructor
      · rintro ⟨_, c, ⟨l, hl, ho, rfl, he⟩, hw⟩
        exact ⟨l, hl, ho, he, State.boundSlot_of_roster hw⟩
      · rintro ⟨l, hl, ho, he, hk⟩
        obtain ⟨c, hw⟩ := hbound _ _ (a.owners n _ _ (hplace n l hl ho)) hk
        exact ⟨l.owner, c, ⟨l, hl, ho, rfl, he⟩, hw⟩
    · rw [show s.line.outMap[k] = .conference c ↔ _ from a.mapConfs k c]
      constructor
      · rintro ⟨x, cl, hm, hw⟩
        exact ⟨x, hm, State.boundSlot_of_roster hw⟩
      · rintro ⟨x, hm, hk⟩
        obtain ⟨cl, hw⟩ := hbound _ _ (a.locals c x hm) hk
        exact ⟨x, cl, hm, hw⟩
    · exact a.parked n l.owner l.endpoint (State.place_eq_some.2 ⟨l, hl, (hclearing l).1 hc, rfl, rfl⟩)

end Sys2Proof.Machine
end

section
/-! PROOFS. The moves of the line side made by the operations that several takings share: parking, clearing, the closing
path of a conference. -/

namespace Sys2Proof.Machine

variable {s t : State} {n m : LegNo} {l : Leg} {c d : ConfNo} {h : Handle} {k : Slot} {r : ExtRecord} {cl : ExtClass}
  {who : Roster} {v : LineView}

/-! ### The view of a written state -/

theorem State.view_eq (hplace : ∀ n : LegNo, (t.legs[n]).map Leg.place = v.place n)
    (hmembers : ∀ c, t.membersOf c = v.members c) (hchair : ∀ c : ConfNo, (t.confs[c]).bind (·.chair) = v.chair c)
    (hmap : ∀ k : Slot, t.line.outMap[k] = v.map k) : t.view = v :=
  LineView.ext (funext hplace) (funext hmembers) (funext hchair) (funext hmap)

theorem State.view_congr (hl : t.legs = s.legs) (hc : t.confs = s.confs) (hm : t.line.outMap = s.line.outMap) :
    t.view = s.view := by
  refine State.view_eq (fun n => ?_) (fun c => ?_) (fun c => ?_) fun k => ?_
  · rw [hl]; rfl
  · rw [State.membersOf, hc]; rfl
  · rw [hc]; rfl
  · rw [hm]; rfl

theorem State.view_notify (s : State) (kind : NoticeKind) (subject : Nat) (detail : Half) :
    (s.notify kind subject detail).view = s.view := State.view_congr (s := s) rfl rfl rfl

theorem State.roster_congr (he : t.ext = s.ext) : t.roster = s.roster := by
  funext x
  rw [State.roster, State.roster, State.record_congr he]

theorem State.place_setLeg (s : State) (n m : LegNo) (x : Option Leg) :
    ((s.legs.set n x)[m]).map Leg.place = (s.view.setPlace n (x.map Leg.place)).place m := by
  rw [getElem_set_fin]
  unfold LineView.setPlace
  by_cases hnm : n = m
  · simp only [if_pos hnm, if_pos hnm.symm]
  · simp only [if_neg hnm, if_neg (Ne.symm hnm)]
    rfl

theorem State.view_setLeg (s : State) (n : LegNo) (x : Option Leg) :
    (s.setLeg n x).view = s.view.setPlace n (x.map Leg.place) :=
  State.view_eq (s.place_setLeg n · x) (fun _ => rfl) (fun _ => rfl) fun _ => rfl

/-- The members a conference's record holds, none when it is FREE. -/
theorem State.membersOf_eq (s : State) (c : ConfNo) : s.membersOf c = ((s.confs[c]).map (·.members)).getD [] := by
  unfold State.membersOf
  cases s.confs[c] <;> rfl

theorem State.membersOf_some {q : Conf} (hq : s.confs[c] = some q) : s.membersOf c = q.members := by
  rw [State.membersOf_eq, hq]
  rfl

theorem State.view_setConf (s : State) (c : ConfNo) (x : Option Conf) :
    (s.setConf c x).view = (s.view.setMembers c ((x.map (·.members)).getD [])).setChair c (x.bind (·.chair)) := by
  refine State.view_eq (fun _ => rfl) (fun d => ?_) (fun d => ?_) fun _ => rfl
  · rw [State.membersOf_eq]
    unfold State.setConf LineView.setMembers LineView.setChair
    dsimp only
    rw [getElem_set_fin]
    by_cases hcd : c = d
    · simp only [if_pos hcd, if_pos hcd.symm]
    · simp only [if_neg hcd, if_neg (Ne.symm hcd)]
      exact (s.membersOf_eq d).symm
  · unfold State.setConf LineView.setMembers LineView.setChair
    dsimp only
    rw [getElem_set_fin]
    by_cases hcd : c = d
    · simp only [if_pos hcd, if_pos hcd.symm]
    · simp only [if_neg hcd, if_neg (Ne.symm hcd)]
      rfl

theorem State.view_setMap (s : State) (k : Slot) (x : SlotSource) :
    State.view { s with line := { s.line with outMap := s.line.outMap.set k x } } = s.view.setMap k x := by
  refine State.view_eq (fun _ => rfl) (fun _ => rfl) (fun _ => rfl) fun j => ?_
  rw [getElem_set_fin]
  unfold LineView.setMap
  by_cases hkj : k = j
  · simp only [if_pos hkj, if_pos hkj.symm]
  · simp only [if_neg hkj, if_neg (Ne.symm hkj)]
    rfl

theorem State.view_setSource (s : State) (k : Slot) (x : SlotSource) :
    State.view { s with line := s.line.setSource (some k) x } = s.view.setMap k x := s.view_setMap k x

/-- R7: an entry that names its source given up. -/
theorem State.view_release {x : SlotSource} (hk : s.view.map k = x) :
    State.view { s with line := s.line.release (some k) x } = s.view.setMap k .vacant := by
  rw [LinePort.release_named (show s.line.outMap[k] = x from hk)]
  exact s.view_setMap k .vacant

/-! ### Moves composed -/

namespace LineView

variable {p q : Option (Bool × Handle × Endpoint)}

@[simp] theorem setPlace_setPlace : (v.setPlace n p).setPlace n q = v.setPlace n q := by
  unfold setPlace
  ext1 <;> grind

@[simp] theorem setMap_setMap {x y : SlotSource} : (v.setMap k x).setMap k y = v.setMap k y := by
  unfold setMap
  ext1 <;> grind

@[simp] theorem setMembers_setMembers {l l' : List Member} : (v.setMembers c l).setMembers c l' = v.setMembers c l' := by
  unfold setMembers
  ext1 <;> grind

theorem setPlace_self (hp : v.place n = p) : v.setPlace n p = v := by
  unfold setPlace
  ext1 <;> grind

theorem setMap_self {x : SlotSource} (hk : v.map k = x) : v.setMap k x = v := by
  unfold setMap
  ext1 <;> grind

theorem setMembers_self {l : List Member} (hc : v.members c = l) : v.setMembers c l = v := by
  unfold setMembers
  ext1 <;> grind

theorem setChair_self {x : Option Handle} (hc : v.chair c = x) : v.setChair c x = v := by
  unfold setChair
  ext1 <;> grind

/-- Moves of different parts commute. -/
theorem setMap_setPlace {x : SlotSource} : (v.setMap k x).setPlace n p = (v.setPlace n p).setMap k x := rfl

theorem setMembers_setPlace {l : List Member} : (v.setMembers c l).setPlace n p = (v.setPlace n p).setMembers c l := rfl

theorem setMap_setMembers {x : SlotSource} {l : List Member} :
    (v.setMap k x).setMembers c l = (v.setMembers c l).setMap k x := rfl

end LineView

/-! ### The clearing path (R62) -/

theorem State.place_of (hl : s.legs[n] = some l) : s.view.place n = some (l.state.isOpen, l.owner, l.endpoint) := by
  show (s.legs[n]).map Leg.place = _
  rw [hl]
  rfl

/-- R62: what the clearing path makes of an open leg's line side. -/
theorem LineView.Accord.clearLeg (a : s.view.Accord who) (hl : s.legs[n] = some l) (ho : l.state.isOpen = true)
    (hw : who l.owner = some (k, cl)) (cause : CloseCause) : (s.clearLeg n cause (some k)).view.Accord who := by
  have hplace := State.place_of hl
  rw [ho] at hplace
  obtain ⟨hlegs, -, hline, hconfs⟩ := State.clearLeg_some cause (some k) hl
  have hclosed (m : LegNo) : ((s.clearLeg n cause (some k)).legs[m]).map Leg.place =
      (s.view.setPlace n (some (false, l.owner, .parked))).place m := by
    rw [hlegs]
    exact s.place_setLeg n m _
  have hresting {v : LineView} (a : v.Accord who) (hp : v.place n = some (true, l.owner, .parked)) :
      (v.setPlace n (some (false, l.owner, .parked))).Accord who :=
    a.setResting (fun b x e he => by rw [hp] at he; cases he; rfl) fun b x e he => by cases he; exact ⟨rfl, nofun⟩
  rcases he : l.endpoint with _ | _ | c
  all_goals rw [he] at hplace hline hconfs
  · have hafter : (s.clearLeg n cause (some k)).view = s.view.setPlace n (some (false, l.owner, .parked)) := by
      refine State.view_eq hclosed (fun c => ?_) (fun c => ?_) fun j => ?_
      · rw [State.membersOf, hconfs]; rfl
      · rw [hconfs]; rfl
      · rw [hline]; rfl
    rw [hafter]
    exact hresting a hplace
  · have hmap : s.view.map k = .leg n := (a.mapLegs k n).2 ⟨_, _, hplace, hw⟩
    have hafter : (s.clearLeg n cause (some k)).view =
        ((s.view.setPlace n (some (true, l.owner, .parked))).setMap k .vacant).setPlace n (some (false, l.owner, .parked)) := by
      rw [LineView.setMap_setPlace, LineView.setPlace_setPlace]
      refine State.view_eq hclosed (fun c => ?_) (fun c => ?_) fun j => ?_
      · rw [State.membersOf, hconfs]; rfl
      · rw [hconfs]; rfl
      · rw [hline]
        exact congrFun (congrArg LineView.map (State.view_release hmap)) j
    rw [hafter]
    exact hresting (a.parkLine hplace hw) (if_pos rfl)
  · have hmem : Member.leg n ∈ s.membersOf c := (a.legs c n).2 ⟨_, hplace⟩
    obtain ⟨q, hq⟩ : ∃ q, s.confs[c] = some q := by
      cases hq : s.confs[c] with
      | none => simp [State.membersOf_eq, hq] at hmem
      | some q => exact ⟨q, rfl⟩
    have hmembers : s.view.members c = q.members := State.membersOf_some hq
    have hafter : (s.clearLeg n cause (some k)).view =
        ((s.view.setPlace n (some (true, l.owner, .parked))).setMembers c ((s.view.members c).erase (.leg n))).setPlace n
          (some (false, l.owner, .parked)) := by
      rw [LineView.setMembers_setPlace, LineView.setPlace_setPlace]
      have hconf := s.view_setConf c (some (q.remove (.leg n)))
      have hchair : s.view.chair c = q.chair := by
        show (s.confs[c]).bind (·.chair) = _
        rw [hq]
        rfl
      replace hconfs : (s.clearLeg n cause (some k)).confs = s.confs.set c (some (q.remove (.leg n))) :=
        hconfs.trans (congrArg (fun x => s.confs.set c (x.map (Conf.remove (.leg n)))) hq)
      rw [hmembers]
      refine State.view_eq hclosed (fun d => ?_) (fun d => ?_) fun j => ?_
      · rw [State.membersOf, hconfs]
        exact congrFun (congrArg LineView.members hconf) d
      · rw [hconfs]
        refine (congrFun (congrArg LineView.chair hconf) d).trans ?_
        exact congrFun (congrArg LineView.chair (LineView.setChair_self (v := s.view.setMembers c _) hchair)) d
      · rw [hline]; rfl
    rw [hafter]
    exact hresting (a.removeLeg hplace) (if_pos rfl)

/-! ### Another leg of the owner parked (R56, R58, R151) -/

/-- R52: the LINE leg that is found is the owner's. -/
theorem State.lineLegOf_eq_some (hn : s.lineLegOf h = some n) : ∃ l, s.legs[n] = some l ∧ l.owner = h ∧ l.endpoint = .line := by
  have := firstPlace_holds hn
  rw [Option.any_eq_true] at this
  obtain ⟨l, hl, hp⟩ := this
  rw [Bool.and_eq_true, beq_iff_eq, beq_iff_eq] at hp
  exact ⟨l, hl, hp.1, hp.2⟩

theorem State.lineLegOf_eq_none (hn : s.lineLegOf h = none) (hl : s.legs[n] = some l) (ho : l.owner = h) : l.endpoint ≠ .line := by
  have := firstPlace_eq_none.1 hn n
  rw [hl, Option.any_some, ho, beq_self_eq_true, Bool.true_and] at this
  exact beq_eq_false_iff_ne.1 this

theorem State.localConf_eq_none : s.localConf h = none ↔ ∀ c, .loc h ∉ s.membersOf c := by
  simp only [State.localConf, firstPlace_eq_none, List.contains_eq_mem, decide_eq_false_iff_not]

theorem State.view_parkEndpoint_some (hl : s.legs[n] = some l) :
    (s.parkEndpoint (some n)).view = s.view.setPlace n (some (l.state.isOpen, l.owner, .parked)) := by
  refine State.view_eq (fun m => ?_) (fun _ => rfl) (fun _ => rfl) fun _ => rfl
  exact (s.place_setLeg n m _).trans (congrArg (fun x : Option Leg =>
    (s.view.setPlace n ((x.map fun l => { l with endpoint := .parked }).map Leg.place)).place m) hl)

/-- R52, R56: an extension's LINE leg, if it has one, is parked; with no local membership its slot is then free. -/
theorem LineView.Accord.parkOther (a : s.view.Accord who) (hw : who h = some (k, cl)) (hloc : s.localConf h = none) :
    ((s.parkEndpoint (s.lineLegOf h)).view.setMap k .vacant).Accord who := by
  cases hline : s.lineLegOf h with
  | some n =>
    obtain ⟨l, hl, rfl, he⟩ := State.lineLegOf_eq_some hline
    have hopen : l.state.isOpen = true := by
      by_contra hclosed
      have hp := State.place_of hl
      rw [Bool.eq_false_of_not_eq_true hclosed, he] at hp
      nomatch a.parked n _ _ hp
    have hp := State.place_of hl
    rw [hopen, he] at hp
    rw [State.view_parkEndpoint_some hl, hopen]
    exact a.parkLine hp hw
  | none =>
    have hvacant : s.view.map k = .vacant := by
      cases hk : s.view.map k with
      | vacant => rfl
      | leg n =>
        obtain ⟨x, c, hp, hx⟩ := (a.mapLegs k n).1 hk
        cases a.slots h x k cl c hw hx
        obtain ⟨l, hl, -, ho, he⟩ := State.place_eq_some.1 hp
        exact absurd he (State.lineLegOf_eq_none hline hl ho)
      | conference c =>
        obtain ⟨x, cx, hm, hx⟩ := (a.mapConfs k c).1 hk
        cases a.slots h x k cl cx hw hx
        exact absurd hm (State.localConf_eq_none.1 hloc c)
    rw [LineView.setMap_self (show (s.parkEndpoint none).view.map k = .vacant from hvacant)]
    exact a

/-! ### The closing path of a conference (R148) -/

theorem State.view_updateEndpoint (hl : s.legs[n] = some l) (e : Endpoint) :
    (s.updateLeg n fun l => { l with endpoint := e }).view = s.view.setPlace n (some (l.state.isOpen, l.owner, e)) := by
  refine State.view_eq (fun m => ?_) (fun _ => rfl) (fun _ => rfl) fun _ => rfl
  exact (s.place_setLeg n m _).trans (congrArg (fun x : Option Leg =>
    (s.view.setPlace n ((x.map fun l => { l with endpoint := e }).map Leg.place)).place m) hl)

/-- R148 step 1: one member dismissed, the list standing for the members still to come. -/
theorem LineView.Accord.dismiss {mem : Member} {rest : List Member} (a : (s.view.setMembers c (mem :: rest)).Accord who)
    (hbound : ∀ x, mem = .loc x → ∀ k cl, who x = some (k, cl) → s.boundSlot x = some k) :
    ((s.dismiss c mem).view.setMembers c rest).Accord who := by
  have hhead : mem ∈ (s.view.setMembers c (mem :: rest)).members c := by
    show mem ∈ if c = c then mem :: rest else _
    rw [if_pos rfl]
    exact List.mem_cons_self
  have herase : ((s.view.setMembers c (mem :: rest)).members c).erase mem = rest := by
    show (if c = c then mem :: rest else _).erase mem = rest
    rw [if_pos rfl, List.erase_cons_head]
  cases mem with
  | leg n =>
    obtain ⟨x, hx⟩ := (a.legs c n).1 hhead
    obtain ⟨l, hl, ho, rfl, -⟩ := State.place_eq_some.1 (show s.view.place n = _ from hx)
    have hremoved := a.removeLeg hx
    rw [herase] at hremoved
    unfold State.dismiss
    rw [State.view_updateEndpoint hl, ho]
    simpa only [LineView.setMembers_setPlace, LineView.setMembers_setMembers] using hremoved
  | loc x =>
    obtain ⟨k, cl, hw, -⟩ := a.locals c x hhead
    have hmap : s.view.map k = .conference c := (a.mapConfs k c).2 ⟨x, cl, hhead, hw⟩
    have hremoved := a.removeLocal hhead hw
    rw [herase] at hremoved
    unfold State.dismiss
    dsimp only
    rw [hbound x rfl k cl hw, State.view_release hmap, LineView.setMap_setMembers]
    simpa only [LineView.setMembers_setMembers] using hremoved

theorem State.boundSlot_congr (he : t.ext = s.ext) (x : Handle) : t.boundSlot x = s.boundSlot x := by
  rw [State.boundSlot, State.boundSlot, State.record_congr he]

theorem LineView.Accord.dismissAll (members : List Member) (a : (s.view.setMembers c members).Accord who)
    (hbound : ∀ x, .loc x ∈ members → ∀ k cl, who x = some (k, cl) → s.boundSlot x = some k) :
    ((members.foldl (State.dismiss c) s).view.setMembers c []).Accord who := by
  induction members generalizing s with
  | nil => exact a
  | cons mem rest ih =>
    refine ih (a.dismiss fun x hx => hbound x (hx ▸ List.mem_cons_self)) fun x hx k cl hw => ?_
    rw [State.boundSlot_congr (State.dismiss_ext c s mem)]
    exact hbound x (List.mem_cons_of_mem mem hx) k cl hw

theorem LineView.Accord.closeConf (a : s.view.Accord who) (cause : ConfCause)
    (hbound : ∀ x, .loc x ∈ s.membersOf c → ∀ k cl, who x = some (k, cl) → s.boundSlot x = some k) :
    (s.closeConf c cause).view.Accord who := by
  cases hq : s.confs[c] with
  | none =>
    rw [State.closeConf_none cause hq]
    exact a
  | some q =>
    rw [State.closeConf_some cause hq]
    have hmembers : s.view.members c = q.members := State.membersOf_some hq
    have hstart : (s.view.setMembers c q.members).Accord who := by
      rw [LineView.setMembers_self hmembers]
      exact a
    have hall := hstart.dismissAll q.members fun x hx => hbound x (by rw [State.membersOf_some hq]; exact hx)
    rw [State.view_notify, State.view_setConf]
    exact hall.setChair nofun

end Sys2Proof.Machine
end

section
/-! PROOFS. The laws of the line side kept by changes that leave it alone, and by the requests of chapters 4 and 10. -/

namespace Sys2Proof.Machine

variable {rx ln : Bool} {s t : State} {n m : LegNo} {l : Leg} {c d : ConfNo} {h : Handle} {k : Slot} {r : ExtRecord}
  {cl : ExtClass} {who : Roster} {v w : LineView}

/-! ### Changes that leave the line side alone -/

/-- R64: legs in CLEARING freed. -/
theorem LineView.Accord.free (a : v.Accord who) (hplace : ∀ n, w.place n = v.place n ∨
      (w.place n = none ∧ ∃ x e, v.place n = some (false, x, e)))
    (hmembers : w.members = v.members) (hchair : w.chair = v.chair) (hmap : w.map = v.map) : w.Accord who := by
  have hopen (n : LegNo) (x : Handle) (e : Endpoint) : w.place n = some (true, x, e) ↔ v.place n = some (true, x, e) := by
    have := hplace n
    grind
  refine ⟨a.slots, fun n x e hn => a.owners n x e ((hopen n x e).1 hn), ?_, ?_, ?_, ?_, fun c n => ?_, ?_, ?_, fun k n => ?_,
    fun k c => ?_, fun n x e hn => a.parked n x e ?_⟩
  · rw [hmembers]; exact a.pool
  · rw [hmembers]; exact a.room
  · rw [hmembers]; exact a.once
  · rw [hmembers]; exact a.onlyOnce
  · simp only [hmembers, hopen]; exact a.legs c n
  · rw [hmembers]; exact a.locals
  · rw [hchair]; exact a.chairs
  · simp only [hmap, hopen]; exact a.mapLegs k n
  · rw [hmap, hmembers]; exact a.mapConfs k c
  · have := hplace n
    grind

/-- A change of the legs that must not touch the line side frees a leg in CLEARING at most. -/
theorem Fate.line {o : Option LegNo} {x y : Option Leg} (h : Fate rx false s o n x y) :
    y.map Leg.place = x.map Leg.place ∨ (y = none ∧ ∃ l, x = some l ∧ l.state.isOpen = false) := by
  cases h
  case free => exact .inl rfl
  case kept l k hkeeps =>
    have howner := congrArg Prod.fst (hkeeps.view rfl)
    have hendpoint := congrArg Prod.snd (hkeeps.view rfl)
    dsimp only [Leg.lineView] at howner hendpoint
    exact .inl (by rw [Option.map_some, Option.map_some, Leg.place, Leg.place, hkeeps.isOpen, howner, hendpoint])
  case level => exact .inl rfl
  case opened hln _ _ => nomatch hln
  case rekeyed => exact .inl rfl
  case cleared hln _ => nomatch hln
  case rolled => exact .inl rfl
  case freed hclosed => exact .inr ⟨rfl, _, rfl, hclosed⟩
  case served => exact .inl rfl

theorem ExtRecord.lineView_reclamp (limit : Nat) (r : ExtRecord) : (r.reclamp limit).lineView = r.lineView := by
  unfold ExtRecord.reclamp
  split
  · rfl
  · split <;> rfl

/-- What a change that must not touch the line side leaves of the records, the conferences and the map. -/
theorem Change.lineSide (h : Change rx false s t) :
    (∀ x, (t.record x).map ExtRecord.lineView = (s.record x).map ExtRecord.lineView) ∧
    (∀ c : ConfNo, (t.confs[c]).map Conf.lineView = (s.confs[c]).map Conf.lineView) ∧ t.line.outMap = s.line.outMap := by
  cases h
  case line p _ _ hmap => exact ⟨fun _ => rfl, fun _ => rfl, hmap rfl⟩
  case ext e _ _ _ hview => exact ⟨hview rfl, fun _ => rfl, rfl⟩
  case failureLimit limit _ _ =>
    refine ⟨fun x => ?_, fun _ => rfl, rfl⟩
    rw [State.record, ExtTable.mapRecords, getElem_ofFn_fin, Option.map_map]
    exact congrArg (fun g => (s.record x).map g) (funext fun r => r.lineView_reclamp limit)
  case confs hview => exact ⟨fun _ => rfl, hview rfl, rfl⟩
  case openLeg hln _ _ _ => nomatch hln
  case clearLeg hln _ _ => nomatch hln
  case askSync => exact ⟨fun x => congrArg _ (State.record_congr (by simp) x), fun _ => by simp, by simp⟩
  case askRoll =>
    rw [State.askRoll_frame]
    exact ⟨fun _ => rfl, fun _ => rfl, rfl⟩
  case depart =>
    rw [State.sendRequest_frame]
    exact ⟨fun _ => rfl, fun _ => rfl, rfl⟩
  case serve =>
    rw [State.serveWants_frame]
    exact ⟨fun _ => rfl, fun _ => rfl, rfl⟩
  all_goals exact ⟨fun _ => rfl, fun _ => rfl, rfl⟩

theorem ExtRecord.admission_of_lineView {q : ExtRecord} (h : q.lineView = r.lineView) : q.admission = r.admission := by
  unfold ExtRecord.lineView at h
  simp only [Prod.mk.injEq] at h
  obtain ⟨-, hcls, hslot, hadm⟩ := h
  rw [ExtRecord.admission, ExtRecord.admission, hcls, hslot, hadm]

/-- The roster depends on what the line side sees of the records alone. -/
theorem State.roster_of_lineView (h : ∀ x, (t.record x).map ExtRecord.lineView = (s.record x).map ExtRecord.lineView) :
    t.roster = s.roster := by
  funext x
  have hx := h x
  unfold State.roster
  cases ht : t.record x with
  | none =>
    rw [ht] at hx
    rw [Option.map_eq_none_iff.1 hx.symm]
  | some q =>
    rw [ht, Option.map_some] at hx
    obtain ⟨r, hr, hview⟩ := Option.map_eq_some_iff.1 hx.symm
    rw [hr]
    exact ExtRecord.admission_of_lineView hview.symm

theorem State.view_confs (h : ∀ c : ConfNo, (t.confs[c]).map Conf.lineView = (s.confs[c]).map Conf.lineView) :
    t.view.members = s.view.members ∧ t.view.chair = s.view.chair := by
  have hmembers (x : Option Conf) : (x.map (·.members)).getD [] = ((x.map Conf.lineView).map (·.1)).getD [] := by
    cases x <;> rfl
  have hchair (x : Option Conf) : x.bind (·.chair) = (x.map Conf.lineView).bind (·.2) := by
    cases x <;> rfl
  constructor
  · funext c
    show t.membersOf c = s.membersOf c
    rw [State.membersOf_eq, State.membersOf_eq, hmembers, hmembers, h c]
  · funext c
    show (t.confs[c]).bind (·.chair) = (s.confs[c]).bind (·.chair)
    rw [hchair, hchair, h c]

/-- R7, R51, R52, R105, R146: the laws follow from the records' own and the accord. -/
theorem State.LineLaws.after (hs : s.LineLaws) (hc : Changes rx ln s t)
    (ha : s.view.Accord s.roster → t.view.Accord t.roster) : t.LineLaws := by
  obtain ⟨hrecords, a⟩ := State.lineLaws_iff.1 hs
  exact State.lineLaws_iff.2 ⟨hc.keeps Change.recordsDistinct hrecords, ha a⟩

/-- The accord with the same roster, where the records are untouched. -/
theorem State.accord_of_ext (he : t.ext = s.ext) (a : t.view.Accord s.roster) : t.view.Accord t.roster := by
  rwa [State.roster_congr he]

theorem State.accord_of_view (a : v.Accord who) (h : t.view = v) : t.view.Accord who := h ▸ a

/-- A change that must not touch the line side keeps its laws. -/
theorem Change.lineLaws (h : Change rx false s t) (hs : s.LineLaws) : t.LineLaws := by
  refine hs.after (.single h) fun a => ?_
  obtain ⟨hrecords, hconfs, hmap⟩ := h.lineSide
  obtain ⟨hmembers, hchair⟩ := State.view_confs hconfs
  obtain ⟨o, hfate⟩ := h.fate
  rw [State.roster_of_lineView hrecords]
  refine a.free (fun n => ?_) hmembers hchair (funext fun k : Slot => ?_)
  · rcases (hfate n).line with hsame | ⟨hfreed, l, hl, hclosed⟩
    · exact .inl hsame
    · refine .inr ⟨?_, l.owner, l.endpoint, State.place_eq_some.2 ⟨l, hl, hclosed, rfl, rfl⟩⟩
      show (t.legs[n]).map Leg.place = none
      rw [hfreed]
      rfl
  · show t.line.outMap[k] = s.line.outMap[k]
    rw [hmap]

theorem Changes.lineLaws (h : Changes rx false s t) (hs : s.LineLaws) : t.LineLaws := h.keeps Change.lineLaws hs

/-! ### LEG_OPEN, LEG_CLOSE, LEG_CONNECT, LEG_PARK -/

theorem State.place_parkEndpoint (s : State) (o : Option LegNo) (n : LegNo) : (s.parkEndpoint o).view.place n =
    (s.view.place n).map fun p => (p.1, p.2.1, if o = some n then .parked else p.2.2) := by
  show ((s.parkEndpoint o).legs[n]).map Leg.place = ((s.legs[n]).map Leg.place).map _
  rw [State.parkEndpoint_legs]
  cases s.legs[n] with
  | none => rfl
  | some l =>
    simp only [Option.map_some, Leg.place]
    split <;> rfl

theorem State.admittedWith_roster {p : ExtClass → Bool} (h' : s.admittedWith h p = true) :
    ∃ k c, s.roster h = some (k, c) ∧ s.boundSlot h = some k ∧ p c = true := by
  obtain ⟨k, c, hw, hp⟩ := State.roster_has.2 h'
  exact ⟨k, c, hw, State.boundSlot_of_roster hw, hp⟩

/-- R56, R58: a leg at rest, or FREE, given its owner's slot, the owner's other leg being parked. -/
theorem LineView.Accord.takeSlot (a : s.view.Accord who) (hw : who h = some (k, cl)) (hmay : cl.mayScramble = true)
    (hloc : s.localConf h = none) (hn : ∀ b x e, s.view.place n = some (b, x, e) → e = .parked) (hl : l.owner = h)
    (ho : l.state.isOpen = true) (he : l.endpoint = .line) :
    (State.view { (s.parkEndpoint (s.lineLegOf h)).setLeg n (some l) with
      line := ((s.parkEndpoint (s.lineLegOf h)).setLeg n (some l)).line.setSource (some k) (.leg n) }).Accord who := by
  have hparked := a.parkOther hw hloc
  have hrest := hparked.setResting (n := n) (p := some (true, h, .parked)) (fun b x e hp => ?_) fun b x e hp => by
    cases hp
    exact ⟨rfl, fun _ => ⟨k, cl, hw, hmay⟩⟩
  · have hup := hrest.lineUp (if_pos rfl) hw (if_pos rfl)
    rw [State.view_setSource, State.view_setLeg, Option.map_some, Leg.place, ho, hl, he]
    simpa only [LineView.setMap_setPlace, LineView.setPlace_setPlace, LineView.setMap_setMap] using hup
  · have hp' : (s.parkEndpoint (s.lineLegOf h)).view.place n = some (b, x, e) := hp
    rw [State.place_parkEndpoint] at hp'
    obtain ⟨⟨b', x', e'⟩, hold, hp'⟩ := Option.map_eq_some_iff.1 hp'
    cases hp'
    split
    · rfl
    · exact hn b' x' e' hold

theorem lineLaws_openLeg {a : LegOpenArgs} (hgain : -6 ≤ a.gain ∧ a.gain ≤ 6) (hs : s.LineLaws) :
    (openLeg a s).1.LineLaws := by
  refine hs.after (done_openLeg hgain s).1 fun acc => ?_
  unfold openLeg
  split
  · exact acc
  next h hok =>
    obtain ⟨hfree, -, -, hmay⟩ := State.checkLegOpen_eq_ok hok
    obtain ⟨k, cl, hw, hslot, hcl⟩ := State.admittedWith_roster hmay
    have hnone : s.view.place a.leg = none := congrArg (Option.map Leg.place) hfree
    split
    next hcond =>
      rw [Bool.and_eq_true] at hcond
      have hloc : s.localConf h = none := Option.isNone_iff_eq_none.1 hcond.2
      dsimp only [okay]
      refine State.accord_of_ext (s := s) (by simp) ?_
      rw [hslot]
      exact acc.takeSlot hw hcl hloc (fun b x e hp => by rw [hnone] at hp; nomatch hp) rfl rfl rfl
    next =>
      dsimp only [okay]
      refine State.accord_of_ext (s := s) (by simp) ?_
      rw [State.view_setLeg]
      refine acc.setResting (fun b x e hp => by rw [hnone] at hp; nomatch hp) fun b x e hp => ?_
      cases hp
      exact ⟨rfl, fun _ => ⟨k, cl, hw, hcl⟩⟩

theorem lineLaws_closeLeg (n : LegNo) (hs : s.LineLaws) : (closeLeg n s).1.LineLaws := by
  refine hs.after (done_closeLeg n s).1 fun a => ?_
  unfold closeLeg
  split
  · exact a
  next l hl =>
    split
    next ho =>
      dsimp only [okay]
      have hplace := State.place_of hl
      rw [ho] at hplace
      obtain ⟨k, cl, hw, -⟩ := a.owners n _ _ hplace
      refine State.accord_of_ext (s := s) (by simp) ?_
      rw [State.boundSlot_of_roster hw]
      exact a.clearLeg hl ho hw .host
    · exact a

theorem lineLaws_connectLeg (n : LegNo) (hs : s.LineLaws) : (connectLeg n s).1.LineLaws := by
  refine hs.after (done_connectLeg n s).1 fun a => ?_
  unfold connectLeg
  split
  · exact a
  next l hl =>
    split
    · exact a
    next ho =>
      replace ho : l.state.isOpen = true := by simpa using ho
      have hplace := State.place_of hl
      rw [ho] at hplace
      split
      · exact a
      · split <;> exact a
      next he =>
        split
        · exact a
        next hloc =>
          dsimp only [okay]
          obtain ⟨k, cl, hw, hmay⟩ := a.owners n _ _ hplace
          refine State.accord_of_ext (s := s) (by simp) ?_
          rw [State.boundSlot_of_roster hw]
          refine a.takeSlot (l := { l with endpoint := .line }) hw hmay (Option.not_isSome_iff_eq_none.1 hloc)
            (fun b x e hp => ?_) rfl ho rfl
          rw [hplace, he] at hp
          cases hp
          rfl

/-- R52: the owner's entry names its LINE leg. -/
theorem LineView.Accord.map_of_line (a : s.view.Accord who) (hl : s.legs[n] = some l) (ho : l.state.isOpen = true)
    (he : l.endpoint = .line) (hw : who l.owner = some (k, cl)) : s.view.map k = .leg n := by
  have hplace := State.place_of hl
  rw [ho, he] at hplace
  exact (a.mapLegs k n).2 ⟨_, cl, hplace, hw⟩

theorem lineLaws_parkLeg (n : LegNo) (hs : s.LineLaws) : (parkLeg n s).1.LineLaws := by
  refine hs.after (done_parkLeg n s).1 fun a => ?_
  unfold parkLeg
  split
  · exact a
  next l hl =>
    split
    · exact a
    next ho =>
      replace ho : l.state.isOpen = true := by simpa using ho
      have hplace := State.place_of hl
      rw [ho] at hplace
      split
      · exact a
      · exact a
      next he =>
        dsimp only [okay]
        obtain ⟨k, cl, hw, -⟩ := a.owners n _ _ hplace
        refine State.accord_of_ext (s := s) (by simp) ?_
        rw [State.boundSlot_of_roster hw]
        rw [he] at hplace
        have hafter : State.view { s with
            line := s.line.release (some k) (.leg n), legs := s.legs.set n (some { l with endpoint := .parked }) } =
            (s.view.setPlace n (some (true, l.owner, .parked))).setMap k .vacant := by
          refine State.view_eq (fun m => ?_) (fun _ => rfl) (fun _ => rfl) fun j => ?_
          · rw [← ho]
            exact s.place_setLeg n m _
          · exact congrFun (congrArg LineView.map (State.view_release (a.map_of_line hl ho he hw))) j
        rw [hafter]
        exact a.parkLine hplace hw

/-! ### CONF_OPEN, CONF_CLOSE, CONF_JOIN, CONF_LEAVE -/

theorem lineLaws_openConf (p : ConfNo × Option ExtRef) (hs : s.LineLaws) : (openConf p s).1.LineLaws := by
  refine hs.after (done_openConf p s).1 fun a => ?_
  unfold openConf
  split
  · exact a
  next hfree =>
    have hfree := Option.not_isSome_iff_eq_none.1 hfree
    have hfresh (chair : Option Handle) (hchair : ∀ x, chair = some x → s.roster.Has x (·.mayConference)) :
        (s.setConf p.1 (some (Conf.fresh chair))).view.Accord (s.setConf p.1 (some (Conf.fresh chair))).roster := by
      have hempty : s.view.members p.1 = [] := by
        show s.membersOf p.1 = []
        rw [State.membersOf_eq, hfree]
        rfl
      refine State.accord_of_ext (s := s) rfl ?_
      rw [State.view_setConf]
      refine LineView.Accord.setChair (v := s.view.setMembers p.1 []) ?_ hchair
      rw [LineView.setMembers_self hempty]
      exact a
    split
    · exact hfresh none nofun
    · split
      · exact a
      next x _ =>
        split
        · exact a
        · split
          · exact a
          next hmay =>
            refine hfresh (some x) fun y hy => ?_
            cases hy
            exact State.roster_has.2 (by simpa using hmay)

@[simp] theorem State.closeConf_ext (s : State) (c : ConfNo) (cause : ConfCause) : (s.closeConf c cause).ext = s.ext := by
  have hfold (members : List Member) : ∀ s : State, (members.foldl (State.dismiss c) s).ext = s.ext := by
    induction members with
    | nil => exact fun _ => rfl
    | cons m rest ih => exact fun s => (ih _).trans (State.dismiss_ext c s m)
  unfold State.closeConf
  split
  · rfl
  next k _ => exact hfold k.members s

theorem lineLaws_hostCloseConf (c : ConfNo) (hs : s.LineLaws) : (hostCloseConf c s).1.LineLaws := by
  refine hs.after (done_hostCloseConf c s).1 fun a => ?_
  unfold hostCloseConf
  split
  · dsimp only [okay]
    refine State.accord_of_ext (s := s) (by simp) ?_
    exact a.closeConf .host fun x _ k cl hw => State.boundSlot_of_roster hw
  · exact a

/-- R149 check 7: a conference with a place, and the pool with one. -/
theorem State.sum_lt_of_place {q : Conf} (hplace : ¬ s.noPlace q = true) :
    ((List.finRange 8).map fun c => (s.view.members c).length).sum < Config.poolRoom := by
  rw [State.noPlace, Bool.or_eq_true, not_or, beq_iff_eq, State.freePlaces] at hplace
  have := hplace.2
  show ((List.finRange 8).map fun c => (s.membersOf c).length).sum < _
  omega

theorem State.view_append {q : Conf} (hq : s.confs[c] = some q) (mem : Member) :
    (s.setConf c (some (q.append mem))).view = s.view.setMembers c (s.view.members c ++ [mem]) := by
  have hmembers : s.view.members c = q.members := State.membersOf_some hq
  have hchair : (s.view.setMembers c (q.members ++ [mem])).chair c = q.chair := by
    show (s.confs[c]).bind (·.chair) = _
    rw [hq]
    rfl
  rw [State.view_setConf, hmembers]
  exact LineView.setChair_self hchair

theorem State.view_remove {q : Conf} (hq : s.confs[c] = some q) (mem : Member) :
    (s.setConf c (some (q.remove mem))).view = s.view.setMembers c ((s.view.members c).erase mem) := by
  have hmembers : s.view.members c = q.members := State.membersOf_some hq
  have hchair : (s.view.setMembers c (q.members.erase mem)).chair c = q.chair := by
    show (s.confs[c]).bind (·.chair) = _
    rw [hq]
    rfl
  rw [State.view_setConf, hmembers]
  exact LineView.setChair_self hchair

theorem lineLaws_joinLeg {q : Conf} (hq : s.confs[c] = some q) (n : LegNo) (hs : s.LineLaws) :
    (joinLeg c q n s).1.LineLaws := by
  refine hs.after (done_joinLeg hq n).1 fun a => ?_
  unfold joinLeg
  split
  · exact a
  next l hl =>
    split
    · exact a
    next ho =>
      replace ho : l.state.isOpen = true := by simpa using ho
      have hplace := State.place_of hl
      rw [ho] at hplace
      split
      · exact a
      next ep hep =>
        split
        · exact a
        · split
          · exact a
          next hroom =>
            dsimp only [okay]
            refine State.accord_of_ext (s := s) rfl ?_
            have hlength : (s.view.members c).length < Config.memberRoom := by
              rw [show s.view.members c = q.members from State.membersOf_some hq]
              exact State.length_lt_of_place hroom
            have hpool := State.sum_lt_of_place hroom
            obtain ⟨k, cl, hw, -⟩ := a.owners n _ _ hplace
            have hconf := State.view_append hq (.leg n)
            have hlegs (m : LegNo) := s.place_setLeg n m (some { l with endpoint := .conference c })
            simp only [Option.map_some, Leg.place, ho] at hlegs
            cases he : l.endpoint with
            | conference d => exact absurd he (hep d)
            | parked =>
              rw [he] at hplace
              have hjoined := a.addLeg hplace hlength hpool
              refine State.accord_of_view hjoined (State.view_eq (fun m => hlegs m) (fun d => ?_) (fun d => ?_) fun j => ?_)
              · exact congrFun (congrArg LineView.members hconf) d
              · exact congrFun (congrArg LineView.chair hconf) d
              · rfl
            | line =>
              have hmap := a.map_of_line hl ho he hw
              rw [he] at hplace
              have hjoined := (a.parkLine hplace hw).addLeg (n := n) (c := c) (h := l.owner) (if_pos rfl) hlength hpool
              rw [LineView.setMap_setPlace, LineView.setPlace_setPlace] at hjoined
              refine State.accord_of_view hjoined (State.view_eq (fun m => hlegs m) (fun d => ?_) (fun d => ?_) fun j => ?_)
              · exact congrFun (congrArg LineView.members hconf) d
              · exact congrFun (congrArg LineView.chair hconf) d
              · rw [if_pos rfl, State.boundSlot_of_roster hw]
                exact congrFun (congrArg LineView.map (State.view_release hmap)) j

theorem lineLaws_joinLocal {q : Conf} (hq : s.confs[c] = some q) (h : Handle) (hs : s.LineLaws) :
    (joinLocal c q h s).1.LineLaws := by
  refine hs.after (done_joinLocal hq h).1 fun a => ?_
  unfold joinLocal
  split
  · exact a
  · split
    · exact a
    next hloc =>
      split
      · exact a
      next hmay =>
        split
        · exact a
        next hroom =>
          dsimp only [okay]
          obtain ⟨k, cl, hw, hslot, hcl⟩ := State.admittedWith_roster (p := (·.mayConference)) (by simpa using hmay)
          have hparked := a.parkOther hw (Option.not_isSome_iff_eq_none.1 hloc)
          have hq' : (s.parkEndpoint (s.lineLegOf h)).confs[c] = some q := by
            rw [State.parkEndpoint_confs]
            exact hq
          have hmembers : (s.parkEndpoint (s.lineLegOf h)).view.members = s.view.members := by
            funext d
            show State.membersOf _ d = State.membersOf _ d
            rw [State.membersOf, State.parkEndpoint_confs]
            rfl
          have hlength : ((s.parkEndpoint (s.lineLegOf h)).view.members c).length < Config.memberRoom := by
            rw [show (s.parkEndpoint (s.lineLegOf h)).view.members c = q.members from State.membersOf_some hq']
            exact State.length_lt_of_place hroom
          have hpool : ((List.finRange 8).map fun d => ((s.parkEndpoint (s.lineLegOf h)).view.members d).length).sum <
              Config.poolRoom := by
            rw [hmembers]
            exact State.sum_lt_of_place hroom
          have hjoined := hparked.addLocal (c := c) hw hcl (if_pos rfl) hlength hpool
          refine State.accord_of_ext (s := s) (by simp) ?_
          rw [hslot, State.view_setSource, State.view_append hq']
          rw [LineView.setMap_setMembers, LineView.setMap_setMap] at hjoined
          exact hjoined

theorem lineLaws_joinConf (c : ConfNo) (m : MemberRef) (hs : s.LineLaws) : (joinConf c m s).1.LineLaws := by
  unfold joinConf
  split
  · exact hs
  next q hq =>
    split
    · exact lineLaws_joinLeg hq _ hs
    · split
      · exact hs
      · exact lineLaws_joinLocal hq _ hs

theorem lineLaws_leaveMember {q : Conf} (hq : s.confs[c] = some q) (mem : Member) (hs : s.LineLaws) :
    (leaveMember c q mem s).1.LineLaws := by
  refine hs.after (done_leaveMember hq mem).1 fun a => ?_
  unfold leaveMember
  split
  next hin =>
    have hmem : mem ∈ s.view.members c := by
      rw [show s.view.members c = q.members from State.membersOf_some hq]
      simpa using hin
    dsimp only
    split
    next n =>
      dsimp only [okay]
      obtain ⟨x, hx⟩ := (a.legs c n).1 hmem
      obtain ⟨l, hl, ho, rfl, -⟩ := State.place_eq_some.1 hx
      have hl' : (s.setConf c (some (q.remove (.leg n)))).legs[n] = some l := hl
      refine State.accord_of_ext (s := s) rfl ?_
      rw [State.view_updateEndpoint hl', State.view_remove hq, ho]
      exact a.removeLeg hx
    next h =>
      dsimp only [okay]
      obtain ⟨k, cl, hw, -⟩ := a.locals c h hmem
      have hmap : (s.setConf c (some (q.remove (.loc h)))).view.map k = .conference c := (a.mapConfs k c).2 ⟨h, cl, hmem, hw⟩
      have hremoved := a.removeLocal hmem hw
      refine State.accord_of_ext (s := s) rfl ?_
      rw [State.boundSlot_of_roster hw,
        State.view_release (s := s.setConf c (some (q.remove (.loc h)))) hmap, State.view_remove hq]
      exact hremoved
  · exact a

theorem lineLaws_leaveConf (c : ConfNo) (m : MemberRef) (hs : s.LineLaws) : (leaveConf c m s).1.LineLaws := by
  unfold leaveConf
  split
  · exact hs
  next q hq =>
    split
    · exact lineLaws_leaveMember hq _ hs
    · split
      · exact hs
      · exact lineLaws_leaveMember hq _ hs

end Sys2Proof.Machine
end

section
/-! PROOFS. The fault action (chapter 9) keeps the accord of the line side, and leaves nothing of the extension whose
admission is lost. -/

namespace Sys2Proof.Machine

variable {s t : State} {n m : LegNo} {l : Leg} {c d : ConfNo} {h x e : Handle} {k former : Slot} {r : ExtRecord}
  {cl : ExtClass} {who : Roster} {v w u : LineView}

/-! ### What only gets less -/

/-- Open legs, members and chairs are gone at most. -/
structure LineView.Shrinks (v w : LineView) : Prop where
  legs : ∀ n x e, w.place n = some (true, x, e) → ∃ e', v.place n = some (true, x, e')
  members : ∀ c m, m ∈ w.members c → m ∈ v.members c
  chairs : ∀ c h, w.chair c = some h → v.chair c = some h

/-- An extension with no open leg and no local membership. -/
structure LineView.Without (x : Handle) (v : LineView) : Prop where
  legs : ∀ n e, v.place n ≠ some (true, x, e)
  locals : ∀ c, .loc x ∉ v.members c

namespace LineView

theorem Shrinks.refl (v : LineView) : v.Shrinks v := ⟨fun _ _ e h => ⟨e, h⟩, fun _ _ h => h, fun _ _ h => h⟩

theorem Shrinks.trans (h : v.Shrinks w) (h' : w.Shrinks u) : v.Shrinks u where
  legs n x e hn := by
    obtain ⟨e', hn'⟩ := h'.legs n x e hn
    exact h.legs n x e' hn'
  members c m hm := h.members c m (h'.members c m hm)
  chairs c x hx := h.chairs c x (h'.chairs c x hx)

theorem Without.shrinks (h : v.Without x) (h' : v.Shrinks w) : w.Without x where
  legs n e hn := by
    obtain ⟨e', hn'⟩ := h'.legs n x e hn
    exact h.legs n e' hn'
  locals c hc := h.locals c (h'.members c _ hc)

end LineView

theorem State.shrinks_congr (hl : t.legs = s.legs) (hc : t.confs = s.confs) : s.view.Shrinks t.view where
  legs n x e hn := ⟨e, by
    have : (t.legs[n]).map Leg.place = some (true, x, e) := hn
    rwa [hl] at this⟩
  members c m hm := by
    have : m ∈ t.membersOf c := hm
    rwa [State.membersOf, hc] at this
  chairs c y hy := by
    have : (t.confs[c]).bind (·.chair) = some y := hy
    rwa [hc] at this

theorem State.shrinks_setConf (s : State) (c : ConfNo) {q : Conf} (x : Option Conf) (hq : s.confs[c] = some q)
    (hx : ∀ p, x = some p → (∀ m ∈ p.members, m ∈ q.members) ∧ p.chair = q.chair) : s.view.Shrinks (s.setConf c x).view := by
  have hmembers : s.view.members c = q.members := State.membersOf_some hq
  have hchair : s.view.chair c = q.chair := by
    show (s.confs[c]).bind (·.chair) = _
    rw [hq]
    rfl
  rw [State.view_setConf]
  unfold LineView.setMembers LineView.setChair
  refine ⟨fun n x e hn => ⟨e, hn⟩, fun d m hm => ?_, fun d y hy => ?_⟩
  · dsimp only at hm
    split at hm
    next hd =>
      subst hd
      cases x with
      | none => nomatch hm
      | some p =>
        rw [hmembers]
        exact (hx p rfl).1 m hm
    next => exact hm
  · dsimp only at hy
    split at hy
    next hd =>
      subst hd
      cases x with
      | none => nomatch hy
      | some p =>
        rw [hchair, ← (hx p rfl).2]
        exact hy
    next => exact hy

theorem State.shrinks_setPlace (s : State) (n : LegNo) {b : Bool} {f : Endpoint} (hl : s.legs[n] = some l)
    (hb : b = true → l.state.isOpen = true) : s.view.Shrinks (s.view.setPlace n (some (b, l.owner, f))) := by
  refine ⟨fun m x e hm => ?_, fun _ _ h => h, fun _ _ h => h⟩
  unfold LineView.setPlace at hm
  dsimp only at hm
  split at hm
  next hmn =>
    cases hm
    subst hmn
    exact ⟨l.endpoint, by rw [State.place_of hl, hb rfl]⟩
  next => exact ⟨e, hm⟩

/-! ### One leg, one extension -/

theorem State.clearLeg_other (s : State) (cause : CloseCause) (slot : Option Slot) (hnm : n ≠ m) :
    (s.clearLeg n cause slot).legs[m] = s.legs[m] := by
  cases hl : s.legs[n] with
  | none => rw [State.clearLeg_none cause slot hl]
  | some l =>
    rw [(State.clearLeg_some cause slot hl).1, getElem_set_fin, if_neg hnm]

theorem State.clearLeg_closed (cause : CloseCause) (slot : Option Slot) (hl : s.legs[n] = some l) :
    (s.clearLeg n cause slot).view.place n = some (false, l.owner, .parked) := by
  show ((s.clearLeg n cause slot).legs[n]).map Leg.place = _
  rw [(State.clearLeg_some cause slot hl).1, getElem_set_fin, if_pos rfl]
  rfl

theorem State.clearLeg_shrinks (cause : CloseCause) (slot : Option Slot) (hl : s.legs[n] = some l) :
    s.view.Shrinks (s.clearLeg n cause slot).view := by
  obtain ⟨-, -, -, hconfs⟩ := State.clearLeg_some cause slot hl
  have hlegs (m : LegNo) (y : Handle) (f : Endpoint) (hm : (s.clearLeg n cause slot).view.place m = some (true, y, f)) :
      ∃ e', s.view.place m = some (true, y, e') := by
    by_cases hnm : n = m
    · subst hnm
      rw [State.clearLeg_closed cause slot hl] at hm
      nomatch hm
    · refine ⟨f, ?_⟩
      have hm' : ((s.clearLeg n cause slot).legs[m]).map Leg.place = some (true, y, f) := hm
      rwa [State.clearLeg_other s cause slot hnm] at hm'
  cases he : l.endpoint with
  | parked =>
    rw [he] at hconfs
    exact ⟨hlegs, fun c m hm => (State.view_confs (s := s) fun _ => by rw [hconfs]).1 ▸ hm,
      fun c y hy => (State.view_confs (s := s) fun _ => by rw [hconfs]).2 ▸ hy⟩
  | line =>
    rw [he] at hconfs
    exact ⟨hlegs, fun c m hm => (State.view_confs (s := s) fun _ => by rw [hconfs]).1 ▸ hm,
      fun c y hy => (State.view_confs (s := s) fun _ => by rw [hconfs]).2 ▸ hy⟩
  | conference c =>
    rw [he] at hconfs
    cases hq : s.confs[c] with
    | none =>
      replace hconfs : (s.clearLeg n cause slot).confs = s.confs :=
        hconfs.trans (vector_set_eq_self (by rw [hq]; rfl))
      exact ⟨hlegs, fun c m hm => (State.view_confs (s := s) fun _ => by rw [hconfs]).1 ▸ hm,
        fun c y hy => (State.view_confs (s := s) fun _ => by rw [hconfs]).2 ▸ hy⟩
    | some q =>
      replace hconfs : (s.clearLeg n cause slot).confs = s.confs.set c (some (q.remove (.leg n))) :=
        hconfs.trans (congrArg (fun x => s.confs.set c (x.map (Conf.remove (.leg n)))) hq)
      have hset := s.shrinks_setConf c (some (q.remove (.leg n))) hq fun p hp => by
        cases hp
        exact ⟨fun m hm => List.mem_of_mem_erase hm, rfl⟩
      have hview := State.view_confs (t := s.clearLeg n cause slot) (s := s.setConf c (some (q.remove (.leg n))))
        fun _ => by rw [hconfs]; rfl
      exact ⟨hlegs, fun d m hm => hset.members d m (hview.1 ▸ hm), fun d y hy => hset.chairs d y (hview.2 ▸ hy)⟩

/-- R138: open legs of one extension cleared one after another. -/
theorem LineView.Accord.clearLegs (legs : List LegNo) (a : s.view.Accord who) (hw : who e = some (k, cl))
    (hnodup : legs.Nodup) (hlegs : ∀ n ∈ legs, ∃ l, s.legs[n] = some l ∧ l.owner = e ∧ l.state.isOpen = true) :
    let t := legs.foldl (fun s n => s.clearLeg n .fault (some k)) s
    t.view.Accord who ∧ s.view.Shrinks t.view ∧ t.ext = s.ext ∧ ∀ n ∈ legs, ∀ y f, t.view.place n ≠ some (true, y, f) := by
  induction legs generalizing s with
  | nil => exact ⟨a, .refl _, rfl, nofun⟩
  | cons n rest ih =>
    obtain ⟨hn, hrest⟩ := List.nodup_cons.1 hnodup
    obtain ⟨l, hl, rfl, ho⟩ := hlegs n List.mem_cons_self
    obtain ⟨hacc, hshrinks, hext, hclosed⟩ := ih (a.clearLeg hl ho hw .fault) hrest fun m hm => by
      obtain ⟨k, hk, howner, hopen⟩ := hlegs m (List.mem_cons_of_mem n hm)
      have hnm : n ≠ m := fun h => hn (h ▸ hm)
      exact ⟨k, by rw [State.clearLeg_other _ _ _ hnm, hk], howner, hopen⟩
    refine ⟨hacc, (State.clearLeg_shrinks _ _ hl).trans hshrinks, hext.trans (State.clearLeg_ext _ _ _ _), fun m hm y f hy => ?_⟩
    rcases List.mem_cons.1 hm with rfl | hm
    · obtain ⟨f', hy'⟩ := hshrinks.legs m y f hy
      rw [State.clearLeg_closed _ _ hl] at hy'
      nomatch hy'
    · exact hclosed m hm y f hy

theorem State.localConf_eq_some (hc : s.localConf h = some c) : .loc h ∈ s.membersOf c := by
  simpa using firstPlace_holds hc

theorem State.view_removeLocal {q : Conf} (hq : s.confs[c] = some q) (hk : s.view.map k = .conference c) :
    (s.removeLocal c h (some k)).view = (s.view.setMembers c ((s.view.members c).erase (.loc h))).setMap k .vacant := by
  have hconf := State.view_remove hq (.loc h)
  have hconfs : (s.removeLocal c h (some k)).confs = s.confs.set c (some (q.remove (.loc h))) :=
    congrArg (fun x : Option Conf => s.confs.set c (x.map (Conf.remove (.loc h)))) hq
  have hmap := State.view_release hk
  refine State.view_eq (fun _ => rfl) (fun d => ?_) (fun d => ?_) fun j => ?_
  · rw [State.membersOf, hconfs]
    exact congrFun (congrArg LineView.members hconf) d
  · rw [hconfs]
    exact congrFun (congrArg LineView.chair hconf) d
  · exact congrFun (congrArg LineView.map hmap) j

/-- R138, R139: step 3 of the fault action for one extension of the scope set. -/
theorem LineView.Accord.faultExtension (a : s.view.Accord who)
    (hslot : ∀ k cl, who e = some (k, cl) → (if e = x then some former else s.boundSlot e) = some k) :
    (State.faultExtension x former s e).view.Accord who ∧ s.view.Shrinks (State.faultExtension x former s e).view ∧
    (State.faultExtension x former s e).ext = s.ext ∧ (State.faultExtension x former s e).view.Without e := by
  cases hw : who e with
  | none =>
    have hout (p : ExtClass → Bool) : ¬ who.Has e p := by
      rintro ⟨k, c, hk, -⟩
      rw [hw] at hk
      nomatch hk
    have hwithout : s.view.Without e := ⟨fun n f hn => hout _ (a.owners n e f hn), fun c hc => hout _ (a.locals c e hc)⟩
    have hlegs : s.openLegsOf e = [] := by
      refine List.eq_nil_iff_forall_not_mem.2 fun n hn => ?_
      obtain ⟨l, hl, ho, hopen⟩ := mem_openLegsOf.1 hn
      have hplace := State.place_of hl
      rw [hopen, ho] at hplace
      exact hwithout.legs n _ hplace
    have hloc : s.localConf e = none := State.localConf_eq_none.2 hwithout.locals
    have hsame : State.faultExtension x former s e = s := by
      unfold State.faultExtension State.faultLegs
      rw [hlegs]
      dsimp only [List.foldl_nil]
      rw [hloc]
    rw [hsame]
    exact ⟨a, .refl _, rfl, hwithout⟩
  | some p =>
    obtain ⟨k, cl⟩ := p
    unfold State.faultExtension State.faultLegs
    dsimp only
    rw [hslot k cl hw]
    obtain ⟨hacc, hshrinks, hext, hclosed⟩ := a.clearLegs (s.openLegsOf e) hw (nodup_placesWhere _) fun n hn => mem_openLegsOf.1 hn
    generalize (s.openLegsOf e).foldl (fun s n => s.clearLeg n .fault (some k)) s = t at hacc hshrinks hext hclosed ⊢
    have hlegs (n : LegNo) (f : Endpoint) : t.view.place n ≠ some (true, e, f) := by
      intro hn
      obtain ⟨f', hn'⟩ := hshrinks.legs n e f hn
      obtain ⟨l, hl, hopen, howner, -⟩ := State.place_eq_some.1 hn'
      exact hclosed n (mem_openLegsOf.2 ⟨l, hl, howner, hopen⟩) e f hn
    split
    next hnone => exact ⟨hacc, hshrinks, hext, hlegs, State.localConf_eq_none.1 hnone⟩
    next c hc =>
      have hmem : .loc e ∈ t.view.members c := State.localConf_eq_some hc
      obtain ⟨q, hq⟩ : ∃ q, t.confs[c] = some q := by
        cases hq : t.confs[c] with
        | none =>
          have hmem' : .loc e ∈ t.membersOf c := hmem
          simp [State.membersOf_eq, hq] at hmem'
        | some q => exact ⟨q, rfl⟩
      have hview := State.view_removeLocal (h := e) hq ((hacc.mapConfs k c).2 ⟨e, cl, hmem, hw⟩)
      have hremoved := hacc.removeLocal hmem hw
      rw [← hview] at hremoved
      have hless : t.view.Shrinks (t.removeLocal c e (some k)).view := by
        rw [hview]
        refine ⟨fun n y f hn => ⟨f, hn⟩, fun d m hm => ?_, fun d y hy => hy⟩
        unfold LineView.setMembers LineView.setMap at hm
        dsimp only at hm
        split at hm
        next hd => exact hd ▸ List.mem_of_mem_erase hm
        next => exact hm
      refine ⟨hremoved, hshrinks.trans hless, (State.removeLocal_ext _ _ _ _).trans hext, fun n f hn => hlegs n f ?_, fun d hd => ?_⟩
      · rw [hview] at hn
        exact hn
      · have hcd : c = d := hacc.onlyOnce c d _ hmem (hless.members d _ hd)
        subst hcd
        rw [hview] at hd
        unfold LineView.setMembers LineView.setMap at hd
        dsimp only at hd
        rw [if_pos rfl, (hacc.once c).mem_erase_iff] at hd
        exact hd.1 rfl

/-! ### Conferences closed -/

theorem State.closeConf_chair (s : State) (c d : ConfNo) (cause : ConfCause) :
    (s.closeConf c cause).view.chair d = if d = c then none else s.view.chair d := by
  have hfold (members : List Member) : ∀ s : State, (members.foldl (State.dismiss c) s).confs = s.confs := by
    induction members with
    | nil => exact fun _ => rfl
    | cons m rest ih => exact fun s => (ih _).trans (State.dismiss_confs c s m)
  show ((s.closeConf c cause).confs[d]).bind (·.chair) = if d = c then none else (s.confs[d]).bind (·.chair)
  cases hq : s.confs[c] with
  | none =>
    rw [State.closeConf_none cause hq]
    split
    next hd => rw [hd, hq]; rfl
    next => rfl
  | some q =>
    rw [State.closeConf_some cause hq]
    show (((q.members.foldl (State.dismiss c) s).confs.set c none)[d]).bind (·.chair) = _
    rw [hfold, getElem_set_fin]
    by_cases hcd : c = d
    · rw [if_pos hcd, if_pos hcd.symm]
      rfl
    · rw [if_neg hcd, if_neg (Ne.symm hcd)]

theorem State.dismiss_shrinks (s : State) (c : ConfNo) (mem : Member) : s.view.Shrinks (s.dismiss c mem).view := by
  cases mem with
  | loc h => exact State.shrinks_congr rfl rfl
  | leg n =>
    cases hl : s.legs[n] with
    | none =>
      refine State.shrinks_congr ?_ rfl
      exact vector_set_eq_self (by rw [hl]; rfl)
    | some l =>
      unfold State.dismiss
      rw [State.view_updateEndpoint hl]
      exact s.shrinks_setPlace n hl id

theorem State.closeConf_shrinks (s : State) (c : ConfNo) (cause : ConfCause) : s.view.Shrinks (s.closeConf c cause).view := by
  have hfold (members : List Member) : ∀ s : State, s.view.Shrinks (members.foldl (State.dismiss c) s).view := by
    induction members with
    | nil => exact fun _ => .refl _
    | cons m rest ih => exact fun s => (s.dismiss_shrinks c m).trans (ih _)
  cases hq : s.confs[c] with
  | none =>
    rw [State.closeConf_none cause hq]
    exact .refl _
  | some q =>
    rw [State.closeConf_some cause hq, State.view_notify]
    refine (hfold q.members s).trans ?_
    rw [State.view_setConf]
    unfold LineView.setMembers LineView.setChair
    refine ⟨fun n y f hn => ⟨f, hn⟩, fun d m hm => ?_, fun d y hy => ?_⟩
    · dsimp only at hm
      split at hm
      · nomatch hm
      · exact hm
    · dsimp only at hy
      split at hy
      · nomatch hy
      · exact hy

/-- R140, R141: conferences closed one after another. -/
theorem LineView.Accord.closeConfs (confs : List ConfNo) (cause : ConfCause) (a : s.view.Accord who)
    (hbound : ∀ y k cl, y ≠ x → who y = some (k, cl) → s.boundSlot y = some k) (hwithout : s.view.Without x) :
    let t := confs.foldl (fun s c => s.closeConf c cause) s
    t.view.Accord who ∧ s.view.Shrinks t.view ∧ t.ext = s.ext ∧ ∀ c ∈ confs, t.view.chair c = none := by
  induction confs generalizing s with
  | nil => exact ⟨a, .refl _, rfl, nofun⟩
  | cons c rest ih =>
    have hclosed := a.closeConf cause fun y hy k cl hw => hbound y k cl (fun hyx => hwithout.locals c (hyx ▸ hy)) hw
    obtain ⟨hacc, hshrinks, hext, hchairs⟩ := ih hclosed (fun y k cl hy hw => by
      rw [State.boundSlot_congr (State.closeConf_ext s c cause)]
      exact hbound y k cl hy hw) (hwithout.shrinks (s.closeConf_shrinks c cause))
    refine ⟨hacc, (s.closeConf_shrinks c cause).trans hshrinks, hext.trans (State.closeConf_ext s c cause), fun d hd => ?_⟩
    rcases List.mem_cons.1 hd with rfl | hd
    · rw [List.foldl_cons]
      cases hch : (rest.foldl (fun s c => s.closeConf c cause) (s.closeConf d cause)).view.chair d with
      | none => rfl
      | some y =>
        have := hshrinks.chairs d y hch
        rw [State.closeConf_chair, if_pos rfl] at this
        nomatch this
    · exact hchairs d hd

/-- R138, R139: the extensions of a scope set one after another. -/
theorem LineView.Accord.faultScope (scope : List Handle) (a : s.view.Accord who)
    (hslot : ∀ e k cl, who e = some (k, cl) → (if e = x then some former else s.boundSlot e) = some k) :
    let t := scope.foldl (State.faultExtension x former) s
    t.view.Accord who ∧ s.view.Shrinks t.view ∧ t.ext = s.ext ∧ ∀ e ∈ scope, t.view.Without e := by
  induction scope generalizing s with
  | nil => exact ⟨a, .refl _, rfl, nofun⟩
  | cons e rest ih =>
    obtain ⟨hacc, hless, hext, hwithout⟩ := a.faultExtension (hslot e)
    obtain ⟨hacc', hless', hext', hwithout'⟩ := ih hacc fun e' k cl hw => by
      rw [State.boundSlot_congr hext]
      exact hslot e' k cl hw
    refine ⟨hacc', hless.trans hless', hext'.trans hext, fun e' he' => ?_⟩
    rcases List.mem_cons.1 he' with rfl | he'
    · exact hwithout.shrinks hless'
    · exact hwithout' e' he'

theorem State.mem_scopeSet (hr : s.record x = some r) (scope : FaultScope) : x ∈ s.scopeSet x scope := by
  cases scope with
  | leg => exact List.mem_singleton_self x
  | call => exact List.mem_singleton_self x
  | group =>
    refine mem_placesWhere.2 ?_
    simp [hr]

/-- R136 to R141: after the fault action of X nothing of the line side is X's. The roster is the one before the loss. -/
theorem LineView.Accord.faultAction (a : s.view.Accord who) (hr : s.record x = some r) (hx : who x = some (former, cl))
    (hbound : ∀ y k cl, y ≠ x → who y = some (k, cl) → s.boundSlot y = some k) (cause : LossCause) (scope : FaultScope) :
    let t := s.faultAction x cause scope former
    t.view.Accord who ∧ t.ext = s.ext ∧ t.view.Without x ∧ ∀ c, t.view.chair c ≠ some x := by
  have hslot (e : Handle) (k : Slot) (cl' : ExtClass) (hw : who e = some (k, cl')) :
      (if e = x then some former else s.boundSlot e) = some k := by
    split
    next hex =>
      cases hx.symm.trans (hex ▸ hw)
      rfl
    next hex => exact hbound e k cl' hex hw
  unfold State.faultAction
  dsimp only
  generalize hs' : s.notify .admissionLost x (BitVec.ofNat 16 (256 * scope.code + cause.value)) = s'
  have hview' : s'.view = s.view := hs' ▸ s.view_notify _ _ _
  have hext' : s'.ext = s.ext := by rw [← hs']; rfl
  have hrecord : s'.record x = some r := (State.record_congr hext' x).trans hr
  have hbound' (y : Handle) : s'.boundSlot y = s.boundSlot y := State.boundSlot_congr hext' y
  have hchaired : s'.chairedConfs x = s.chairedConfs x := by rw [← hs']; rfl
  obtain ⟨hacc, hless, hext, hwithout⟩ := LineView.Accord.faultScope (s := s') (who := who) (x := x) (former := former)
    (s'.scopeSet x scope) (hview' ▸ a) fun e k cl' hw => by
      rw [hbound']
      exact hslot e k cl' hw
  have hx' := hwithout x (State.mem_scopeSet hrecord scope)
  generalize (s'.scopeSet x scope).foldl (State.faultExtension x former) s' = s₁ at hacc hless hext hx' ⊢
  have hbound₁ (y : Handle) (k : Slot) (cl' : ExtClass) (hy : y ≠ x) (hw : who y = some (k, cl')) : s₁.boundSlot y = some k := by
    rw [State.boundSlot_congr hext, hbound']
    exact hbound y k cl' hy hw
  obtain ⟨hacc₂, hless₂, hext₂⟩ : ∃ (_ : (if scope = .call then (s'.engagedConfs x).foldl (fun s c => s.closeConf c .fault) s₁
        else s₁).view.Accord who), s₁.view.Shrinks (if scope = .call then
          (s'.engagedConfs x).foldl (fun s c => s.closeConf c .fault) s₁ else s₁).view ∧
      (if scope = .call then (s'.engagedConfs x).foldl (fun s c => s.closeConf c .fault) s₁ else s₁).ext = s₁.ext := by
    split
    · obtain ⟨h1, h2, h3, -⟩ := hacc.closeConfs (s'.engagedConfs x) .fault hbound₁ hx'
      exact ⟨h1, h2, h3⟩
    · exact ⟨hacc, .refl _, rfl⟩
  generalize (if scope = .call then (s'.engagedConfs x).foldl (fun s c => s.closeConf c .fault) s₁ else s₁) = s₂
    at hacc₂ hless₂ hext₂ ⊢
  have hx₂ := hx'.shrinks hless₂
  obtain ⟨hacc₃, hless₃, hext₃, hchairs⟩ := hacc₂.closeConfs (s'.chairedConfs x) .chair (fun y k cl' hy hw => by
    rw [State.boundSlot_congr hext₂]
    exact hbound₁ y k cl' hy hw) hx₂
  refine ⟨hacc₃, hext₃.trans (hext₂.trans (hext.trans hext')), hx₂.shrinks hless₃, fun c hc => ?_⟩
  have hbefore := hless.chairs c x (hless₂.chairs c x (hless₃.chairs c x hc))
  rw [hview'] at hbefore
  obtain ⟨q, hq, hqc⟩ := Option.bind_eq_some_iff.1 (show (s.confs[c]).bind (·.chair) = some x from hbefore)
  have hmem : c ∈ s'.chairedConfs x := by
    rw [hchaired]
    refine mem_placesWhere.2 ?_
    rw [hq]
    exact beq_iff_eq.2 hqc
  rw [hchairs c hmem] at hc
  nomatch hc

end Sys2Proof.Machine
end

section
/-! PROOFS. The laws of the line side kept by the extension table's requests, by admission on the line side, by held
changes and by RESTART; O60. -/

namespace Sys2Proof.Machine

variable {rx ln : Bool} {s t u : State} {n : LegNo} {l : Leg} {c : ConfNo} {h x : Handle} {k slot former : Slot}
  {r q : ExtRecord} {cl : ExtClass} {who who' : Roster} {v : LineView}

/-! ### Records written -/

theorem ExtRecord.admission_of_unbound (hk : r.state.slot? = none) : r.admission = none := by
  unfold ExtRecord.admission
  split
  · rw [hk]; rfl
  · rfl

theorem ExtRecord.admission_of_not (ha : r.state.isAdmitted = false) : r.admission = none := by
  rw [ExtRecord.admission, ha]
  rfl

theorem State.roster_of_record (hr : s.record h = some r) : s.roster h = r.admission := by
  rw [State.roster, hr]
  rfl

theorem State.RecordsDistinct.roster_slots (hs : s.RecordsDistinct) (h h' : Handle) (k : Slot) (c c' : ExtClass)
    (hc : s.roster h = some (k, c)) (hc' : s.roster h' = some (k, c')) : h = h' :=
  hs.slots h h' k (State.boundSlot_of_roster hc) (State.boundSlot_of_roster hc')

theorem State.roster_setRecord (s : State) (h : Handle) (p : Option ExtRecord) (y : Handle) :
    (s.setRecord h p).roster y = if h = y then p.bind ExtRecord.admission else s.roster y := by
  rw [State.roster, State.record_setRecord]
  split <;> rfl

/-- A record written whose admission is what it was. -/
theorem State.roster_setRecord_same {p : Option ExtRecord} (hp : p.bind ExtRecord.admission = s.roster h) :
    (s.setRecord h p).roster = s.roster := by
  funext y
  rw [State.roster_setRecord]
  split
  next hy => rw [← hy, hp]
  next => rfl

theorem State.view_setRecord (s : State) (h : Handle) (p : Option ExtRecord) : (s.setRecord h p).view = s.view :=
  State.view_congr (s := s) rfl rfl rfl

/-- The laws of the line side where neither the view nor the roster changes. -/
theorem State.LineLaws.unmoved (hs : s.LineLaws) (hc : Changes rx ln s t) (hv : t.view = s.view) (hr : t.roster = s.roster) :
    t.LineLaws := hs.after hc fun a => by rwa [hv, hr]

theorem State.LineLaws.congr (hs : s.LineLaws) (he : t.ext = s.ext) (hl : t.legs = s.legs) (hc : t.confs = s.confs)
    (hm : t.line.outMap = s.line.outMap) : t.LineLaws := by
  obtain ⟨hrecords, a⟩ := State.lineLaws_iff.1 hs
  exact State.lineLaws_iff.2 ⟨hrecords.congr he, by rwa [State.view_congr hl hc hm, State.roster_congr he]⟩

/-- R135 to R141: an admission lost: the record written, then the fault action. -/
theorem State.LineLaws.loss (hs : s.LineLaws) {cause : LossCause} {scope : FaultScope}
    (hc : Changes rx ln s (u.faultAction x cause scope former)) (hr : s.record x = some r) (hadm : r.state.isAdmitted = true)
    (hslot : r.state.slot? = some former) (hu : ∀ y, u.record y = if x = y then some q else s.record y)
    (hq : q.state.slot? = none) (hview : u.view = s.view) : (u.faultAction x cause scope former).LineLaws := by
  refine hs.after hc fun a => ?_
  have hx : s.roster x = some (former, r.cls) := State.roster_eq_some.2 ⟨r, hr, hadm, hslot, rfl⟩
  have hux : u.record x = some q := by rw [hu, if_pos rfl]
  have hroster (y : Handle) : u.roster y = if x = y then none else s.roster y := by
    rw [State.roster, hu]
    split
    · exact ExtRecord.admission_of_unbound hq
    · rfl
  have hbound (y : Handle) (k : Slot) (cl : ExtClass) (hy : y ≠ x) (hw : s.roster y = some (k, cl)) : u.boundSlot y = some k := by
    rw [State.boundSlot, hu, if_neg (Ne.symm hy)]
    exact State.boundSlot_of_roster hw
  obtain ⟨hacc, hext, hwithout, hchairs⟩ := LineView.Accord.faultAction (s := u) (hview ▸ a) hux hx hbound cause scope
  rw [State.roster_congr hext]
  refine hacc.reroster (h := x) (fun y hy => by rw [hroster, if_neg (Ne.symm hy)]) (fun y y' k c c' hy hy' => ?_)
    hwithout.legs hwithout.locals hchairs
  rw [hroster] at hy hy'
  split at hy
  · nomatch hy
  · split at hy'
    · nomatch hy'
    · exact a.slots y y' k c c' hy hy'

/-! ### EXT_LOAD, EXT_REMOVE, EXT_SUSPEND, EXT_RESUME, EXT_UNBAR, EXT_REVOKE -/

theorem lineLaws_loadExt (a : ExtLoadArgs) (hs : s.LineLaws) : (loadExt a s).1.LineLaws := by
  have hdone := (done_loadExt a s).1
  unfold loadExt at hdone ⊢
  split at hdone
  · split at hdone
    · exact hs
    next h hfree =>
      have hnone : s.record h = none := by simpa using firstPlace_holds hfree
      refine hs.unmoved hdone (s.view_setRecord h _) (State.roster_setRecord_same ?_)
      rw [State.roster, hnone]
      rfl
  next h hh =>
    obtain ⟨r, hr, -⟩ := State.findNumber_eq_some hh
    split at hdone
    next hbound =>
      rw [if_pos hbound]
      exact hs
    next hunbound =>
      rw [if_neg hunbound]
      have hslot : r.state.slot? = none := by
        rw [State.boundSlot_of_record hr] at hunbound
        exact Option.not_isSome_iff_eq_none.1 hunbound
      rw [State.updateRecord_of_record hr _] at hdone ⊢
      refine hs.unmoved hdone (s.view_setRecord h _) (State.roster_setRecord_same ?_)
      rw [State.roster_of_record hr, ExtRecord.admission_of_unbound hslot]
      exact ExtRecord.admission_of_unbound hslot

theorem lineLaws_removeExt (hr : s.record h = some r) (hs : s.LineLaws) : (removeExt h r s).1.LineLaws := by
  have hdone := (done_removeExt h r s).1
  unfold removeExt at hdone ⊢
  split at hdone
  next hcond =>
    rw [if_pos hcond]
    exact hs
  next hcond =>
    rw [if_neg hcond]
    rw [Bool.or_eq_true, not_or] at hcond
    have hslot := Option.not_isSome_iff_eq_none.1 hcond.1
    refine hs.unmoved hdone (s.view_setRecord h none) (State.roster_setRecord_same ?_)
    rw [State.roster_of_record hr, ExtRecord.admission_of_unbound hslot]
    rfl

/-- A record without a bound slot written over one that was not admitted. -/
theorem State.LineLaws.unadmitted (hs : s.LineLaws) (hc : Changes rx ln s (s.setRecord h (some q))) (hr : s.record h = some r)
    (hadm : r.state.isAdmitted = false) (hq : q.state.isAdmitted = false) : (s.setRecord h (some q)).LineLaws := by
  refine hs.unmoved hc (s.view_setRecord h _) (State.roster_setRecord_same ?_)
  rw [State.roster_of_record hr, ExtRecord.admission_of_not hadm]
  exact ExtRecord.admission_of_not hq

theorem lineLaws_suspendExt (hr : s.record h = some r) (hs : s.LineLaws) : (suspendExt h r s).1.LineLaws := by
  have hdone := (done_suspendExt hr).1
  unfold suspendExt at hdone ⊢
  dsimp only [okay] at hdone ⊢
  rw [State.setAdmission_of_record hr _, State.updateRecord_of_record hr _] at hdone ⊢
  cases hst : r.state with
  | idle =>
    rw [hst] at hdone
    exact hs.unadmitted hdone hr (by rw [hst]; rfl) rfl
  | challenged k' nonce timer =>
    rw [hst] at hdone
    exact hs.unadmitted hdone hr (by rw [hst]; rfl) rfl
  | suspended => exact hs
  | admitted k' timer =>
    rw [hst] at hdone
    exact hs.loss hdone hr (by rw [hst]; rfl) (by rw [hst]; rfl) (s.record_setRecord h · _) rfl (s.view_setRecord h _)
  | refreshing k' nonce timer =>
    rw [hst] at hdone
    exact hs.loss hdone hr (by rw [hst]; rfl) (by rw [hst]; rfl) (s.record_setRecord h · _) rfl (s.view_setRecord h _)
  | barred timer =>
    rw [hst] at hdone
    exact hs.unadmitted hdone hr (by rw [hst]; rfl) rfl

theorem lineLaws_resumeExt (hr : s.record h = some r) (hs : s.LineLaws) : (resumeExt h r s).1.LineLaws := by
  have hdone := (done_resumeExt hr).1
  unfold resumeExt at hdone ⊢
  rw [State.setAdmission_of_record hr _] at hdone ⊢
  split at hdone
  next hst => exact hs.unadmitted hdone hr (by rw [hst]; rfl) rfl
  · exact hs

theorem lineLaws_unbarExt (hr : s.record h = some r) (hs : s.LineLaws) : (unbarExt h r s).1.LineLaws := by
  have hdone := (done_unbarExt hr).1
  unfold unbarExt at hdone ⊢
  rw [State.updateRecord_of_record hr _] at hdone ⊢
  split at hdone
  next hst => exact hs.unadmitted hdone hr (by rw [hst]; rfl) rfl
  · exact hs

theorem lineLaws_revokeExt (hr : s.record h = some r) (hs : s.LineLaws) : (revokeExt h r s).1.LineLaws := by
  have hdone := (done_revokeExt hr).1
  unfold revokeExt at hdone ⊢
  dsimp only [okay] at hdone ⊢
  rw [State.setAdmission_of_record hr _] at hdone ⊢
  cases hst : r.state with
  | admitted k' timer =>
    rw [hst] at hdone
    exact hs.loss hdone hr (by rw [hst]; rfl) (by rw [hst]; rfl) (s.record_setRecord h · _) rfl (s.view_setRecord h _)
  | refreshing k' nonce timer =>
    rw [hst] at hdone
    exact hs.loss hdone hr (by rw [hst]; rfl) (by rw [hst]; rfl) (s.record_setRecord h · _) rfl (s.view_setRecord h _)
  | challenged k' nonce timer =>
    rw [hst] at hdone
    exact hs.unadmitted hdone hr (by rw [hst]; rfl) rfl
  | idle => exact hs
  | barred timer => exact hs
  | suspended => exact hs

/-! ### Admission on the line side (chapter 8) -/

theorem admission_challenged {nonce : Half} {timeout : Nat} (href : helloRefusal slot r.state = none) :
    ExtRecord.admission { r with state := challengedState slot nonce timeout r.state } = r.admission := by
  cases hst : r.state with
  | admitted k' timer =>
    rw [hst] at href
    have hk : k' = slot := by
      by_contra hne
      simp [helloRefusal, hne] at href
    rw [ExtRecord.admission, ExtRecord.admission, hst, hk]
    rfl
  | refreshing k' nonce timer =>
    rw [hst] at href
    have hk : k' = slot := by
      by_contra hne
      simp [helloRefusal, hne] at href
    rw [ExtRecord.admission, ExtRecord.admission, hst, hk]
    rfl
  | _ =>
    rw [ExtRecord.admission, ExtRecord.admission, hst]
    rfl

theorem challengeHello_unmoved (hr : s.record x = some r) (href : helloRefusal slot r.state = none) :
    (s.challengeHello slot x r).view = s.view ∧ (s.challengeHello slot x r).roster = s.roster := by
  unfold State.challengeHello
  split
  · dsimp only
    generalize hu : (if r.state.inChallenge = true then s.notify .superseded x (BitVec.ofNat 16 slot) else s) = u
    have hsame : u.ext = s.ext ∧ u.view = s.view := by
      rw [← hu]
      split
      · exact ⟨rfl, s.view_notify _ _ _⟩
      · exact ⟨rfl, rfl⟩
    have hrecord (y : Handle) : (u.sendChallenge slot).record y = s.record y := by
      show u.ext.records[y] = s.ext.records[y]
      rw [hsame.1]
    rw [State.setAdmission_of_record ((hrecord x).trans hr) _]
    refine ⟨?_, ?_⟩
    · rw [State.view_setRecord, ← hsame.2]
      exact State.view_congr rfl rfl rfl
    · have hroster : (u.sendChallenge slot).roster = s.roster := funext fun y => by rw [State.roster, hrecord]; rfl
      rw [State.roster_setRecord_same, hroster]
      rw [hroster, State.roster_of_record hr]
      exact admission_challenged href
  · exact ⟨s.view_notify _ _ _, State.roster_congr rfl⟩

theorem refuseHello_unmoved (s : State) (slot : Slot) (reason : RefuseReason) :
    (s.refuseHello slot reason).view = s.view ∧ (s.refuseHello slot reason).roster = s.roster :=
  ⟨State.view_congr rfl rfl rfl, State.roster_congr rfl⟩

theorem claimSlot_unmoved (hr : s.record x = some r) (href : helloRefusal slot r.state = none) :
    (s.claimSlot slot x r).view = s.view ∧ (s.claimSlot slot x r).roster = s.roster := by
  unfold State.claimSlot
  split
  · exact challengeHello_unmoved hr href
  next y hy =>
    split
    · exact challengeHello_unmoved hr href
    next hyx =>
      split
      · exact refuseHello_unmoved s slot _
      next hadm =>
        obtain ⟨ry, hry, -⟩ := State.boundSlot_eq_some.1 (State.boundTo_eq_some hy)
        rw [State.admittedWith_any, hry, Option.any_some, Bool.not_eq_true] at hadm
        rw [State.setAdmission_of_record hry _]
        have hrx : (s.setRecord y (some { ry with state := .idle })).record x = some r := by
          rw [State.record_setRecord, if_neg hyx, hr]
        obtain ⟨hview, hroster⟩ := challengeHello_unmoved
          (s := (s.setRecord y (some { ry with state := .idle })).notify .superseded y (BitVec.ofNat 16 slot)) hrx href
        refine ⟨hview.trans ((State.view_notify _ _ _ _).trans (s.view_setRecord y _)), hroster.trans ?_⟩
        refine (State.roster_congr (s := s.setRecord y (some { ry with state := .idle })) rfl).trans
          (State.roster_setRecord_same ?_)
        rw [State.roster_of_record hry, ExtRecord.admission_of_not hadm]
        rfl

theorem lineLaws_takeHello (slot : Slot) (number : ExtNumber) (hs : s.LineLaws) : (s.takeHello slot number).LineLaws := by
  suffices h : (s.takeHello slot number).view = s.view ∧ (s.takeHello slot number).roster = s.roster from
    hs.unmoved (changes_takeHello (rx := true) number s slot) h.1 h.2
  unfold State.takeHello
  split
  · exact refuseHello_unmoved s slot _
  · split
    · exact ⟨rfl, rfl⟩
    next r hr =>
      split
      · exact refuseHello_unmoved s slot _
      next href => exact claimSlot_unmoved hr href

/-- R127: an extension admitted on the slot it was challenged on. -/
theorem lineLaws_grant (hr : s.record x = some r) (hslot : r.state.slot? = some slot) (hs : s.LineLaws) :
    (s.grant x r slot).LineLaws := by
  have hchanges : Changes true true s (s.grant x r slot) := changes_grant hr hslot
  have hrecords := hchanges.keeps Change.recordsDistinct hs.records
  have hview : (s.grant x r slot).view = s.view := State.view_congr rfl rfl rfl
  have hroster (y : Handle) : (s.grant x r slot).roster y = if x = y then some (slot, r.cls) else s.roster y := by
    refine (congrFun (State.roster_congr (t := s.grant x r slot)
      (s := s.setRecord x (some { r with state := .admitted slot s.params.refreshTimer, failures := 0 })) rfl) y).trans ?_
    rw [State.roster_setRecord]
    rfl
  cases hadm : r.state.isAdmitted with
  | true =>
    refine hs.unmoved hchanges hview (funext fun y => ?_)
    rw [hroster]
    split
    next hy =>
      rw [← hy, State.roster_of_record hr]
      exact (ExtRecord.admission_eq_some.2 ⟨hadm, hslot, rfl⟩).symm
    next => rfl
  | false =>
    refine hs.after hchanges fun a => ?_
    rw [hview]
    have hout (p : ExtClass → Bool) : ¬ s.roster.Has x p := by
      rintro ⟨k, c, hw, -⟩
      rw [State.roster_of_record hr, ExtRecord.admission_of_not hadm] at hw
      nomatch hw
    exact a.reroster (h := x) (fun y hy => by rw [hroster, if_neg (Ne.symm hy)]) hrecords.roster_slots
      (fun n e hn => hout _ (a.owners n x e hn)) (fun c hc => hout _ (a.locals c x hc)) fun c hc => hout _ (a.chairs c x hc)

theorem lineLaws_failChallenge {reason : RefuseReason} (hr : s.record x = some r) (hslot : r.state.slot? = some slot)
    (hs : s.LineLaws) : (s.failChallenge x r slot reason).LineLaws := by
  have hchanges : Changes true true s (s.failChallenge x r slot reason) := changes_failChallenge hr hslot
  unfold State.failChallenge at hchanges ⊢
  dsimp only at hchanges ⊢
  obtain ⟨q, hq, hrecord, hview⟩ : ∃ q : ExtRecord, q.state.slot? = none ∧ (∀ y,
      (if r.failures + 1 < s.params.failureLimit then
        ((s.setRecord x (some { r with state := .idle, failures := r.failures + 1 })).queueCell (.refuse slot reason)).notify
          .admitFailed x (reason.value.setWidth 16)
      else
        ((s.setRecord x (some { r with
          state := .barred (s.params.barTime * Config.blocksPerSecond), failures := r.failures + 1 })).queueCell
          (.refuse slot .barred)).notify .barred x (reason.value.setWidth 16)).record y =
        if x = y then some q else s.record y) ∧
      (if r.failures + 1 < s.params.failureLimit then
        ((s.setRecord x (some { r with state := .idle, failures := r.failures + 1 })).queueCell (.refuse slot reason)).notify
          .admitFailed x (reason.value.setWidth 16)
      else
        ((s.setRecord x (some { r with
          state := .barred (s.params.barTime * Config.blocksPerSecond), failures := r.failures + 1 })).queueCell
          (.refuse slot .barred)).notify .barred x (reason.value.setWidth 16)).view = s.view := by
    split
    · exact ⟨{ r with state := .idle, failures := r.failures + 1 }, rfl, fun y => s.record_setRecord x y _,
        State.view_congr rfl rfl rfl⟩
    · exact ⟨{ r with state := .barred (s.params.barTime * Config.blocksPerSecond), failures := r.failures + 1 }, rfl,
        fun y => s.record_setRecord x y _, State.view_congr rfl rfl rfl⟩
  generalize (if r.failures + 1 < s.params.failureLimit then
        ((s.setRecord x (some { r with state := .idle, failures := r.failures + 1 })).queueCell (.refuse slot reason)).notify
          .admitFailed x (reason.value.setWidth 16)
      else
        ((s.setRecord x (some { r with
          state := .barred (s.params.barTime * Config.blocksPerSecond), failures := r.failures + 1 })).queueCell
          (.refuse slot .barred)).notify .barred x (reason.value.setWidth 16)) = u at hchanges hrecord hview ⊢
  split at hchanges
  next hadm =>
    rw [if_pos hadm]
    exact hs.loss hchanges hr hadm hslot hrecord hq hview
  next hadm =>
    rw [if_neg hadm]
    refine hs.unmoved hchanges hview (funext fun y => ?_)
    rw [State.roster, hrecord]
    split
    next hy =>
      rw [← hy, State.roster_of_record hr, ExtRecord.admission_of_not (Bool.eq_false_of_not_eq_true hadm)]
      exact ExtRecord.admission_of_unbound hq
    next => rfl

theorem lineLaws_notify (kind : NoticeKind) (subject : Nat) (detail : Half) (hs : s.LineLaws) :
    (s.notify kind subject detail).LineLaws := hs.congr rfl rfl rfl rfl

theorem lineLaws_takeAnswer (slot : Slot) (word : WheelWord) (hs : s.LineLaws) : (s.takeAnswer slot word).LineLaws := by
  unfold State.takeAnswer
  split
  · exact lineLaws_notify _ _ _ hs
  next x hx =>
    split
    · exact hs
    next r hr =>
      have hslot : r.state.slot? = some slot := (State.boundSlot_of_record hr).symm.trans (State.boundTo_eq_some hx)
      split
      · split
        · exact lineLaws_grant hr hslot hs
        · exact lineLaws_failChallenge hr hslot hs
      · split
        · exact lineLaws_grant hr hslot hs
        · exact lineLaws_failChallenge hr hslot hs
      · exact lineLaws_notify _ _ _ hs

theorem lineLaws_takeBye (slot : Slot) (hs : s.LineLaws) : (s.takeBye slot).LineLaws := by
  have hchanges := changes_takeBye (rx := true) s slot
  unfold State.takeBye at hchanges ⊢
  split at hchanges
  · exact hs
  next x hx =>
    split at hchanges
    · exact hs
    next r hr =>
      have hslot : r.state.slot? = some slot := (State.boundSlot_of_record hr).symm.trans (State.boundTo_eq_some hx)
      dsimp only at hchanges ⊢
      rw [State.setAdmission_of_record hr _] at hchanges ⊢
      split at hchanges
      next hadm =>
        rw [if_pos hadm]
        exact hs.loss hchanges hr hadm hslot (s.record_setRecord x · _) rfl (s.view_setRecord x _)
      next hadm =>
        rw [if_neg hadm]
        exact hs.unadmitted hchanges hr (Bool.eq_false_of_not_eq_true hadm) rfl

theorem lineLaws_takeAdmissionCell (cell : Cell) (hs : s.LineLaws) : (s.takeAdmissionCell cell).LineLaws := by
  have htable (e : ExtTable) (he : e.records = s.ext.records) : State.LineLaws { s with ext := e } := by
    obtain ⟨hrecords, a⟩ := State.lineLaws_iff.1 hs
    have hrecord (y : Handle) : State.record { s with ext := e } y = s.record y :=
      congrArg (fun v : Vector (Option ExtRecord) 256 => v[y]) he
    have hroster : State.roster { s with ext := e } = s.roster := funext fun y => congrArg (·.bind ExtRecord.admission) (hrecord y)
    have hview : State.view { s with ext := e } = s.view := State.view_congr rfl rfl rfl
    refine State.lineLaws_iff.2 ⟨?_, by rw [hview, hroster]; exact a⟩
    refine hrecords.of_records (fun y p hp => .inl ⟨p, (hrecord y).symm.trans hp, rfl⟩) fun y k hk => .inl ?_
    rw [State.boundSlot, hrecord] at hk
    exact hk
  unfold State.takeAdmissionCell
  dsimp only
  split
  · exact hs
  · exact htable _ rfl
  · split
    · exact lineLaws_takeHello _ _ hs
    · exact htable _ rfl
  · split
    · exact lineLaws_takeAnswer _ _ hs
    · exact htable _ rfl
  · split
    · exact lineLaws_takeBye _ hs
    · exact htable _ rfl

theorem lineLaws_admissionArrival (hs : s.LineLaws) : s.admissionArrival.LineLaws := by
  unfold State.admissionArrival
  split
  · exact hs
  · have hdeparted := (changes_admissionDeparture (rx := true) s).lineLaws hs
    exact lineLaws_takeAdmissionCell _ ((changes_arrivalTaken (rx := true) _).lineLaws hdeparted)

theorem lineLaws_answerExpiry (h : Handle) (hs : s.LineLaws) : (s.answerExpiry h).LineLaws := by
  unfold State.answerExpiry
  split
  · exact hs
  next r hr =>
    split
    next hst => exact lineLaws_failChallenge hr (congrArg Admission.slot? hst) hs
    next hst => exact lineLaws_failChallenge hr (congrArg Admission.slot? hst) hs
    · exact hs

/-! ### Held changes and RESTART -/

theorem lineLaws_applyChange {e : HeldChange} (he : e.Staged s.hold) (hs : s.LineLaws) : (applyChange e s).1.LineLaws := by
  cases e with
  | level n g => exact (done_levelLeg (ln := false) n s (he n g rfl)).1.lineLaws hs
  | connect n => exact lineLaws_connectLeg n hs
  | park n => exact lineLaws_parkLeg n hs
  | join c m => exact lineLaws_joinConf c m hs
  | leave c m => exact lineLaws_leaveConf c m hs

theorem lineLaws_applyEntries (i : Nat) (entries : List HeldChange) (hs : s.LineLaws)
    (he : ∀ e ∈ entries, e.Staged s.hold) : (applyEntries i entries s).1.LineLaws := by
  induction entries generalizing i s with
  | nil => exact hs
  | cons e rest ih =>
    refine ih (i + 1) (lineLaws_applyChange (he e List.mem_cons_self) hs) fun x hx => ?_
    show x.Staged (applyChange e s).1.hold
    rw [applyChange_hold]
    exact he x (List.mem_cons_of_mem e hx)

theorem lineLaws_applyCommit (hs : s.LineLaws) : s.applyCommit.LineLaws := by
  unfold State.applyCommit
  split
  next entries hhold =>
    refine (lineLaws_applyEntries 1 entries hs fun e he => staged_of_mem ?_).congr rfl rfl rfl rfl
    rw [hhold]
    exact he
  · exact hs

theorem lineLaws_stageOr {e : HeldChange} {named : State → Bool} {f : State → State × Answer} (hs : s.LineLaws)
    (hf : (f s).1.LineLaws) : (stageOr e named f s).1.LineLaws := by
  cases hhold : s.hold with
  | closed => rwa [stageOr_closed hhold]
  | opened entries mark =>
    rw [stageOr_opened hhold]
    split
    · exact hs
    · split
      · exact hs.congr rfl rfl rfl rfl
      · exact hs

/-- R177: after RESTART nothing stands on the line side. -/
theorem lineLaws_restart (hs : s.LineLaws) : s.restart.LineLaws := by
  refine State.lineLaws_iff.2 ⟨recordsDistinct_law.restart hs.records, ?_⟩
  have hroster (x : Handle) : s.restart.roster x = none := by
    rw [State.roster, State.record_restart]
    cases s.record x with
    | none => rfl
    | some r => exact ExtRecord.admission_of_unbound (Admission.restarted_slot r.state)
  have hplace (n : LegNo) : s.restart.view.place n = none := by simp [State.view, State.restart]
  have hmembers (c : ConfNo) : s.restart.view.members c = [] := by
    show s.restart.membersOf c = []
    simp [State.membersOf, State.restart]
  have hchair (c : ConfNo) : s.restart.view.chair c = none := by simp [State.view, State.restart]
  have hmap (k : Slot) : s.restart.view.map k = .vacant := by simp [State.view, State.restart]
  refine ⟨?_, ?_, ?_, ?_, ?_, ?_, ?_, ?_, ?_, ?_, ?_, ?_⟩
  all_goals simp [hroster, hplace, hmembers, hchair, hmap]

/-! ### Every taking -/

theorem lineLaws_withRecord {a : Option ExtRef} {f : Handle → ExtRecord → State → State × Answer} (hs : s.LineLaws)
    (h : ∀ h r, s.record h = some r → (f h r s).1.LineLaws) : (withRecord a f s).1.LineLaws := by
  unfold withRecord
  split
  · exact hs
  · split
    · exact hs
    · split
      · exact hs
      next r hr => exact h _ r hr

theorem lineLaws_takeFrame (code : Byte) (body : List Byte) (hs : s.LineLaws) : (s.takeFrame code body).LineLaws := by
  have htake (code : Byte) {hd : State → State × Answer} (h : (hd s).1.LineLaws) : (takeRequest code hd s).LineLaws := by
    unfold takeRequest
    split
    · exact h.congr rfl rfl rfl rfl
    · exact hs
  have hargs (code : Byte) {α : Type} {a : Option α} {f : α → State → State × Answer}
      (h : ∀ a', a = some a' → (f a' s).1.LineLaws) : (takeRequest code (withArgs a f) s).LineLaws := by
    refine htake code ?_
    cases a with
    | none => exact hs
    | some a => exact h a rfl
  have hdone {out : State × Answer} (h : Done false s out) : out.1.LineLaws := h.1.lineLaws hs
  unfold State.takeFrame
  split
  · exact hargs _ fun a ha => lineLaws_openLeg (parseLegOpen_gain ha) hs
  · exact hargs _ fun a _ => lineLaws_closeLeg a hs
  · exact hargs _ fun a _ => lineLaws_stageOr hs (lineLaws_connectLeg a hs)
  · exact hargs _ fun a _ => lineLaws_stageOr hs (lineLaws_parkLeg a hs)
  · exact hargs _ fun a ha => lineLaws_stageOr hs (hdone (done_levelLeg a.1 s (.inl (parseLegLevel_gain ha))))
  · exact hargs _ fun a _ => hdone (done_rekeyLeg a s)
  · exact hargs _ fun a _ => hdone (done_readLeg a s)
  · exact hargs _ fun a _ => hdone (done_readTrunk a s)
  · exact hargs _ fun a _ => lineLaws_loadExt a hs
  · exact htake _ (lineLaws_withRecord hs fun h r hr => lineLaws_removeExt hr hs)
  · exact htake _ (lineLaws_withRecord hs fun h r _ => hs)
  · exact htake _ (lineLaws_withRecord hs fun h r hr => lineLaws_suspendExt hr hs)
  · exact htake _ (lineLaws_withRecord hs fun h r hr => lineLaws_resumeExt hr hs)
  · exact htake _ (lineLaws_withRecord hs fun h r hr => lineLaws_unbarExt hr hs)
  · exact htake _ (lineLaws_withRecord hs fun h r hr => lineLaws_revokeExt hr hs)
  · exact hargs _ fun a _ => hdone (done_mapSlots a s)
  · exact hargs _ fun a _ => lineLaws_openConf a hs
  · exact hargs _ fun a _ => lineLaws_stageOr hs (lineLaws_joinConf a.1 a.2 hs)
  · exact hargs _ fun a _ => lineLaws_stageOr hs (lineLaws_leaveConf a.1 a.2 hs)
  · exact hargs _ fun a _ => lineLaws_hostCloseConf a hs
  · exact hargs _ fun a _ => hdone (done_readConf a s)
  · exact hargs _ fun _ _ => hdone (done_beginHold s)
  · refine hargs _ fun _ _ => ?_
    unfold commitHold
    split
    · exact hs
    · exact hs.congr rfl rfl rfl rfl
    · exact hs
  · exact hargs _ fun _ _ => hdone (done_cancelHold s)
  · exact hargs _ fun a _ => hdone (done_setParam a s)
  · exact hargs _ fun _ _ => hs
  · exact hargs _ fun a _ => hdone (done_fetchNotices a s)
  · exact hargs _ fun a _ => hdone (done_maskNotices a s)
  · exact hargs _ fun _ _ => lineLaws_restart hs
  · exact htake _ hs

theorem lineLaws_kept : Kept State.LineLaws where
  completion hs := (changes_completeBlock _).lineLaws hs
  frame lineIn trunkIn hs :=
    Changes.lineLaws (((changes_frameSlots lineIn _).trans (changes_deliver trunkIn _)).trans (changes_handInward _ _)) hs
  arrival f hs := (changes_trunkArrival f _).lineLaws hs
  start hs := (changes_blockStart _).lineLaws hs
  scramble n hs := (changes_scrambleLeg (rx := true) _ n).lineLaws hs
  trunkDeparture hs := (changes_trunkDeparture (rx := true) _).lineLaws hs
  admissionDeparture hs := (changes_admissionDeparture (rx := true) _).lineLaws hs
  admissionArrival := lineLaws_admissionArrival
  answerExpiry := lineLaws_answerExpiry
  barExpiry h hs := (changes_barExpiry (rx := true) _ h).lineLaws hs
  refreshExpiry h hs := (changes_refreshExpiry (rx := true) _ h).lineLaws hs
  governor c hs := (changes_governConf (rx := true) _ c).lineLaws hs
  apply := lineLaws_applyCommit
  request := lineLaws_takeFrame
  answer _ _ hs := hs.congr rfl rfl rfl rfl
  assembly _ hs := hs.congr rfl rfl rfl rfl
  replyDeparture hs := hs.congr rfl rfl rfl rfl
  assert hs h := by
    cases h
    exact hs.congr rfl rfl rfl rfl
  release _ h := by
    cases h
    exact LineLaws_reset.congr rfl rfl rfl rfl

/-- Settles O60: the laws are the accord of what the line side shows with who is admitted, and each taking is made of
moves that keep it. -/
theorem stepsKeepTheLineSide : Obligations.StepsKeepTheLineSide := by
  unfold Obligations.StepsKeepTheLineSide
  exact fun _ _ hs h => lineLaws_kept.step (fun _ hs => hs.congr rfl rfl rfl rfl) hs h

end Sys2Proof.Machine
end

section
/-! PROOFS. The requests of chapters 4 and 6 by their branches: what each handler answers and makes of the leg. -/

namespace Sys2Proof.Machine

variable {s t : State} {n m : LegNo} {l k : Leg} {c : ConfNo} {h : Handle} {slot : Slot} {body : List Byte}

/-- A leg that is FREE, in CLEARING or a conference member is not one to connect or park (R58, R59). -/
def State.Unmovable (s : State) (n : LegNo) : Prop :=
  s.legs[n] = none ∨ ∃ l, s.legs[n] = some l ∧ (l.state.isOpen = false ∨ ∃ c, l.endpoint = .conference c)

/-! ### LEG_CONNECT (R58) -/

theorem connectLeg_unmovable (hn : s.Unmovable n) : connectLeg n s = refuse .state s := by
  unfold connectLeg
  rcases hn with hn | ⟨l, hl, hclosed | ⟨c, hc⟩⟩
  · rw [hn]
  · simp only [hl, hclosed, Bool.not_false, if_true]
  · simp only [hl, hc, ite_self]

theorem connectLeg_busy (hl : s.legs[n] = some l) (ho : l.state.isOpen = true) (hc : ∀ c, l.endpoint ≠ .conference c)
    (hloc : (s.localConf l.owner).isSome = true) : connectLeg n s = refuse .busy s := by
  unfold connectLeg
  rw [hl]
  cases he : l.endpoint with
  | conference c => exact absurd he (hc c)
  | line => simp [ho, he, hloc]
  | parked => simp [ho, he, hloc]

theorem connectLeg_line (hl : s.legs[n] = some l) (ho : l.state.isOpen = true) (he : l.endpoint = .line)
    (hloc : s.localConf l.owner = none) : connectLeg n s = okay [0xFF] s := by
  simp only [connectLeg, hl, ho, he, hloc, Bool.not_true, Bool.false_eq_true, if_false, Option.isSome_none]

theorem connectLeg_parked (hl : s.legs[n] = some l) (ho : l.state.isOpen = true) (he : l.endpoint = .parked)
    (hloc : s.localConf l.owner = none) (hslot : s.boundSlot l.owner = some slot) :
    connectLeg n s = okay [legByte (s.lineLegOf l.owner)] { s with
      legs := (s.parkEndpoint (s.lineLegOf l.owner)).legs.set n (some { l with endpoint := .line })
      line := { s.line with outMap := s.line.outMap.set slot (.leg n) } } := by
  simp only [connectLeg, hl, ho, he, hloc, Bool.not_true, Bool.false_eq_true, if_false, Option.isSome_none, hslot,
    LinePort.setSource]
  cases s.lineLegOf l.owner <;> rfl

theorem State.parkEndpoint_some_legs (hk : s.legs[m] = some k) :
    (s.parkEndpoint (some m)).legs = s.legs.set m (some { k with endpoint := .parked }) :=
  congrArg (fun x : Option Leg => s.legs.set m (x.map fun l : Leg => { l with endpoint := .parked })) hk

/-- Settles O27: one branch of the handler for each row. -/
theorem legConnectTakesTheOwnersSlot : Obligations.LegConnectTakesTheOwnersSlot := by
  unfold Obligations.LegConnectTakesTheOwnersSlot
  intro s body n hs hclosed hbody
  have hnow {t : State} {st : Status} {b : List Byte} (h : connectLeg n s = (t, .now st b)) :
      exec (.legConnect body) s = .next (t.answered 0x03 st b) :=
    exec_legConnect_now hs hbody (by rw [stageOr_closed hclosed]; exact h)
  refine ⟨fun hn => hnow (connectLeg_unmovable hn), fun l hl ho hc hloc => hnow (connectLeg_busy hl ho hc hloc),
    fun l hl ho he hloc => hnow (connectLeg_line hl ho he hloc), fun l slot hl ho he hloc hslot => ⟨fun hnone => ?_,
      fun m k hm hk => ?_⟩⟩
  all_goals have hparked := hnow (connectLeg_parked hl ho he hloc hslot)
  · rw [hnone] at hparked
    exact hparked
  · rw [hm, State.parkEndpoint_some_legs hk] at hparked
    exact hparked

/-! ### LEG_PARK and LEG_LEVEL (R59, R60) -/

theorem parkLeg_unmovable (hn : s.Unmovable n) : parkLeg n s = refuse .state s := by
  unfold parkLeg
  rcases hn with hn | ⟨l, hl, hclosed | ⟨c, hc⟩⟩
  · rw [hn]
  · simp only [hl, hclosed, Bool.not_false, if_true]
  · simp only [hl, hc, ite_self]

theorem parkLeg_parked (hl : s.legs[n] = some l) (ho : l.state.isOpen = true) (he : l.endpoint = .parked) :
    parkLeg n s = okay [] s := by
  simp only [parkLeg, hl, ho, he, Bool.not_true, Bool.false_eq_true, if_false]

theorem parkLeg_line (hl : s.legs[n] = some l) (ho : l.state.isOpen = true) (he : l.endpoint = .line)
    (hslot : s.boundSlot l.owner = some slot) (hmap : s.line.outMap[slot] = .leg n) :
    parkLeg n s = okay [] { s with
      legs := s.legs.set n (some { l with endpoint := .parked })
      line := { s.line with outMap := s.line.outMap.set slot .vacant } } := by
  simp only [parkLeg, hl, ho, he, Bool.not_true, Bool.false_eq_true, if_false, hslot, LinePort.release_named hmap]

theorem levelLeg_closed (g : Int) (hn : s.legs[n] = none ∨ ∃ l, s.legs[n] = some l ∧ l.state.isOpen = false) :
    levelLeg n g s = refuse .state s := by
  unfold levelLeg
  rcases hn with hn | ⟨l, hl, hclosed⟩
  · rw [hn]
  · simp only [hl, hclosed, Bool.false_eq_true, if_false]

theorem levelLeg_open (g : Int) (hl : s.legs[n] = some l) (ho : l.state.isOpen = true) :
    levelLeg n g s = okay [byteOfInt g] { s with legs := s.legs.set n (some { l with gain := g }) } := by
  simp only [levelLeg, hl, ho, if_true]
  rfl

/-- Settles O28: one branch of each handler for each row. -/
theorem legParkAndLevelChangeTheLeg : Obligations.LegParkAndLevelChangeTheLeg := by
  unfold Obligations.LegParkAndLevelChangeTheLeg
  intro s hs hclosed
  refine ⟨fun body n hbody => ?_, fun body n g hbody => ?_⟩
  · have hnow {t : State} {st : Status} {b : List Byte} (h : parkLeg n s = (t, .now st b)) :
        exec (.legPark body) s = .next (t.answered 0x04 st b) :=
      exec_legPark_now hs hbody (by rw [stageOr_closed hclosed]; exact h)
    exact ⟨fun hn => hnow (parkLeg_unmovable hn), fun l hl ho he => hnow (parkLeg_parked hl ho he),
      fun l k hl ho he hslot hmap => hnow (parkLeg_line hl ho he hslot hmap)⟩
  · have hnow {t : State} {st : Status} {b : List Byte} (h : levelLeg n g s = (t, .now st b)) :
        exec (.legLevel body) s = .next (t.answered 0x05 st b) :=
      exec_legLevel_now hs hbody (by rw [stageOr_closed hclosed]; exact h)
    exact ⟨fun hn => hnow (levelLeg_closed g hn),
      fun l hl ho => ⟨(parseLegLevel_gain hbody).1, (parseLegLevel_gain hbody).2, hnow (levelLeg_open g hl ho)⟩⟩

/-! ### LEG_CLOSE (R62, R63) -/

theorem withoutSyncRoll_eq (n : LegNo) (q : List CellRequest) :
    withoutSyncRoll n q = q.filter fun r => decide (r.leg ≠ n ∨ r.kind = .clear) := by
  unfold withoutSyncRoll
  congr 1
  funext r
  cases hk : r.kind <;> by_cases hr : r.leg = n <;> simp [hr]

/-- Settles O26: the six steps are the clearing path's. -/
theorem legCloseClearsTheLeg : Obligations.LegCloseClearsTheLeg := by
  unfold Obligations.LegCloseClearsTheLeg
  intro s body n hs hbody
  refine ⟨fun hn => exec_legClose_now hs hbody ?_, fun l c hl hc => exec_legClose_now hs hbody ?_, fun l hl ho => ?_⟩
  · simp only [closeLeg, hn]
    rfl
  · simp only [closeLeg, hl, hc]
    rfl
  · intro kept
    obtain ⟨hlegs, hqueue, hline, hconfs⟩ := State.clearLeg_some .host (s.boundSlot l.owner) hl
    rw [withoutSyncRoll_eq] at hlegs hqueue
    change _ = s.legs.set n (some (l.cleared .host (decide (kept.length < 16)))) at hlegs
    change _ = (if decide (kept.length < 16) = true then kept ++ [_] else kept) at hqueue
    have hframe := s.clearLeg_frame n .host (s.boundSlot l.owner)
    have hnow : exec (.legClose body) s = .next ((s.clearLeg n .host (s.boundSlot l.owner)).answered 0x02 .ok []) :=
      exec_legClose_now hs hbody (by simp only [closeLeg, hl, ho, if_true]; rfl)
    refine ⟨_, hnow, ?_, ?_, fun he => ?_, fun k he hk hmap => ?_, fun c k he hk => ?_, hframe.trans rfl⟩
    · rw [hlegs, Leg.cleared]
      simp only [← decide_not, Nat.not_lt]
    · rw [hqueue]
      simp only [decide_eq_true_eq]
    · rw [he] at hline hconfs
      exact ⟨hline, hconfs⟩
    · rw [he] at hline hconfs
      refine ⟨hline.trans ?_, hconfs⟩
      rw [hk]
      exact LinePort.release_named hmap
    · rw [he] at hline hconfs
      exact ⟨hline, hconfs.trans (congrArg (fun x : Option Conf => s.confs.set c (x.map (Conf.remove (.leg n)))) hk)⟩

/-! ### LEG_REKEY (R95, R96) -/

theorem rekeyLeg_closed (p : KeySetting) (hn : s.legs[n] = none ∨ ∃ l, s.legs[n] = some l ∧ l.state.isOpen = false) :
    rekeyLeg (n, p) s = refuse .state s := by
  unfold rekeyLeg
  rcases hn with hn | ⟨l, hl, hclosed⟩
  · dsimp only
    rw [hn]
  · simp only [hl, hclosed, Bool.not_false, if_true]

theorem rekeyLeg_sameGeneration {p : KeySetting} (hl : s.legs[n] = some l) (ho : l.state.isOpen = true)
    (hgen : p.gen = l.txKey.gen) : rekeyLeg (n, p) s = refuse .badArgument s := by
  simp only [rekeyLeg, hl, ho, hgen, Bool.not_true, Bool.false_eq_true, if_false, if_true]

theorem Leg.awaits_iff {g : Byte} : l.awaits g = true ↔ l.state = .holding (.key g) := beq_iff_eq

theorem rekeyLeg_busy {p : KeySetting} (hl : s.legs[n] = some l) (ho : l.state.isOpen = true) (hgen : p.gen ≠ l.txKey.gen)
    (hp : l.pendingKey.isSome = true) (ha : l.state ≠ .holding (.key p.gen)) : rekeyLeg (n, p) s = refuse .busy s := by
  have hawaits : l.awaits p.gen = false := Bool.eq_false_of_not_eq_true fun h => ha (Leg.awaits_iff.1 h)
  simp only [rekeyLeg, hl, ho, hgen, hawaits, hp, Bool.not_true, Bool.false_eq_true, if_false, if_true]

/-- R95, R96: the setting made the pending key, and the ROLL asked for. -/
theorem rekeyLeg_given {p : KeySetting} (hl : s.legs[n] = some l) (ho : l.state.isOpen = true) (hgen : p.gen ≠ l.txKey.gen)
    (hp : l.pendingKey = none ∨ l.state = .holding (.key p.gen)) :
    rekeyLeg (n, p) s =
      let asked := s.askRoll n { l with
        pendingKey := some p, switchEpoch := if l.state = .holding (.key p.gen) then none else l.switchEpoch }
      okay [bitByte asked.2] asked.1 := by
  by_cases ha : l.state = .holding (.key p.gen)
  · simp only [rekeyLeg, hl, ho, hgen, Leg.awaits_iff.2 ha, if_pos ha, Bool.not_true, Bool.false_eq_true, if_false, if_true]
  · have hawaits : l.awaits p.gen = false := Bool.eq_false_of_not_eq_true fun h => ha (Leg.awaits_iff.1 h)
    have hnone := hp.resolve_right ha
    simp only [rekeyLeg, hl, ho, hgen, hawaits, ha, hnone, Option.isSome_none, Bool.not_true, Bool.false_eq_true, if_false]

theorem State.askRoll_queued (hq : ⟨.roll, n⟩ ∈ s.cellQueue) : s.askRoll n l = ({ s with legs := s.legs.set n (some l) }, false) := by
  unfold State.askRoll
  rw [if_pos (List.contains_iff_mem.2 hq)]
  rfl

theorem State.askRoll_wanted (hq : ⟨.roll, n⟩ ∉ s.cellQueue) (hw : l.wantsRoll = true) :
    s.askRoll n l = ({ s with legs := s.legs.set n (some l) }, true) := by
  unfold State.askRoll
  rw [if_neg (by rwa [List.contains_iff_mem]), if_pos hw]
  rfl

theorem State.askRoll_room (hq : ⟨.roll, n⟩ ∉ s.cellQueue) (hw : l.wantsRoll = false) (hroom : s.cellQueue.length < 16) :
    s.askRoll n l = ({ s with legs := s.legs.set n (some l), cellQueue := s.cellQueue ++ [⟨.roll, n⟩] }, false) := by
  unfold State.askRoll
  rw [if_neg (by rwa [List.contains_iff_mem]), if_neg (by rw [hw]; decide), if_pos hroom]

theorem State.askRoll_full (hq : ⟨.roll, n⟩ ∉ s.cellQueue) (hw : l.wantsRoll = false) (hfull : 16 ≤ s.cellQueue.length) :
    s.askRoll n l = ({ s with legs := s.legs.set n (some { l with wantsRoll := true }) }, true) := by
  unfold State.askRoll
  rw [if_neg (by rwa [List.contains_iff_mem]), if_neg (by rw [hw]; decide), if_neg (Nat.not_lt.2 hfull)]
  rfl

/-- Settles O29: the checks in order, then the four ways a ROLL is asked for. -/
theorem legRekeySetsThePendingKey : Obligations.LegRekeySetsThePendingKey := by
  unfold Obligations.LegRekeySetsThePendingKey
  intro s body n p hs hbody
  refine ⟨fun hn => exec_legRekey_now hs hbody (rekeyLeg_closed p hn),
    fun l hl ho hgen => exec_legRekey_now hs hbody (rekeyLeg_sameGeneration hl ho hgen),
    fun l hl ho hgen hp ha => exec_legRekey_now hs hbody (rekeyLeg_busy hl ho hgen hp ha), fun l hl ho hgen hp => ?_⟩
  intro given
  have hgiven {u : State} {waits : Bool} (hask : s.askRoll n given = (u, waits)) :
      exec (.legRekey body) s = .next (u.answered 0x06 .ok [bitByte waits]) := by
    refine exec_legRekey_now hs hbody ((rekeyLeg_given hl ho hgen hp).trans ?_)
    dsimp only
    rw [hask]
    rfl
  exact ⟨fun hq => hgiven (State.askRoll_queued hq), fun hq hw => hgiven (State.askRoll_wanted hq hw),
    fun hq hw hroom => hgiven (State.askRoll_room hq hw hroom), fun hq hw hfull => hgiven (State.askRoll_full hq hw hfull)⟩

/-! ### LEG_OPEN (R54 to R56) -/

/-- R54 check 3: another leg has the trunk slot or the receive tag. -/
theorem State.slotOrTagInUse_iff {tag : Byte} : s.slotOrTagInUse slot tag = true ↔
    ∃ (m : LegNo) (k : Leg), s.legs[m] = some k ∧ (k.slot = slot ∨ k.receiveTag = tag) := by
  constructor
  · intro h
    obtain ⟨m, hm⟩ := Option.isSome_iff_exists.1 h
    obtain ⟨k, hk, hp⟩ := Option.any_eq_true _ _ |>.1 (firstPlace_holds hm)
    rw [Bool.or_eq_true, beq_iff_eq, beq_iff_eq] at hp
    exact ⟨m, k, hk, hp⟩
  · rintro ⟨m, k, hk, hp⟩
    by_contra hno
    have := State.slotOrTagInUse_eq_false (Bool.eq_false_of_not_eq_true hno) m k hk
    rcases hp with hp | hp
    · exact this.1 hp.symm
    · exact this.2 hp.symm

theorem checkLegOpen_busy {a : LegOpenArgs} (hleg : s.legs[a.leg] ≠ none) : s.checkLegOpen a = .error .busy := by
  unfold State.checkLegOpen
  rw [if_pos (Option.isSome_iff_ne_none.2 hleg)]

section
variable {a : LegOpenArgs} (hleg : s.legs[a.leg] = none)
include hleg

theorem checkLegOpen_existing (hclash : s.slotOrTagInUse a.slot (a.farTag.getD (byteOf a.slot)) = true) :
    s.checkLegOpen a = .error .existing := by
  unfold State.checkLegOpen
  rw [hleg, if_neg (by decide), if_pos hclash]

/-- R54: the checks of the owner, once the leg, the slot and the tag are free. -/
theorem checkLegOpen_owner (hfree : s.slotOrTagInUse a.slot (a.farTag.getD (byteOf a.slot)) = false) :
    s.checkLegOpen a = match s.findNumber a.owner with
      | none => .error .notFound
      | some h =>
        if !s.admittedWith h (fun _ => true) then .error .notAdmitted
        else if !s.admittedWith h (·.mayScramble) then .error .notPermitted
        else .ok h := by
  unfold State.checkLegOpen
  rw [hleg, if_neg (by decide), hfree, if_neg (by decide)] <;> rfl

end

theorem State.admittedWith_true {p : ExtClass → Bool} (h' : s.admittedWith h p = true) : s.admittedWith h (fun _ => true) = true := by
  rw [State.admittedWith, Option.any_eq_true] at h' ⊢
  obtain ⟨r, hr, hp⟩ := h'
  rw [Bool.and_eq_true] at hp
  exact ⟨r, hr, by rw [hp.1]; rfl⟩

theorem openLeg_refused {a : LegOpenArgs} {st : Status} (hcheck : s.checkLegOpen a = .error st) : openLeg a s = refuse st s := by
  rw [openLeg, hcheck]

theorem openLeg_parked {a : LegOpenArgs} (hcheck : s.checkLegOpen a = .ok h)
    (hline : a.connect = false ∨ (s.localConf h).isSome = true) :
    openLeg a s = okay [0, 0xFF] { s with legs := s.legs.set a.leg (some (a.record h .parked)) } := by
  have hcond : (a.connect && (s.localConf h).isNone) = false := by
    rcases hline with hc | hc
    · rw [hc]
      rfl
    · rw [Option.isNone_eq_false_iff.2 hc, Bool.and_false]
  simp only [openLeg, hcheck, hcond, Bool.false_eq_true, if_false]
  rfl

theorem openLeg_line {a : LegOpenArgs} (hcheck : s.checkLegOpen a = .ok h) (hconnect : a.connect = true)
    (hloc : s.localConf h = none) (hslot : s.boundSlot h = some slot) :
    openLeg a s = okay [1, legByte (s.lineLegOf h)] { s with
      legs := (s.parkEndpoint (s.lineLegOf h)).legs.set a.leg (some (a.record h .line))
      line := { s.line with outMap := s.line.outMap.set slot (.leg a.leg) } } := by
  simp only [openLeg, hcheck, hconnect, hloc, Option.isNone_none, Bool.and_self, if_true, hslot, LinePort.setSource]
  cases s.lineLegOf h <;> rfl

/-- A LEG_OPEN body with an argument out of range does not read. -/
theorem parseLegOpen_eq_none (hbad : 32 ≤ (byteAt body 0).toNat ∨ numberAt body 1 = none ∨ byteAt body 5 = 0 ∨
    63 < (byteAt body 5).toNat ∨ 1 < (byteAt body 6).toNat ∨ (byteAt body 6 = 1 ∧ byteAt body 7 = 0) ∨ byteAt body 8 = 0 ∨
    2 < (byteAt body 9).toNat ∨ 1 < (byteAt body 25).toNat) : parseLegOpen body = none := by
  cases ha : parseLegOpen body with
  | none => rfl
  | some a =>
    have hnumber : numberAt body 1 ≠ none := by
      intro hnone
      simp [parseLegOpen, hnone] at ha
    obtain ⟨-, hleg, -, hlow, hhigh, htag, htagged, hgen, hmode, hconnect⟩ := parseLegOpen_fits ha
    beta_reduce at hleg hlow hhigh htag htagged hgen hmode hconnect
    rcases hbad with h | h | h | h | h | h | h | h | h
    · omega
    · exact absurd h hnumber
    · simp [h] at hlow
    · omega
    · omega
    · exact absurd (by rw [h.2]; rfl) (htagged (by rw [h.1]; rfl))
    · simp [h] at hgen
    · omega
    · omega

/-- Settles O25: the checks in order, then the record and the line side of the leg opened. -/
theorem legOpenChecksThenOpens : Obligations.LegOpenChecksThenOpens := by
  unfold Obligations.LegOpenChecksThenOpens
  constructor
  · intro s body hs
    refine ⟨fun _ hbad => exec_legOpen_bad hs (parseLegOpen_eq_none hbad), fun a ha => ?_⟩
    intro tag clash
    have hclash : clash ↔ s.slotOrTagInUse a.slot (a.farTag.getD (byteOf a.slot)) = true := State.slotOrTagInUse_iff.symm
    have hnow {st : Status} (hcheck : s.checkLegOpen a = .error st) :
        exec (.legOpen body) s = .next (s.answered 0x01 st []) := exec_legOpen_now hs ha (openLeg_refused hcheck)
    have howner (hleg : s.legs[a.leg] = none) (hno : ¬clash) :=
      checkLegOpen_owner hleg (Bool.eq_false_of_not_eq_true fun h => hno (hclash.2 h))
    refine ⟨fun hleg => hnow (checkLegOpen_busy hleg), fun hleg hyes => hnow (checkLegOpen_existing hleg (hclash.1 hyes)),
      fun hleg hno hfind => hnow ?_, fun h hleg hno hfind hadm => hnow ?_, fun h hleg hno hfind hadm hmay => hnow ?_⟩
    · rw [howner hleg hno, hfind]
    · rw [howner hleg hno, hfind]
      simp only [hadm, Bool.not_false, if_true]
    · rw [howner hleg hno, hfind]
      simp only [hadm, hmay, Bool.not_true, Bool.not_false, Bool.false_eq_true, if_false, if_true]
  · intro s body a h hs ha hleg hfree hfind hmay
    have hno : s.slotOrTagInUse a.slot (a.farTag.getD (byteOf a.slot)) = false := by
      refine Bool.eq_false_of_not_eq_true fun huse => ?_
      obtain ⟨m, k, hk, hclash⟩ := State.slotOrTagInUse_iff.1 huse
      exact hclash.elim (hfree m k hk).1 (hfree m k hk).2
    have hcheck : s.checkLegOpen a = .ok h := by
      rw [checkLegOpen_owner hleg hno, hfind]
      simp only [State.admittedWith_true hmay, hmay, Bool.not_true, Bool.false_eq_true, if_false]
    refine ⟨fun hline => exec_legOpen_now hs ha (openLeg_parked hcheck hline), fun slot hconnect hloc hslot hother => ?_,
      fun slot m k hconnect hloc hslot hother hk => ?_, fun ep => rfl⟩
    all_goals have hopened := exec_legOpen_now hs ha (openLeg_line hcheck hconnect hloc hslot)
    · rw [hother] at hopened
      exact hopened
    · rw [hother, State.parkEndpoint_some_legs hk] at hopened
      exact hopened

end Sys2Proof.Machine
end

section
/-! PROOFS. The parameters (R172), RESTART (R177) and the elastic store (R10). -/

namespace Sys2Proof.Machine

variable {s t : State} {v : Half}

/-! ### PARAM_SET (R172) -/

theorem exec_paramSet_value {id : ParamId} {st : Status} {b : List Byte} (hs : s.ready) (h : setParam (id, v.toNat) s = (t, .now st b)) :
    exec (.paramSet (paramBody id v)) s = .next (t.answered 0x19 st b) :=
  exec_paramSet_now hs (parseParamSet_body id v) h

theorem State.allLegsFree_eq_false {n : LegNo} (hn : s.legs[n] ≠ none) : s.allLegsFree = false :=
  Bool.eq_false_of_not_eq_true fun h => hn (State.allLegsFree_iff.1 h n)

/-- R44: the epoch length is set where it differs and no leg is in use. -/
theorem setParam_epochLength (hfree : clampNat 64 4096 v.toNat = s.params.epochLength ∨ ∀ n : LegNo, s.legs[n] = none) :
    setParam (.epochLength, v.toNat) s =
      okay (bytes16 (clampNat 64 4096 v.toNat)) { s with params := { s.params with epochLength := clampNat 64 4096 v.toNat } } := by
  unfold setParam answerParam
  dsimp only
  by_cases hsame : clampNat 64 4096 v.toNat = s.params.epochLength
  · rw [if_pos hsame, hsame]
    rfl
  · rw [if_neg hsame, State.allLegsFree_iff.2 (hfree.resolve_left hsame)]
    rfl

theorem setParam_epochLength_busy {n : LegNo} (hn : s.legs[n] ≠ none) (hother : clampNat 64 4096 v.toNat ≠ s.params.epochLength) :
    setParam (.epochLength, v.toNat) s = refuse .busy s := by
  unfold setParam
  dsimp only
  rw [if_neg hother, State.allLegsFree_eq_false hn]
  rfl

/-- R12: the timing parameter reads as a timing mode. -/
theorem setParam_timing (m : TrunkTiming) (hm : v.toNat = m.value.toNat) : setParam (.timing, v.toNat) s =
    if m = s.params.timing then answerParam .timing s
    else if !s.allLegsFree then refuse .busy s
    else answerParam .timing (s.setTiming m) := by
  unfold setParam
  dsimp only
  rw [hm]
  cases m <;> rfl

theorem bytes16_timing (m : TrunkTiming) : bytes16 m.value.toNat = [0, m.value] := by
  cases m <;> rfl

theorem ExtTable.mapRecords_record (s : State) (f : ExtRecord → ExtRecord) (h : Handle) :
    (s.ext.mapRecords f).records[h] = (s.record h).map f := by
  rw [ExtTable.mapRecords, getElem_ofFn_fin]
  rfl

theorem refreshRange_eq (n : Nat) : refreshRange n = if n = 0 then 0 else clampNat 10 3600 n := by
  unfold refreshRange clampNat
  split <;> rfl

theorem ExtRecord.reclamp_eq {limit : Nat} (hlimit : 1 ≤ limit) (r : ExtRecord) : r.reclamp limit =
    { r with failures := if r.state.isBarred then limit else min r.failures (limit - 1) } := by
  obtain ⟨number, credential, cls, group, scope, state, failures⟩ := r
  have hfree : (if limit ≤ failures then limit - 1 else failures) = min failures (limit - 1) := by
    split <;> omega
  cases state with
  | barred timer => rfl
  | _ =>
    simp only [ExtRecord.reclamp, Admission.isBarred, Bool.false_eq_true, if_false, ← hfree]
    split <;> rfl

/-- Settles O22: one parameter after the other. -/
theorem paramSetTakesTheValueInRange : Obligations.ParamSetTakesTheValueInRange := by
  unfold Obligations.ParamSetTakesTheValueInRange
  intro s v hs
  have hnow {id : ParamId} {t : State} {st : Status} {b : List Byte} (h : setParam (id, v.toNat) s = (t, .now st b)) :=
    exec_paramSet_value hs h
  refine ⟨fun len hlen hfree => ?_, fun n hn hother => hnow (setParam_epochLength_busy hn hother), fun m hm hsame => ?_,
    fun m hm hother hfree => ?_, fun m n hm hother hn => ?_, fun hv => ?_, hnow rfl, hnow rfl, ?_, ?_, ?_, ?_, fun id hid => ?_⟩
  · subst hlen
    exact hnow (setParam_epochLength hfree)
  · refine hnow ((setParam_timing m hm).trans ?_)
    rw [if_pos hsame.symm, answerParam, Params.value, hsame, bytes16_timing]
    rfl
  · refine hnow ((setParam_timing m hm).trans ?_)
    rw [if_neg (Ne.symm hother), State.allLegsFree_iff.2 hfree, answerParam, ← bytes16_timing]
    rfl
  · refine hnow ((setParam_timing m hm).trans ?_)
    rw [if_neg (Ne.symm hother), State.allLegsFree_eq_false hn]
    rfl
  · exact hnow (setParam_badTiming hv)
  · refine hnow ?_
    simp only [setParam, answerParam, Params.value, BitVec.ofNat_toNat, BitVec.setWidth_eq]
    rfl
  · refine hnow ?_
    simp only [setParam, answerParam, Params.value, BitVec.ofNat_toNat, BitVec.setWidth_eq]
    rfl
  · refine ⟨_, hnow (t := { s with
      params := { s.params with refreshInterval := refreshRange v.toNat }
      ext := if refreshRange v.toNat = 0 then s.ext.mapRecords fun r => { r with state := r.state.refreshOff } else s.ext }) rfl,
      rfl, refreshRange_eq _, ?_, fun h => ?_⟩
    · dsimp only
      split <;> rfl
    · have hzero : refreshRange v.toNat = 0 ↔ v.toNat = 0 := by
        rw [refreshRange]
        split
        next h0 => exact iff_of_true rfl h0
        next h0 =>
          refine iff_of_false ?_ h0
          split
          · decide
          · split
            · decide
            · exact h0
      show (if refreshRange v.toNat = 0 then s.ext.mapRecords fun r => { r with state := r.state.refreshOff }
        else s.ext).records[h] = _
      by_cases h0 : v.toNat = 0
      · rw [if_pos (hzero.2 h0), ExtTable.mapRecords_record]
        congr 1
        funext r
        cases hst : r.state <;> simp [Admission.refreshOff, h0]
      · rw [if_neg (fun h => h0 (hzero.1 h))]
        have hmap (f : ExtRecord → ExtRecord) (hf : ∀ r, f r = r) : s.record h = (s.record h).map f := by
          rw [show f = id from funext hf, Option.map_id]
          rfl
        refine hmap _ fun r => ?_
        cases hst : r.state <;> simp [h0, ← hst]
  · by_cases hsame : clampNat 1 15 v.toNat = s.params.failureLimit
    · refine ⟨s, hnow ?_, ?_, rfl, fun h => (if_pos hsame).symm⟩
      · simp only [setParam, hsame, if_true, answerParam, Params.value]
        rfl
      · rw [hsame]
    · refine ⟨{ s with
        params := { s.params with failureLimit := clampNat 1 15 v.toNat }
        ext := s.ext.mapRecords (ExtRecord.reclamp (clampNat 1 15 v.toNat)) }, hnow ?_, rfl, rfl, fun h => ?_⟩
      · simp only [setParam, hsame, if_false, answerParam, Params.value]
        rfl
      · rw [if_neg hsame]
        refine (ExtTable.mapRecords_record s _ h).trans (congrArg (fun f => (s.record h).map f) (funext fun r => ?_))
        exact ExtRecord.reclamp_eq (clampNat_range (by decide) _).1 r
  · refine exec_misfit rfl hs fun hfits => ?_
    have hrange : 0 < id.toNat ∧ id.toNat ≤ 8 ∧ _ := hfits.2
    rcases hid with rfl | hid
    · exact absurd hrange.1 (by decide)
    · omega

/-! ### RESTART (R177) -/

theorem fillFirst_append (r : Reply) {before : List (Option Reply)} (hb : ∀ x ∈ before, x.isSome = true)
    (rest : List (Option Reply)) : fillFirst r (before ++ none :: rest) = before ++ some r :: rest := by
  induction before with
  | nil => rfl
  | cons x before ih =>
    obtain ⟨y, rfl⟩ := Option.isSome_iff_exists.1 (hb x List.mem_cons_self)
    rw [List.cons_append, fillFirst, ih fun z hz => hb z (List.mem_cons_of_mem _ hz), List.cons_append]

/-- Behind a reply that is leaving nothing is sent. -/
theorem Link.send_of_leaving {l : Link} (h : l.leaving.isSome = true) : l.send = l := by
  rcases l.send_cases with ⟨r, rest, hnone, -, -⟩ | ⟨hsend, -⟩
  · rw [hnone] at h
    nomatch h
  · exact hsend

theorem Link.resolve_of_leaving {l : Link} {r : Reply} {before rest : List (Option Reply)} (hl : l.leaving.isSome = true)
    (hr : l.replies = before ++ none :: rest) (hb : ∀ x ∈ before, x.isSome = true) :
    l.resolve r = { l with replies := before ++ some r :: rest } := by
  rw [Link.resolve, hr, fillFirst_append r hb]
  exact Link.send_of_leaving hl

theorem Link.resolve_at_front {l : Link} {r : Reply} {rest : List (Option Reply)} (hl : l.leaving = none)
    (hr : l.replies = none :: rest) : l.resolve r = { l with leaving := some r, replies := rest } := by
  simp only [Link.resolve, hr, fillFirst, Link.send, hl]

theorem Link.endCommit_absent {hold : Hold} (h : hold.mark = .absent) (l : Link) : l.endCommit hold = l := by
  cases hold with
  | closed => rfl
  | opened entries mark =>
    cases mark with
    | absent => rfl
    | pending | due => nomatch h

theorem Link.endCommit_outstanding {hold : Hold} (h : hold.mark ≠ .absent) (l : Link) :
    l.endCommit hold = l.resolve ⟨0x97, .state, []⟩ := by
  cases hold with
  | closed => exact absurd rfl h
  | opened entries mark =>
    cases mark with
    | absent => exact absurd rfl h
    | pending | due => rfl

theorem Link.assembly_send (l : Link) : l.send.assembly = l.assembly := by
  rcases l.send_cases with ⟨r, rest, -, -, hsend⟩ | ⟨hsend, -⟩ <;> rw [hsend]

theorem Link.assembly_endCommit (hold : Hold) (l : Link) : (l.endCommit hold).assembly = l.assembly := by
  unfold Link.endCommit
  split
  · rfl
  · rfl
  · exact Link.assembly_send _

theorem Admission.restarted_eq (a : Admission) : a.restarted = match a with
    | .barred timer => .barred timer
    | .suspended => .suspended
    | _ => .idle := rfl

/-- Settles O24: RESTART's state as written, then the link by whether a commit was outstanding. -/
theorem restartClearsAndKeeps : Obligations.RestartClearsAndKeeps := by
  unfold Obligations.RestartClearsAndKeeps
  intro s hs
  have hpart : restartPart () s = (s.restart, .now .ok []) := rfl
  have hnow := exec_restart_now (a := ()) hs (rfl : parseEmpty [] = some ()) hpart
  have hlink : (s.restart.answered 0x1D .ok []).link = (s.link.endCommit s.hold).push (some ⟨0x9D, .ok, []⟩) := by
    have hcode : replyCode 0x1D = 0x9D := by decide
    rw [State.answered, hcode]
    rfl
  have hext : s.restart.ext.listen = s.ext.listen ∧ s.restart.ext.generator = s.ext.generator := by
    simp [State.restart, ExtTable.mapRecords]
  refine ⟨_, hnow, fun n => ?_, rfl, rfl, rfl, fun c => ?_, rfl, rfl, fun k => ?_, rfl, hext.1, rfl, rfl, hext.2,
    fun h => ?_, rfl, rfl, hs.1, rfl, ?_, fun habsent => ?_, fun hmark before rest hleaving hreplies hbefore => ?_,
    fun hmark rest hnone hreplies => ?_⟩
  · simp [State.answered, State.restart]
  · simp [State.answered, State.restart]
  · simp [State.answered, State.restart]
  · exact State.record_restart s h
  · rw [hlink, Link.push, Link.assembly_send]
    exact Link.assembly_endCommit s.hold s.link
  · rw [hlink, Link.endCommit_absent habsent]
    rfl
  · rw [hlink, Link.endCommit_outstanding hmark, Link.resolve_of_leaving hleaving hreplies hbefore]
    generalize hl : ({ s.link with replies := before ++ some ⟨0x97, .state, []⟩ :: rest } : Link) = l
    have hheld : l.leaving.isSome = true := hl ▸ hleaving
    rw [Link.push_of_held (.inl hheld), ← hl]
    exact ⟨rfl, rfl⟩
  · rw [hlink, Link.endCommit_outstanding hmark, Link.resolve_at_front hnone hreplies, Link.push_of_held (.inl rfl)]
    exact ⟨rfl, rfl⟩

/-! ### Trunk frame arrivals (R10) -/

theorem State.onTaggedLeg_frame (s : State) (tag : Byte) (act : Leg → LegChange × Bool) : (s.onTaggedLeg tag act).1 =
    { s with framer := (s.onTaggedLeg tag act).1.framer, legs := (s.onTaggedLeg tag act).1.legs
             notices := (s.onTaggedLeg tag act).1.notices } := by
  unfold State.onTaggedLeg
  split
  · rfl
  · split
    · rfl
    · dsimp only
      rw [State.notifyAll_frame]
      rfl

theorem State.actOnCell_frame (s : State) (cell : TrunkCell) : (s.actOnCell cell).1 =
    { s with framer := (s.actOnCell cell).1.framer, legs := (s.actOnCell cell).1.legs
             notices := (s.actOnCell cell).1.notices } := by
  cases cell with
  | idle => rfl
  | sync | roll | clear => exact s.onTaggedLeg_frame _ _

/-- R83: a cell acted on and the blocks taken change the framer, the legs and the notices alone. -/
theorem State.completeValid_frame (s : State) (cell : TrunkCell) : s.completeValid cell =
    { s with framer := (s.completeValid cell).framer, legs := (s.completeValid cell).legs
             notices := (s.completeValid cell).notices } := by
  unfold State.completeValid
  dsimp only
  rw [State.takeBlocks_frame, State.actOnCell_frame]

theorem State.badCell_frame (s : State) (p : Position) : s.badCell p =
    { s with framer := (s.badCell p).framer, legs := (s.badCell p).legs, notices := (s.badCell p).notices } := by
  unfold State.badCell
  dsimp only
  split <;> rfl

/-- R82 to R86: a completion changes the framer, the legs and the notices alone. -/
theorem State.completeBlock_frame (s : State) : s.completeBlock =
    { s with framer := s.completeBlock.framer, legs := s.completeBlock.legs, notices := s.completeBlock.notices } := by
  unfold State.completeBlock
  split
  · split
    · rfl
    · unfold State.completePresync
      split
      next cell _ => exact State.completeValid_frame _ cell
      · rfl
    · unfold State.completeSync
      dsimp only
      split
      · split
        · rw [State.completeValid_frame]
        · rw [State.takeBlocks_frame, State.badCell_frame]
      · split
        · rw [State.takeBlocks_frame]
        · rw [State.takeBlocks_frame, State.badCell_frame]
  · rfl

/-- Settles O36: a completion due is taken first, then the frame joins the store. -/
theorem trunkFramesJoinTheStore : Obligations.TrunkFramesJoinTheStore := by
  unfold Obligations.TrunkFramesJoinTheStore
  intro s frame hs
  have harrival (u : State) (hu : u.resetAsserted = false) : exec (.trunkFrameArrival frame) u = .next (u.trunkArrival frame) :=
    whenInService_next hu
  refine ⟨fun htiming => ?_, fun u htiming _ hu => ?_, fun htiming he hroom => ?_, fun f0 f1 htiming he hstore => ?_⟩
  · rw [harrival s hs, State.trunkArrival, htiming]
  · have hcompleted : u = s.completeBlock := by
      rw [exec, execTrunkReceiveBlockCompletion, whenInService_next hs] at hu
      exact (Host.Outcome.next.inj hu).symm
    have hended : u.framer.blockEnded = false := hcompleted ▸ blockEnded_completeBlock s
    have hframe : u.params = s.params ∧ u.trunk = s.trunk ∧ u.resetAsserted = s.resetAsserted := by
      rw [hcompleted, State.completeBlock_frame]
      exact ⟨rfl, rfl, rfl⟩
    refine ⟨?_, hended, hframe.1, hframe.2.1⟩
    rw [harrival s hs, harrival u (hframe.2.2.trans hs), State.trunkArrival, State.trunkArrival, hframe.1, htiming]
    dsimp only
    rw [completeBlock_idle hended, ← hcompleted]
  · rw [harrival s hs, State.trunkArrival, htiming]
    dsimp only
    rw [completeBlock_idle he, if_pos hroom]
  · rw [harrival s hs, State.trunkArrival, htiming]
    dsimp only
    rw [completeBlock_idle he, hstore]
    rfl

end Sys2Proof.Machine
end

section
/-! PROOFS. Extension records loaded and removed (R106 to R108), conferences opened and closed (R147, R148), the
governor (R157, R158). -/

namespace Sys2Proof.Machine

variable {s t : State} {n m : LegNo} {l : Leg} {c : ConfNo} {h : Handle} {r : ExtRecord} {k : Conf} {body : List Byte}

/-! ### EXT_LOAD and EXT_REMOVE -/

theorem loadExt_new {a : ExtLoadArgs} (hnum : ∀ (k : Handle) (r : ExtRecord), s.record k = some r → r.number ≠ a.number)
    (hfree : s.record h = none) (hlow : ∀ k : Handle, k < h → s.record k ≠ none) :
    loadExt a s = okay [byteOf h] (s.setRecord h (some ⟨a.number, a.credential, a.cls, a.group, a.scope, .idle, 0⟩)) := by
  have hlowest : s.lowestFree = some h :=
    firstPlace_eq_some (by rw [hfree]; rfl) fun j hj => Option.isNone_eq_false_iff.2 (Option.isSome_iff_ne_none.2 (hlow j hj))
  simp only [loadExt, State.findNumber_eq_none.2 hnum, hlowest]

theorem loadExt_full {a : ExtLoadArgs} (hnum : ∀ (k : Handle) (r : ExtRecord), s.record k = some r → r.number ≠ a.number)
    (hfull : ∀ k : Handle, s.record k ≠ none) : loadExt a s = refuse .full s := by
  have hlowest : s.lowestFree = none :=
    firstPlace_eq_none.2 fun j => Option.isNone_eq_false_iff.2 (Option.isSome_iff_ne_none.2 (hfull j))
  simp only [loadExt, State.findNumber_eq_none.2 hnum, hlowest]

theorem loadExt_bound {a : ExtLoadArgs} (hfind : s.findNumber a.number = some h) (hr : s.record h = some r)
    (hslot : r.state.slot?.isSome = true) : loadExt a s = refuse .busy s := by
  simp only [loadExt, hfind, State.boundSlot_of_record hr, hslot, if_true]

theorem loadExt_replaced {a : ExtLoadArgs} (hfind : s.findNumber a.number = some h) (hr : s.record h = some r)
    (hslot : r.state.slot? = none) : loadExt a s = okay [byteOf h] (s.setRecord h (some
      ⟨r.number, a.credential, a.cls, a.group, a.scope, r.state, r.failures⟩)) := by
  simp only [loadExt, hfind, State.boundSlot_of_record hr, hslot, Option.isSome_none, Bool.false_eq_true, if_false,
    State.updateRecord_of_record hr]

theorem State.chairedConfs_isEmpty_eq_false : (s.chairedConfs h).isEmpty = false ↔
    ∃ (c : ConfNo) (k : Conf), s.confs[c] = some k ∧ k.chair = some h := by
  rw [List.isEmpty_eq_false_iff_exists_mem]
  refine exists_congr fun c => ?_
  rw [State.chairedConfs, mem_placesWhere, Option.any_eq_true]
  simp only [beq_iff_eq]

theorem removeExt_busy (hbusy : r.state.slot?.isSome = true ∨ ∃ (c : ConfNo) (k : Conf), s.confs[c] = some k ∧ k.chair = some h) :
    removeExt h r s = refuse .busy s := by
  unfold removeExt
  rw [if_pos]
  rw [Bool.or_eq_true, Bool.not_eq_true', State.chairedConfs_isEmpty_eq_false]
  exact hbusy

theorem removeExt_removed (hslot : r.state.slot? = none)
    (hchairs : ¬∃ (c : ConfNo) (k : Conf), s.confs[c] = some k ∧ k.chair = some h) :
    removeExt h r s = okay [byteOf h] (s.setRecord h none) := by
  unfold removeExt
  rw [if_neg]
  rw [Bool.or_eq_true, Bool.not_eq_true', State.chairedConfs_isEmpty_eq_false, hslot]
  exact fun h => h.elim nofun hchairs

/-- Settles O43: the handlers' branches, and what each lookup finds. -/
theorem extensionRecordsAreLoadedAndRemoved : Obligations.ExtensionRecordsAreLoadedAndRemoved := by
  unfold Obligations.ExtensionRecordsAreLoadedAndRemoved
  intro s hs
  refine ⟨fun body a h ha hnum hfree hlow => exec_extLoad_now hs ha (loadExt_new hnum hfree hlow),
    fun body a ha hnum hfull => exec_extLoad_now hs ha (loadExt_full hnum hfull),
    fun body a h r ha hfind hr => ⟨fun hslot => exec_extLoad_now hs ha (loadExt_bound hfind hr hslot),
      fun hslot => exec_extLoad_now hs ha (loadExt_replaced hfind hr hslot)⟩,
    fun body ref h r ha hl hr => ⟨fun hbusy => exec_extRemove_now hs ha hl hr (removeExt_busy hbusy),
      fun hslot hchairs => exec_extRemove_now hs ha hl hr (removeExt_removed hslot hchairs)⟩,
    fun body ref ha hl => exec_extRemove_missing hs ha hl, fun n h hl => State.findNumber_eq_some hl,
    fun n h r hr hn hnone => State.findNumber_eq_none.1 hnone h r hr hn, fun h => ?_⟩
  show (if (s.record h).isSome then some h else none) = _
  cases s.record h <;> rfl

/-! ### CONF_OPEN -/

theorem openConf_busy {chair : Option ExtRef} (hc : s.confs[c] ≠ none) : openConf (c, chair) s = refuse .busy s := by
  unfold openConf
  rw [if_pos (Option.isSome_iff_ne_none.2 hc)]

theorem openConf_noChair (hc : s.confs[c] = none) : openConf (c, none) s = okay [] (s.setConf c (some (Conf.fresh none))) := by
  unfold openConf
  rw [if_neg (by rw [hc]; decide)]

theorem openConf_missing {ref : ExtRef} (hc : s.confs[c] = none) (hl : s.lookup ref = none) :
    openConf (c, some ref) s = refuse .notFound s := by
  unfold openConf
  rw [if_neg (by rw [hc]; decide)]
  simp only [hl]

theorem State.admittedWith_of_record (hr : s.record h = some r) (p : ExtClass → Bool) :
    s.admittedWith h p = (r.state.isAdmitted && p r.cls) := by
  rw [State.admittedWith, hr]
  rfl

/-- R147: the checks of the chair in order. -/
theorem openConf_chair {ref : ExtRef} (hc : s.confs[c] = none) (hl : s.lookup ref = some h) (hr : s.record h = some r) :
    openConf (c, some ref) s =
      if r.state.isAdmitted = false then refuse .notAdmitted s
      else if r.cls.mayConference = false then refuse .notPermitted s
      else okay [] (s.setConf c (some (Conf.fresh (some h)))) := by
  unfold openConf
  rw [if_neg (by rw [hc]; decide)]
  simp only [hl, State.admittedWith_of_record hr]
  cases r.state.isAdmitted <;> cases r.cls.mayConference <;> rfl

/-! ### CONF_CLOSE -/

theorem State.dismiss_legs (s : State) (c : ConfNo) (mem : Member) (n : LegNo) : (s.dismiss c mem).legs[n] =
    if mem = .leg n then (s.legs[n]).map fun l => { l with endpoint := .parked } else s.legs[n] := by
  cases mem with
  | loc h => rfl
  | leg m =>
    by_cases hmn : m = n
    · subst hmn
      rw [if_pos rfl]
      exact State.updateLeg_same ..
    · rw [if_neg fun h => hmn (Member.leg.inj h)]
      exact State.updateLeg_other _ _ _ _ hmn

/-- R7: an entry given up where it names its source. -/
theorem LinePort.release_map (p : LinePort) (slot : Option Slot) (x : SlotSource) (j : Slot) :
    (p.release slot x).outMap[j] = if slot = some j ∧ p.outMap[j] = x then .vacant else p.outMap[j] := by
  cases slot with
  | none => exact (if_neg fun h => nomatch h.1).symm
  | some k =>
    by_cases hk : p.outMap[k] = x
    · rw [LinePort.release_named hk]
      dsimp only
      rw [getElem_set_fin]
      by_cases hkj : k = j
      · subst hkj
        rw [if_pos rfl, if_pos ⟨rfl, hk⟩]
      · rw [if_neg hkj, if_neg fun h => hkj (Option.some.inj h.1)]
    · rw [LinePort.release_other hk, if_neg]
      rintro ⟨hkj, hj⟩
      cases hkj
      exact hk hj

theorem State.dismiss_map (s : State) (c : ConfNo) (mem : Member) (j : Slot) : (s.dismiss c mem).line.outMap[j] =
    if s.line.outMap[j] = .conference c ∧ ∃ h, mem = .loc h ∧ s.boundSlot h = some j then .vacant else s.line.outMap[j] := by
  cases mem with
  | leg n => exact (if_neg fun h => by obtain ⟨_, _, h, _⟩ := h; nomatch h).symm
  | loc h =>
    refine (s.line.release_map _ _ j).trans (if_congr ?_ rfl rfl)
    refine and_comm.trans (and_congr_right fun _ => ⟨fun hb => ⟨h, rfl, hb⟩, ?_⟩)
    rintro ⟨_, hmem, hb⟩
    cases hmem
    exact hb

theorem State.dismiss_frame (s : State) (c : ConfNo) (mem : Member) : s.dismiss c mem =
    { s with legs := (s.dismiss c mem).legs, line := { s.line with outMap := (s.dismiss c mem).line.outMap } } := by
  cases mem with
  | leg n => rfl
  | loc h =>
    unfold State.dismiss
    dsimp only
    rw [LinePort.release_frame]

section
variable (c)

theorem State.dismissAll_frame (members : List Member) (s : State) : members.foldl (State.dismiss c) s =
    { s with legs := (members.foldl (State.dismiss c) s).legs
             line := { s.line with outMap := (members.foldl (State.dismiss c) s).line.outMap } } := by
  induction members generalizing s with
  | nil => rfl
  | cons mem rest ih =>
    rw [List.foldl_cons, ih, State.dismiss_frame]

/-- R148: the legs after the members are dismissed. -/
theorem State.dismissAll_legs (members : List Member) (s : State) (n : LegNo) : (members.foldl (State.dismiss c) s).legs[n] =
    if .leg n ∈ members then (s.legs[n]).map fun l => { l with endpoint := .parked } else s.legs[n] := by
  induction members generalizing s with
  | nil => rfl
  | cons mem rest ih =>
    rw [List.foldl_cons, ih, State.dismiss_legs]
    have hcons : Member.leg n ∈ mem :: rest ↔ mem = .leg n ∨ .leg n ∈ rest := by
      rw [List.mem_cons, eq_comm]
    simp only [hcons]
    by_cases hhead : mem = .leg n <;> by_cases hrest : Member.leg n ∈ rest <;>
      simp [hhead, hrest, Option.map_map, Function.comp_def]

/-- R148: the line slot output map after the members are dismissed. -/
theorem State.dismissAll_map (members : List Member) (s : State) (j : Slot) :
    (members.foldl (State.dismiss c) s).line.outMap[j] =
      if s.line.outMap[j] = .conference c ∧ ∃ h, .loc h ∈ members ∧ s.boundSlot h = some j then .vacant
      else s.line.outMap[j] := by
  induction members generalizing s with
  | nil => exact (if_neg fun h => by obtain ⟨_, _, h, _⟩ := h; nomatch h).symm
  | cons mem rest ih =>
    rw [List.foldl_cons, ih, State.dismiss_map]
    have hcons : (∃ h, .loc h ∈ mem :: rest ∧ s.boundSlot h = some j) ↔
        (∃ h, mem = .loc h ∧ s.boundSlot h = some j) ∨ ∃ h, .loc h ∈ rest ∧ s.boundSlot h = some j := by
      simp only [List.mem_cons, or_and_right, exists_or, eq_comm]
    simp only [State.boundSlot_congr (State.dismiss_ext c s mem), hcons]
    by_cases hj : s.line.outMap[j] = .conference c
    · by_cases hhead : ∃ h, mem = .loc h ∧ s.boundSlot h = some j
      · simp only [hj, hhead, true_or, and_self, if_true, ite_self]
      · simp only [hj, hhead, false_or, true_and, if_false]
    · simp only [hj, false_and, if_false]

end

theorem hostCloseConf_open (hk : s.confs[c] = some k) : hostCloseConf c s = okay [] (s.closeConf c .host) := by
  unfold hostCloseConf
  rw [if_pos (by rw [hk]; rfl)]

theorem hostCloseConf_free (hk : s.confs[c] = none) : hostCloseConf c s = refuse .state s := by
  unfold hostCloseConf
  rw [if_neg (by rw [hk]; decide)]

/-- Settles O50: CONF_OPEN by its checks, CONF_CLOSE by the members dismissed one after another. -/
theorem conferencesOpenAndClose : Obligations.ConferencesOpenAndClose := by
  unfold Obligations.ConferencesOpenAndClose
  intro s hs
  refine ⟨fun body c chair ha => ?_, fun body c ha => ⟨fun hnone => exec_confClose_now hs ha (hostCloseConf_free hnone), ?_⟩⟩
  · intro opened
    refine ⟨fun hc => exec_confOpen_now hs ha (openConf_busy hc), fun hc => ⟨fun hchair => ?_, fun ref hchair hl => ?_,
      fun ref h r hchair hl hr => ?_⟩⟩
    all_goals subst hchair
    · exact exec_confOpen_now hs ha (openConf_noChair hc)
    · exact exec_confOpen_now hs ha (openConf_missing hc hl)
    · have hchair := openConf_chair hc hl hr
      refine ⟨fun hadm => exec_confOpen_now hs ha ?_, fun hadm hmay => exec_confOpen_now hs ha ?_,
        fun hadm hmay => exec_confOpen_now hs ha ?_⟩
      · rw [hchair, if_pos hadm]
        rfl
      · rw [hchair, hadm, if_neg (by decide), if_pos hmay]
        rfl
      · rw [hchair, hadm, hmay, if_neg (by decide), if_neg (by decide)]
        rfl
  · intro k hk
    have hclosed := State.closeConf_some .host hk
    have hframe := State.dismissAll_frame c k.members s
    refine ⟨s.closeConf c .host, exec_confClose_now hs ha (hostCloseConf_open hk), ?_, fun n hn => ?_, fun n hn => ?_, fun j => ?_,
      ?_, ?_⟩
    all_goals rw [hclosed]
    · rw [hframe]
      rfl
    · exact (State.dismissAll_legs c k.members s n).trans (if_pos hn)
    · exact (State.dismissAll_legs c k.members s n).trans (if_neg hn)
    · exact State.dismissAll_map c k.members s j
    · rw [hframe]
      rfl
    · rw [hframe]
      rfl

/-! ### GOVERNOR_UPDATE -/

/-- Settles O52: the count, then its three ranges. -/
theorem governorJudgesTheBlock : Obligations.GovernorJudgesTheBlock := by
  unfold Obligations.GovernorJudgesTheBlock
  intro s c k clipped hs hk hjudged count base put
  have hexec : exec (.governorUpdate c) s = .next (s.governConf c) :=
    whenInService_next (f := fun s => s.governConf c) hs
  have hjudge : exec (.governorUpdate c) s = .next (match k.govern clipped with
      | (q, .quiet) => put q
      | (q, .overload) => (put q).notify .confOverload c 6
      | (q, .relieved) => (put q).notify .confRelieved c 0) := by
    rw [hexec, State.governConf, hk]
    dsimp only
    rw [hjudged]
    dsimp only
    rcases k.govern clipped with ⟨q, _ | _ | _⟩ <;> rfl
  have hquiet {q : Conf} (hg : k.govern clipped = (q, .quiet)) : exec (.governorUpdate c) s = .next (put q) := by
    rw [hjudge, hg]
  have hgovern : k.govern clipped =
      if 192 ≤ count then
        ({ base with governor := 128, attenuation := if k.attenuation < 6 then k.attenuation + 1 else 6
                     overload := k.overload || (if k.attenuation < 6 then k.attenuation + 1 else 6) = 6 },
          if (if k.attenuation < 6 then k.attenuation + 1 else 6) = 6 && !k.overload then .overload else .quiet)
      else if count = 0 then
        ({ base with governor := 128, attenuation := k.attenuation - 1, overload := k.overload && k.attenuation - 1 ≠ 0 },
          if k.attenuation - 1 = 0 && k.overload then .relieved else .quiet)
      else ({ base with governor := count }, .quiet) := rfl
  refine ⟨fun hlow hhigh => hquiet ?_, fun hhigh => ⟨fun hatt => hquiet ?_,
    fun hatt hover => hquiet ?_, fun hatt hover => hjudge.trans ?_⟩,
    fun hzero => ⟨fun hcond => hquiet ?_, fun hatt hover => hjudge.trans ?_⟩⟩
  · rw [hgovern, if_neg (Nat.not_le.2 hhigh), if_neg (Nat.pos_iff_ne_zero.1 hlow)]
  · have hnext : k.attenuation + 1 ≠ 6 := by omega
    rw [hgovern, if_pos hhigh, if_pos (by omega)]
    simp [hnext, base]
  · have hnext : (if k.attenuation < 6 then k.attenuation + 1 else 6) = 6 := by split <;> omega
    rw [hgovern, if_pos hhigh, hnext, hover]
    simp [base]
  · have hnext : (if k.attenuation < 6 then k.attenuation + 1 else 6) = 6 := by split <;> omega
    rw [hgovern, if_pos hhigh, hnext, hover]
    simp [base]
  · rw [hgovern, if_neg (by omega), if_pos hzero]
    rcases hcond with hatt | hover
    · have hnext : k.attenuation - 1 ≠ 0 := by omega
      simp [hnext, base]
    · simp [hover, base]
  · have hnext : k.attenuation - 1 = 0 := by omega
    rw [hgovern, if_neg (by omega), if_pos hzero, hnext, hover]
    simp [base]

end Sys2Proof.Machine
end

section
/-! PROOFS. Members joining and leaving (R149 to R152), and the application of held changes (R166). -/

namespace Sys2Proof.Machine

variable {s t : State} {n m : LegNo} {l : Leg} {c : ConfNo} {h : Handle} {r : ExtRecord} {k : Conf} {slot : Slot}
  {body : List Byte}

/-! ### CONF_JOIN and CONF_LEAVE of a leg -/

/-- R149 check 7: the conference is full, or the pool is. -/
theorem State.noPlace_iff : s.noPlace k = true ↔ 8 ≤ k.members.length ∨ s.freePlaces = 0 := by
  rw [State.noPlace, Bool.or_eq_true, decide_eq_true_eq, beq_iff_eq]

theorem joinLeg_closed (hn : s.legs[n] = none ∨ ∃ l, s.legs[n] = some l ∧ l.state.isOpen = false) :
    joinLeg c k n s = refuse .state s := by
  unfold joinLeg
  rcases hn with hn | ⟨l, hl, hclosed⟩
  · rw [hn]
  · simp only [hl, hclosed, Bool.not_false, if_true]

theorem joinLeg_member {d : ConfNo} (hl : s.legs[n] = some l) (ho : l.state.isOpen = true) (he : l.endpoint = .conference d) :
    joinLeg c k n s = refuse .existing s := by
  simp only [joinLeg, hl, ho, he, Bool.not_true, Bool.false_eq_true, if_false]

/-- R149: the checks of a leg outside the conferences, and its joining. -/
theorem joinLeg_outside (hl : s.legs[n] = some l) (ho : l.state.isOpen = true) (he : ∀ d, l.endpoint ≠ .conference d) :
    joinLeg c k n s =
      if (s.record l.owner).any (·.cls.mayConference) = false then refuse .notPermitted s
      else if s.noPlace k then refuse .full s
      else okay [byteOf (k.members.length + 1), 0xFF] { s with
        confs := s.confs.set c (some (k.append (.leg n)))
        legs := s.legs.set n (some { l with endpoint := .conference c })
        line := if l.endpoint = .line then s.line.release (s.boundSlot l.owner) (.leg n) else s.line } := by
  unfold joinLeg
  rw [hl]
  cases hp : l.endpoint with
  | conference d => exact absurd hp (he d)
  | line => simp only [ho, hp, Bool.not_true, Bool.false_eq_true, if_false, Bool.not_eq_true']
  | parked => simp only [ho, hp, Bool.not_true, Bool.false_eq_true, if_false, Bool.not_eq_true']

theorem leaveMember_absent {x : Member} (hx : x ∉ k.members) : leaveMember c k x s = refuse .notFound s := by
  unfold leaveMember
  rw [if_neg (by rwa [List.contains_iff_mem])]

theorem leaveMember_leg (hx : .leg n ∈ k.members) (hl : s.legs[n] = some l) : leaveMember c k (.leg n) s = okay [] { s with
    confs := s.confs.set c (some (k.remove (.leg n))), legs := s.legs.set n (some { l with endpoint := .parked }) } := by
  unfold leaveMember
  rw [if_pos (List.contains_iff_mem.2 hx)]
  dsimp only
  rw [State.updateLeg, show (s.setConf c (some (k.remove (.leg n)))).legs[n] = some l from hl]
  rfl

theorem leaveMember_local (hx : .loc h ∈ k.members) (hslot : s.boundSlot h = some slot)
    (hmap : s.line.outMap[slot] = .conference c) : leaveMember c k (.loc h) s = okay [] { s with
      confs := s.confs.set c (some (k.remove (.loc h))), line := { s.line with outMap := s.line.outMap.set slot .vacant } } := by
  unfold leaveMember
  rw [if_pos (List.contains_iff_mem.2 hx)]
  dsimp only
  rw [hslot, LinePort.release_named (show (s.setConf c (some (k.remove (.loc h)))).line.outMap[slot] = .conference c from hmap)]
  rfl

/-! ### CONF_JOIN of a local handset -/

/-- R149: the checks of a local handset in order. -/
theorem joinLocal_checks (hr : s.record h = some r) : joinLocal c k h s =
    if r.state.isAdmitted = false then refuse .notAdmitted s
    else if (s.localConf h).isSome then refuse .existing s
    else if r.cls.mayConference = false then refuse .notPermitted s
    else if s.noPlace k then refuse .full s
    else okay [byteOf (k.members.length + 1), legByte (s.lineLegOf h)] { s with
      legs := (s.parkEndpoint (s.lineLegOf h)).legs
      confs := s.confs.set c (some (k.append (.loc h)))
      line := s.line.setSource r.state.slot? (.conference c) } := by
  have hjoined (o : Option LegNo) (k' : Option Slot) : ({ (s.parkEndpoint o).setConf c (some (k.append (.loc h))) with
      line := ((s.parkEndpoint o).setConf c (some (k.append (.loc h)))).line.setSource k' (.conference c) } : State) = { s with
        legs := (s.parkEndpoint o).legs
        confs := s.confs.set c (some (k.append (.loc h)))
        line := s.line.setSource k' (.conference c) } := by
    cases o <;> rfl
  unfold joinLocal
  dsimp only
  rw [State.admittedWith_of_record hr, State.admittedWith_of_record hr, State.boundSlot_of_record hr, hjoined]
  cases r.state.isAdmitted <;> cases r.cls.mayConference <;> rfl

/-- Settles O51: the handlers by their branches, for a leg, for a reference that names nothing and for a local handset. -/
theorem membersJoinAndLeave : Obligations.MembersJoinAndLeave := by
  unfold Obligations.MembersJoinAndLeave
  intro s body c m hs hclosed ha
  have hjoin {t : State} {st : Status} {b : List Byte} (h : joinConf c m s = (t, .now st b)) :
      exec (.confJoin body) s = .next (t.answered 0x12 st b) :=
    exec_confJoin_now hs ha (by rw [stageOr_closed hclosed]; exact h)
  have hleave {t : State} {st : Status} {b : List Byte} (h : leaveConf c m s = (t, .now st b)) :
      exec (.confLeave body) s = .next (t.answered 0x13 st b) :=
    exec_confLeave_now hs ha (by rw [stageOr_closed hclosed]; exact h)
  refine ⟨fun hfree => ⟨hjoin (by rw [joinConf, hfree]; rfl), hleave (by rw [leaveConf, hfree]; rfl)⟩, fun k hk => ?_⟩
  intro noPlace joined left
  have hplace : s.noPlace k = true ↔ noPlace := State.noPlace_iff
  refine ⟨fun n hm => ?_, fun ref hm hl => ?_, fun ref h r hm hl hr => ?_⟩
  all_goals subst hm
  · have hjoin' {t : State} {st : Status} {b : List Byte} (h : joinLeg c k n s = (t, .now st b)) :
        exec (.confJoin body) s = .next (t.answered 0x12 st b) := hjoin (by rw [joinConf, hk]; exact h)
    have hleave' {t : State} {st : Status} {b : List Byte} (h : leaveMember c k (.leg n) s = (t, .now st b)) :
        exec (.confLeave body) s = .next (t.answered 0x13 st b) := hleave (by rw [leaveConf, hk]; exact h)
    refine ⟨fun hn => hjoin' (joinLeg_closed hn), fun l hl ho => ⟨fun d he => hjoin' (joinLeg_member hl ho he),
      fun he hmay => hjoin' ?_, fun he hmay hno => hjoin' ?_, fun he hmay hyes => hjoin' ?_,
      fun hx => hleave' (leaveMember_leg hx hl)⟩, fun hx => hleave' (leaveMember_absent hx)⟩
    all_goals rw [joinLeg_outside hl ho he, hmay]
    · rw [if_pos rfl]
      rfl
    · rw [if_neg (by decide), if_pos (hplace.2 hno)]
      rfl
    · rw [if_neg (by decide), if_neg fun h => hyes (hplace.1 h)]
      rfl
  · exact ⟨hjoin (by simp only [joinConf, hk, hl]; rfl), hleave (by simp only [leaveConf, hk, hl]; rfl)⟩
  · have hjoin' {t : State} {st : Status} {b : List Byte} (h : joinLocal c k h s = (t, .now st b)) :
        exec (.confJoin body) s = .next (t.answered 0x12 st b) := hjoin (by simp only [joinConf, hk, hl]; exact h)
    have hleave' {t : State} {st : Status} {b : List Byte} (h : leaveMember c k (.loc h) s = (t, .now st b)) :
        exec (.confLeave body) s = .next (t.answered 0x13 st b) := hleave (by simp only [leaveConf, hk, hl]; exact h)
    have hchecks := joinLocal_checks (c := c) (k := k) hr
    refine ⟨fun hadm => hjoin' ?_, fun hadm hloc => hjoin' ?_, fun hadm hloc hmay => hjoin' ?_,
      fun hadm hloc hmay hno => hjoin' ?_, fun slot hadm hloc hmay hyes hslot => ?_, fun hx => hleave' (leaveMember_absent hx),
      fun slot hx hslot hmap => hleave' (leaveMember_local hx ((State.boundSlot_of_record hr).trans hslot) hmap)⟩
    · rw [hchecks, if_pos hadm]
      rfl
    · rw [hchecks, hadm, if_neg (by decide), if_pos hloc]
      rfl
    · rw [hchecks, hadm, hloc, if_neg (by decide), if_neg (by decide), if_pos hmay]
      rfl
    · rw [hchecks, hadm, hloc, hmay, if_neg (by decide), if_neg (by decide), if_neg (by decide), if_pos (hplace.2 hno)]
      rfl
    · have hjoined := hchecks
      rw [hadm, hloc, hmay, if_neg (by decide), if_neg (by decide), if_neg (by decide),
        if_neg fun h => hyes (hplace.1 h), hslot] at hjoined
      refine ⟨fun hnone => hjoin' ?_, fun n l hn hl => hjoin' ?_⟩
      · rw [hjoined, hnone]
        rfl
      · rw [hjoined, hn, State.parkEndpoint_some_legs hl]
        rfl

/-! ### The application of held changes (R166) -/

/-- What an entry's request can do: refuse, or answer OK with a change of the legs, the conferences and the map alone. -/
inductive Applied (s : State) (p : List Byte → Prop) : State × Answer → Prop
  | refused (st : Status) : st ≠ .ok → Applied s p (refuse st s)
  | done {t : State} {body : List Byte} : p body →
      t = { s with legs := t.legs, confs := t.confs, line := { s.line with outMap := t.line.outMap } } →
      Applied s p (okay body t)

theorem applied_levelLeg (n : LegNo) (g : Int) (s : State) : Applied s (· = [byteOfInt g]) (levelLeg n g s) := by
  unfold levelLeg
  split
  · exact .refused _ nofun
  · split
    · exact .done rfl rfl
    · exact .refused _ nofun

theorem applied_connectLeg (n : LegNo) (s : State) : Applied s (fun b => ∃ x, b = [x]) (connectLeg n s) := by
  unfold connectLeg
  split
  · exact .refused _ nofun
  · split
    · exact .refused _ nofun
    · split
      · exact .refused _ nofun
      · split
        · exact .refused _ nofun
        · exact .done ⟨_, rfl⟩ rfl
      · split
        · exact .refused _ nofun
        next l _ _ _ _ _ =>
          refine .done ⟨_, rfl⟩ ?_
          generalize s.lineLegOf l.owner = o
          generalize s.boundSlot l.owner = slot
          cases o <;> cases slot <;> rfl

theorem applied_parkLeg (n : LegNo) (s : State) : Applied s (· = []) (parkLeg n s) := by
  unfold parkLeg
  split
  · exact .refused _ nofun
  · split
    · exact .refused _ nofun
    · split
      · exact .refused _ nofun
      · exact .done rfl rfl
      · refine .done rfl ?_
        rw [LinePort.release_frame]

theorem applied_joinLeg (c : ConfNo) (k : Conf) (n : LegNo) (s : State) :
    Applied s (fun b => ∃ x y, b = [x, y]) (joinLeg c k n s) := by
  unfold joinLeg
  split
  · exact .refused _ nofun
  · split
    · exact .refused _ nofun
    · split
      · exact .refused _ nofun
      · split
        · exact .refused _ nofun
        · split
          · exact .refused _ nofun
          · refine .done ⟨_, _, rfl⟩ ?_
            split
            · rw [LinePort.release_frame]
            · rfl

theorem applied_joinLocal (c : ConfNo) (k : Conf) (h : Handle) (s : State) :
    Applied s (fun b => ∃ x y, b = [x, y]) (joinLocal c k h s) := by
  unfold joinLocal
  split
  · exact .refused _ nofun
  · split
    · exact .refused _ nofun
    · split
      · exact .refused _ nofun
      · split
        · exact .refused _ nofun
        · refine .done ⟨_, _, rfl⟩ ?_
          generalize s.lineLegOf h = o
          generalize s.boundSlot h = slot
          cases o <;> cases slot <;> rfl

theorem applied_joinConf (c : ConfNo) (m : MemberRef) (s : State) :
    Applied s (fun b => ∃ x y, b = [x, y]) (joinConf c m s) := by
  unfold joinConf
  split
  · exact .refused _ nofun
  · split
    · exact applied_joinLeg _ _ _ s
    · split
      · exact .refused _ nofun
      · exact applied_joinLocal _ _ _ s

theorem applied_leaveMember (c : ConfNo) (k : Conf) (x : Member) (s : State) : Applied s (· = []) (leaveMember c k x s) := by
  unfold leaveMember
  split
  · dsimp only
    split
    · exact .done rfl rfl
    · refine .done rfl ?_
      rw [LinePort.release_frame]
      rfl
  · exact .refused _ nofun

theorem applied_leaveConf (c : ConfNo) (m : MemberRef) (s : State) : Applied s (· = []) (leaveConf c m s) := by
  unfold leaveConf
  split
  · exact .refused _ nofun
  · split
    · exact applied_leaveMember _ _ _ s
    · split
      · exact .refused _ nofun
      · exact applied_leaveMember _ _ _ s

/-- Section 12.7: the body of an entry's own reply. -/
def HeldChange.BodyFits : HeldChange → List Byte → Prop
  | .level _ g, b => b = [byteOfInt g]
  | .connect _, b => ∃ x, b = [x]
  | .join _ _, b => ∃ x y, b = [x, y]
  | .park _, b | .leave _ _, b => b = []

theorem applied_applyChange (e : HeldChange) (s : State) : Applied s e.BodyFits (applyChange e s) := by
  cases e with
  | level n g => exact applied_levelLeg n g s
  | connect n => exact applied_connectLeg n s
  | park n => exact applied_parkLeg n s
  | join c m => exact applied_joinConf c m s
  | leave c m => exact applied_leaveConf c m s

/-- R166: the entries before the last, then the last. -/
theorem applyEntries_append (i : Nat) (before : List HeldChange) (e : HeldChange) (s : State) :
    applyEntries i (before ++ [e]) s =
      ((applyChange e (applyEntries i before s).1).1,
        (applyEntries i before s).2 ++ e.line (i + before.length) (applyChange e (applyEntries i before s).1).2) := by
  induction before generalizing i s with
  | nil => simp [applyEntries]
  | cons x rest ih =>
    rw [List.cons_append, applyEntries, applyEntries]
    dsimp only
    rw [ih, List.append_assoc, List.length_cons, Nat.add_right_comm, Nat.add_assoc]

/-- The line of an entry dropped. -/
theorem HeldChange.line_refused (e : HeldChange) (i : Nat) {st : Status} (hst : st ≠ .ok) (body : List Byte) :
    e.line i (.now st body) = [byteOf i, e.code, st.value, 0, 0xFF] := by
  cases st with
  | ok => exact absurd rfl hst
  | _ => rfl

/-- The line of an entry that applied. -/
theorem HeldChange.line_applied (e : HeldChange) (i : Nat) {body : List Byte} : e.BodyFits body →
    e.line i (.now .ok body) = [byteOf i, e.code, 0] ++
      (match e with
        | .level _ g => [BitVec.ofInt 8 g, 0xFF] | .connect _ => 0 :: body | .join _ _ => body
        | .park _ => [0, 0xFF] | .leave _ _ => [0, 0xFF]) := by
  intro hb
  cases e with
  | level n g => subst hb; rfl
  | connect n => obtain ⟨x, rfl⟩ := hb; rfl
  | park n => rfl
  | join c m => obtain ⟨x, y, rfl⟩ := hb; rfl
  | leave c m => rfl

/-- Settles O54: the list from its end, each entry by what its request can do, and the requests themselves. -/
theorem commitAppliesTheEntriesInOrder : Obligations.CommitAppliesTheEntriesInOrder := by
  unfold Obligations.CommitAppliesTheEntriesInOrder
  refine ⟨fun s entries hs hhold => ?_, fun _ _ => rfl, fun i before e s => applyEntries_append i before e s, fun e s i => ?_,
    fun c e s hs hclosed hc => ?_, fun l r before rest hb hreplies hleaving => Link.resolve_of_leaving hleaving hreplies hb⟩
  · have hcode : replyCode 0x17 = 0x97 := by decide
    rw [exec, execHoldCommitApply, whenInService_next hs, State.applyCommit, hhold, hcode]
  · have hcode : e.code = (match e with
        | .connect _ => 0x03 | .park _ => 0x04 | .level _ _ => 0x05 | .join _ _ => 0x12 | .leave _ _ => 0x13) := by
      cases e <;> rfl
    have happlied := applied_applyChange e s
    generalize applyChange e s = out at happlied
    cases happlied with
    | refused st hst => exact ⟨st, [], rfl, fun _ => ⟨rfl, e.line_refused i hst []⟩, fun h => absurd h hst, hcode, rfl⟩
    | done hb ht => exact ⟨.ok, _, rfl, fun h => absurd rfl h, fun _ => e.line_applied i hb, hcode, ht⟩
  · obtain ⟨st, body, hanswer⟩ : ∃ st body, (applyChange e s).2 = .now st body := by
      have happlied := applied_applyChange e s
      generalize applyChange e s = out at happlied
      cases happlied <;> exact ⟨_, _, rfl⟩
    have happly : applyChange e s = ((applyChange e s).1, .now st body) := by rw [← hanswer]
    refine ⟨st, body, hanswer, ?_⟩
    rcases hc with ⟨b, n, rfl, ha, rfl⟩ | ⟨b, n, rfl, ha, rfl⟩ | ⟨b, n, g, rfl, ha, rfl⟩ | ⟨b, k, m, rfl, ha, rfl⟩ |
      ⟨b, k, m, rfl, ha, rfl⟩
    · exact exec_legConnect_now hs ha (by rw [stageOr_closed hclosed]; exact happly)
    · exact exec_legPark_now hs ha (by rw [stageOr_closed hclosed]; exact happly)
    · exact exec_legLevel_now hs ha (by rw [stageOr_closed hclosed]; exact happly)
    · exact exec_confJoin_now hs ha (by rw [stageOr_closed hclosed]; exact happly)
    · exact exec_confLeave_now hs ha (by rw [stageOr_closed hclosed]; exact happly)

end Sys2Proof.Machine
end

section
/-! PROOFS. Admission on the line side: HELLO, ANSWER and BYE by their branches, the departure and the three expiries
(R119 to R133). -/

namespace Sys2Proof.Machine

variable {s : State} {x y : Handle} {r q : ExtRecord} {slot : Slot} {cell : Cell}

/-! ### A cell arriving (R119) -/

/-- The state with the arrival taken from the Line Highway Port. -/
def State.arrivalTaken (s : State) : State := { s with line := { s.line with arrival := none } }

theorem exec_admissionCellArrival (hs : s.resetAsserted = false) (harrival : s.line.arrival = some cell)
    (hdue : s.line.cellDue = false) :
    exec .admissionCellArrival s = .next (s.arrivalTaken.takeAdmissionCell cell) := by
  rw [exec, execAdmissionCellArrival, whenInService_next hs, State.admissionArrival, harrival]
  simp only [State.admissionDeparture_not_due hdue]
  rfl

theorem takeAdmissionCell_hello {number : ExtNumber} (hj : judgeAdmissionCell cell = .hello slot number)
    (hl : s.ext.listen[slot] = true) : s.takeAdmissionCell cell = s.takeHello slot number := by
  simp only [State.takeAdmissionCell, hj, hl, if_true]

theorem takeAdmissionCell_answer {word : WheelWord} (hj : judgeAdmissionCell cell = .answer slot word)
    (hl : s.ext.listen[slot] = true) : s.takeAdmissionCell cell = s.takeAnswer slot word := by
  simp only [State.takeAdmissionCell, hj, hl, if_true]

theorem takeAdmissionCell_bye (hj : judgeAdmissionCell cell = .bye slot) (hl : s.ext.listen[slot] = true) :
    s.takeAdmissionCell cell = s.takeBye slot := by
  simp only [State.takeAdmissionCell, hj, hl, if_true]

/-! ### HELLO (R121 to R125) -/

theorem queueCell_eq (s : State) (c : OutgoingCell) : s.queueCell c =
    { s with admQueue := if s.admQueue.length < 8 then s.admQueue ++ [c.build] else s.admQueue } := rfl

theorem refuseHello_eq (s : State) (slot : Slot) (reason : RefuseReason) :
    s.refuseHello slot reason = State.notify { s with admQueue :=
      if s.admQueue.length < 8 then s.admQueue ++ [(OutgoingCell.refuse slot reason).build] else s.admQueue }
      .admitRefused slot (BitVec.ofNat 16 reason.value.toNat) := by
  rw [State.refuseHello, BitVec.ofNat_toNat, queueCell_eq]

theorem takeHello_unknown {number : ExtNumber} (hx : s.findNumber number = none) :
    s.takeHello slot number = s.refuseHello slot .unknown := by
  simp only [State.takeHello, hx]

theorem takeHello_refused {number : ExtNumber} {reason : RefuseReason} (hx : s.findNumber number = some x)
    (hr : s.record x = some r) (hf : helloRefusal slot r.state = some reason) :
    s.takeHello slot number = s.refuseHello slot reason := by
  simp only [State.takeHello, hx, hr, hf]

theorem takeHello_claims {number : ExtNumber} (hx : s.findNumber number = some x) (hr : s.record x = some r)
    (hf : helloRefusal slot r.state = none) : s.takeHello slot number = s.claimSlot slot x r := by
  simp only [State.takeHello, hx, hr, hf]

theorem helloRefusal_of_elsewhere {a : Admission} {k : Slot} (ha : a.isAdmitted = true) (hk : a.slot? = some k)
    (hne : k ≠ slot) : helloRefusal slot a = some .inUse := by
  cases a with
  | admitted | refreshing => exact if_neg fun h => hne ((Option.some_injective _ hk).symm.trans h)
  | _ => cases ha

theorem admittedWith_eq_isAdmitted (hr : s.record x = some r) :
    s.admittedWith x (fun _ => true) = r.state.isAdmitted := by
  rw [State.admittedWith_any, hr, Option.any_some]

theorem claimSlot_busy (hb : s.boundTo slot = some y) (hyx : y ≠ x) (hy : s.record y = some q)
    (ha : q.state.isAdmitted = true) : s.claimSlot slot x r = s.refuseHello slot .slotBusy := by
  simp only [State.claimSlot, hb, hyx, if_false, admittedWith_eq_isAdmitted hy, ha, if_true]

theorem claimSlot_unclaimed (hb : s.boundTo slot = none ∨ s.boundTo slot = some x) :
    s.claimSlot slot x r = s.challengeHello slot x r := by
  rcases hb with hb | hb <;> simp only [State.claimSlot, hb, if_true]

/-- R123: an extension only challenged on the slot loses it. -/
theorem claimSlot_superseded (hb : s.boundTo slot = some y) (hyx : y ≠ x) (hy : s.record y = some q)
    (ha : q.state.isAdmitted = false) : s.claimSlot slot x r =
      ((s.setRecord y (some { q with state := .idle })).notify .superseded y (BitVec.ofNat 16 slot)).challengeHello
        slot x r := by
  simp only [State.claimSlot, hb, hyx, if_false, admittedWith_eq_isAdmitted hy, ha, Bool.false_eq_true,
    State.setAdmission_of_record hy]

theorem challengeHello_full (hq : 8 ≤ s.admQueue.length) :
    s.challengeHello slot x r = s.notify .admitRefused slot 8 := by
  have hroom : s.admRoom = false := decide_eq_false (Nat.not_lt.2 hq)
  simp only [State.challengeHello, hroom, Bool.false_eq_true, if_false]

/-- R124, R125: the challenge of X, the one that is out told as superseded. -/
theorem challengeHello_room (hr : s.record x = some r) (hq : s.admQueue.length < 8) : s.challengeHello slot x r =
    { (if r.state.inChallenge then s.notify .superseded x (BitVec.ofNat 16 slot) else s) with
      admQueue := s.admQueue ++ [(OutgoingCell.challenge slot s.nextNonce).build]
      ext := { s.ext with
        generator := s.nextNonce
        records := s.ext.records.set x (some
          { r with state := challengedState slot s.nextNonce s.params.answerTimeout r.state }) } } := by
  have hroom : s.admRoom = true := decide_eq_true hq
  simp only [State.challengeHello, hroom, if_true]
  cases r.state.inChallenge
  · exact State.setAdmission_of_record (s := s.sendChallenge slot) hr _
  · exact State.setAdmission_of_record
      (s := (s.notify .superseded x (BitVec.ofNat 16 slot)).sendChallenge slot) hr _

/-- Settles O46: the HELLO by the branches of its taking. -/
theorem helloChallengesOrIsRefused : Obligations.HelloChallengesOrIsRefused := by
  unfold Obligations.HelloChallengesOrIsRefused
  intro s cell slot number hs harrival hdue hj hl taken refused nonce challenge fresh again
  have htaken : exec .admissionCellArrival s = .next (taken.takeHello slot number) := by
    rw [exec_admissionCellArrival hs harrival hdue, takeAdmissionCell_hello (s := s.arrivalTaken) hj hl]
    rfl
  have hrefused (reason : RefuseReason) : taken.refuseHello slot reason = refused reason := refuseHello_eq taken slot reason
  rw [htaken]
  refine ⟨fun hx => by rw [takeHello_unknown (s := taken) hx, hrefused], fun x r hx hr => ?_⟩
  have href {reason : RefuseReason} (hf : helloRefusal slot r.state = some reason) :
      taken.takeHello slot number = refused reason := by
    rw [takeHello_refused (s := taken) hx hr hf, hrefused]
  have hclaims (hf : helloRefusal slot r.state = none) : taken.takeHello slot number = taken.claimSlot slot x r :=
    takeHello_claims hx hr hf
  refine ⟨fun hst => congrArg _ (href (by rw [hst]; rfl)), fun t hst => congrArg _ (href (by rw [hst]; rfl)),
    fun k ha hk hne => congrArg _ (href (helloRefusal_of_elsewhere ha hk hne)),
    fun y q hf hb hyx hy ha => by rw [hclaims hf, claimSlot_busy (s := taken) hb hyx hy ha, hrefused], fun u hf hu => ?_⟩
  obtain ⟨hchallenge, hrecord, hqueue, hparams, hnonce⟩ : taken.takeHello slot number = u.challengeHello slot x r ∧
      u.record x = some r ∧ u.admQueue = s.admQueue ∧ u.params = s.params ∧ u.nextNonce = nonce := by
    rw [hclaims hf]
    rcases hu with ⟨hb, rfl⟩ | ⟨y, q, hb, hyx, hy, ha, rfl⟩
    · exact ⟨claimSlot_unclaimed hb, hr, rfl, rfl, rfl⟩
    · refine ⟨claimSlot_superseded hb hyx hy ha, ?_, rfl, rfl, rfl⟩
      exact (State.record_setRecord taken y x _).trans ((if_neg hyx).trans hr)
  rw [hchallenge]
  refine ⟨fun hq => by rw [challengeHello_full (hqueue ▸ hq)], fun hq => ?_⟩
  have hroom := challengeHello_room (slot := slot) hrecord (hqueue ▸ hq)
  rw [hqueue, hparams, hnonce] at hroom
  rw [hroom]
  refine ⟨fun hst => ?_, fun k n t hst => ?_, fun k t hst => ?_, fun k n t hst => ?_⟩ <;> rw [hst] <;> rfl

/-! ### ANSWER and BYE (R126 to R130) -/

theorem takeAnswer_unbound {word : WheelWord} (hb : s.boundTo slot = none) :
    s.takeAnswer slot word = s.notify .strayAnswer slot 0xFFFF := by
  simp only [State.takeAnswer, hb]
  rfl

theorem takeAnswer_admitted {word : WheelWord} {k : Slot} {t : Option Nat} (hb : s.boundTo slot = some x)
    (hr : s.record x = some r) (hst : r.state = .admitted k t) :
    s.takeAnswer slot word = s.notify .strayAnswer slot (BitVec.ofNat 16 x) := by
  simp only [State.takeAnswer, hb, hr, hst]
  rfl

theorem takeAnswer_challenged {word : WheelWord} {k : Slot} {nonce : Half} {t : Nat} (hb : s.boundTo slot = some x)
    (hr : s.record x = some r) (hst : r.state = .challenged k nonce t ∨ r.state = .refreshing k nonce t) :
    s.takeAnswer slot word = if word = admissionWord r.credential nonce then s.grant x r slot
      else s.failChallenge x r slot .wrong := by
  rcases hst with hst | hst <;> simp only [State.takeAnswer, hb, hr, hst]

/-- R128, R129: a failed challenge of an extension that is not admitted counts, and bars it at the limit. -/
theorem failChallenge_below {reason : RefuseReason} (hr : r.state.isAdmitted = false)
    (hlt : r.failures + 1 < s.params.failureLimit) : s.failChallenge x r slot reason =
      ((s.setRecord x (some { r with state := .idle, failures := r.failures + 1 })).queueCell
        (.refuse slot reason)).notify .admitFailed x (reason.value.setWidth 16) := by
  simp only [State.failChallenge, hr, hlt, Bool.false_eq_true, if_false, if_true]

theorem failChallenge_barred {reason : RefuseReason} (hr : r.state.isAdmitted = false)
    (hge : s.params.failureLimit ≤ r.failures + 1) : s.failChallenge x r slot reason =
      ((s.setRecord x (some { r with state := .barred (s.params.barTime * 1000), failures := r.failures + 1 })).queueCell
        (.refuse slot .barred)).notify .barred x (reason.value.setWidth 16) := by
  simp only [State.failChallenge, hr, Nat.not_lt.2 hge, Bool.false_eq_true, if_false]

/-- Settles O47: the ANSWER and the BYE by the branches of their taking. -/
theorem answersAdmitOrCountAFailure : Obligations.AnswersAdmitOrCountAFailure := by
  unfold Obligations.AnswersAdmitOrCountAFailure
  intro s cell slot hs harrival hdue hl taken put
  have htaken := exec_admissionCellArrival hs harrival hdue
  have hanswer {word : WheelWord} (hj : judgeAdmissionCell cell = .answer slot word) :
      exec .admissionCellArrival s = .next (taken.takeAnswer slot word) := by
    rw [htaken, takeAdmissionCell_answer (s := s.arrivalTaken) hj hl]
    rfl
  refine ⟨fun word hj hb => by rw [hanswer hj, takeAnswer_unbound (s := taken) hb], fun x r hb hr => ⟨fun word timer hj hst => ?stray,
    fun word nonce timer hj hst hword => ?grant, fun word nonce timer hj hst hword => ?fail, fun nonce timer hj hst => ?bye⟩⟩
  case stray => rw [hanswer hj, takeAnswer_admitted (s := taken) hb hr hst]
  case grant =>
    have hword : word = admissionWord r.credential nonce := hword
    rw [hanswer hj, takeAnswer_challenged (s := taken) hb hr hst, if_pos hword, State.grant, queueCell_eq]
    rfl
  case fail =>
    have hnot : r.state.isAdmitted = false := by rw [hst]; rfl
    rw [hanswer hj, takeAnswer_challenged (s := taken) hb hr (.inl hst), if_neg hword]
    refine ⟨fun hlt => ?_, fun hge => ?_⟩
    · rw [failChallenge_below (s := taken) hnot hlt, queueCell_eq]
      rfl
    · rw [failChallenge_barred (s := taken) hnot hge, queueCell_eq]
      rfl
  case bye =>
    rw [htaken, takeAdmissionCell_bye (s := s.arrivalTaken) hj hl]
    have hidle : s.arrivalTaken.setAdmission x .idle = s.arrivalTaken.setRecord x (some { r with state := .idle }) :=
      State.setAdmission_of_record (s := s.arrivalTaken) hr _
    have hb' : s.arrivalTaken.boundTo slot = some x := hb
    have hr' : s.arrivalTaken.record x = some r := hr
    have hnot : r.state.isAdmitted = false := by rw [hst]; rfl
    simp only [State.takeBye, hb', hr', hnot, hidle, Bool.false_eq_true, if_false]
    rfl

/-! ### The departure and the timers (R120, R129, R131, R133) -/

theorem answerExpiry_challenged {nonce : Half} (hr : s.record x = some r) (hst : r.state = .challenged slot nonce 0) :
    s.answerExpiry x = s.failChallenge x r slot .timeout := by
  simp only [State.answerExpiry, hr, hst]

theorem barExpiry_due (hr : s.record x = some r) (hst : r.state = .barred 0) :
    s.barExpiry x = (s.setRecord x (some { r with state := .idle, failures := 0 })).notify .barEnded x 0 := by
  simp only [State.barExpiry, hr, hst]

/-- R133: the extensions engaged: REFRESH in their class, and an open leg or a local membership. -/
theorem State.engaged_iff : s.engaged x r = true ↔ r.cls.refresh = true ∧
    ((∃ (n : LegNo) (l : Leg), s.legs[n] = some l ∧ l.owner = x ∧ l.state.isOpen = true) ∨ (s.localConf x).isSome = true) := by
  rw [State.engaged, Bool.and_eq_true, Bool.or_eq_true, Bool.not_eq_true', List.isEmpty_eq_false_iff_exists_mem]
  simp only [mem_openLegsOf]

theorem Admission.refreshDue_iff {a : Admission} : a.refreshDue = true ↔ ∃ k, a = .admitted k (some 0) := by
  constructor
  · intro ha
    unfold Admission.refreshDue at ha
    split at ha
    next k => exact ⟨k, rfl⟩
    next => cases ha
  · rintro ⟨k, rfl⟩
    rfl

/-- R133: the expiry taken is the one of the lowest handle due. -/
theorem nextRefreshExpiry_eq (hr : s.record x = some r) (hst : r.state = .admitted slot (some 0))
    (hlow : ∀ y q k, y < x → s.record y = some q → q.state ≠ .admitted k (some 0)) :
    s.nextRefreshExpiry = s.refreshExpiry x := by
  have hnext : s.nextRefreshDue = some x := by
    refine firstPlace_eq_some ?_ fun y hy => Bool.eq_false_iff.2 fun hdue => ?_
    · rw [hr, Option.any_some]
      exact Admission.refreshDue_iff.2 ⟨slot, hst⟩
    · obtain ⟨q, hq, hd⟩ := (Option.any_eq_true _ _).1 hdue
      obtain ⟨k, hk⟩ := Admission.refreshDue_iff.1 hd
      exact hlow y q k hy hq hk
  simp only [State.nextRefreshExpiry, hnext]

theorem refreshExpiry_idle (hr : s.record x = some r) (hst : r.state = .admitted slot (some 0))
    (he : s.engaged x r = false) :
    s.refreshExpiry x = s.setRecord x (some { r with state := .admitted slot s.params.refreshTimer }) := by
  simp only [State.refreshExpiry, hr, hst, he, Bool.false_eq_true, if_false]
  exact State.setAdmission_of_record hr _

theorem refreshExpiry_full (hr : s.record x = some r) (hst : r.state = .admitted slot (some 0))
    (he : s.engaged x r = true) (hq : 8 ≤ s.admQueue.length) :
    s.refreshExpiry x = s.setRecord x (some { r with state := .admitted slot (some 1) }) := by
  have hroom : s.admRoom = false := decide_eq_false (Nat.not_lt.2 hq)
  simp only [State.refreshExpiry, hr, hst, he, hroom, Bool.false_eq_true, if_false, if_true]
  exact State.setAdmission_of_record hr _

theorem refreshExpiry_room (hr : s.record x = some r) (hst : r.state = .admitted slot (some 0))
    (he : s.engaged x r = true) (hq : s.admQueue.length < 8) :
    s.refreshExpiry x = (s.sendChallenge slot).setRecord x (some
      { r with state := .refreshing slot s.nextNonce s.params.answerTimeout }) := by
  have hroom : s.admRoom = true := decide_eq_true hq
  simp only [State.refreshExpiry, hr, hst, he, hroom, if_true]
  exact State.setAdmission_of_record (s := s.sendChallenge slot) hr _

/-- Settles O48: the departure by the queue, each expiry by its branches. -/
theorem admissionTimersAndDeparture : Obligations.AdmissionTimersAndDeparture := by
  unfold Obligations.AdmissionTimersAndDeparture
  intro s hs sent put
  refine ⟨fun hdue hq => ?empty, fun c rest hdue hq => ?oldest, fun h r slot nonce hr hst => ?answer,
    fun h r hr hst => ?bar, fun h r slot hr hst hlow => ?refresh⟩
  case empty =>
    rw [exec, execAdmissionCellDeparture, whenInService_next hs, State.admissionDeparture_due hdue, hq]
    rfl
  case oldest =>
    rw [exec, execAdmissionCellDeparture, whenInService_next hs, State.admissionDeparture_due hdue, hq]
    rfl
  case answer =>
    intro told
    have hnot : r.state.isAdmitted = false := by rw [hst]; rfl
    rw [exec, execAnswerTimerExpiry, whenInService_next hs, answerExpiry_challenged hr hst]
    refine ⟨fun hlt => ?_, fun hge => ?_⟩
    · rw [failChallenge_below hnot hlt, queueCell_eq]
      rfl
    · rw [failChallenge_barred hnot hge, queueCell_eq]
      rfl
  case bar =>
    rw [exec, execBarTimerExpiry, whenInService_next hs, barExpiry_due hr hst]
    rfl
  case refresh =>
    intro engaged nonce
    have hengaged : s.engaged h r = true ↔ engaged := State.engaged_iff
    rw [exec, execRefreshTimerExpiry, whenInService_next hs, nextRefreshExpiry_eq hr hst fun y q k hy => hlow y q k hy]
    refine ⟨fun hnot => ?_, fun heng hq => ?_, fun heng hq => ?_⟩
    · rw [refreshExpiry_idle hr hst (Bool.eq_false_iff.2 (mt hengaged.1 hnot))]
      rfl
    · rw [refreshExpiry_full hr hst (hengaged.2 heng) hq]
      rfl
    · rw [refreshExpiry_room hr hst (hengaged.2 heng) hq]
      rfl

end Sys2Proof.Machine
end

section
/-! PROOFS. The transmit side at a trunk transmit block start: a leg's block scrambled (R39, R97), the departure of a
cell (R77, R78), and the legs that wait served (R79). -/

namespace Sys2Proof.Machine

variable {s t : State} {n m : LegNo} {l k : Leg} {b : Block} {p : KeySetting}

/-! ### Scrambling a leg's block (R39, R57, R97) -/

theorem askSync_queued (h : ⟨.sync, n⟩ ∈ s.cellQueue) : s.askSync n = s :=
  if_pos (List.contains_iff_mem.2 h)

theorem askSync_room (h : ⟨.sync, n⟩ ∉ s.cellQueue) (hq : s.cellQueue.length < 16) :
    s.askSync n = { s with cellQueue := s.cellQueue ++ [⟨.sync, n⟩] } := by
  rw [State.askSync, if_neg (mt List.contains_iff_mem.1 h), if_pos hq]

theorem askSync_full (h : ⟨.sync, n⟩ ∉ s.cellQueue) (hq : 16 ≤ s.cellQueue.length) (hl : s.legs[n] = some l) :
    s.askSync n = { s with
      framer := { s.framer with skippedSyncs := bump s.framer.skippedSyncs }
      legs := s.legs.set n (some { l with skippedSyncs := bump l.skippedSyncs }) } := by
  rw [State.askSync, if_neg (mt List.contains_iff_mem.1 h), if_neg (Nat.not_lt.2 hq), hl]
  rfl

theorem setLeg_askSync_full (h : ⟨.sync, n⟩ ∉ s.cellQueue) (hq : 16 ≤ s.cellQueue.length) :
    (s.setLeg n (some l)).askSync n = { s with
      framer := { s.framer with skippedSyncs := bump s.framer.skippedSyncs }
      legs := s.legs.set n (some { l with skippedSyncs := bump l.skippedSyncs }) } := by
  rw [askSync_full (s := s.setLeg n (some l)) (l := l) h hq (by simp [State.setLeg]), State.setLeg]
  simp only [Vector.set_set]

/-- R97, R102: the transmit switch; the pending key stays while the receive side does not hold its generation. -/
theorem transmitSwitch_eq (hp : l.pendingKey = some p) : l.transmitSwitch p =
    { l with txKey := ⟨p.gen, p.mode, p.scramble⟩, switchEpoch := none,
             pendingKey := if l.rxKey.gen = p.gen then none else some p } := by
  simp only [Leg.transmitSwitch, Leg.settlePending, hp, KeySetting.forTransmit, decide_true, Bool.true_and,
    decide_eq_true_eq]
  split <;> rfl

theorem switchDue_eq_none (h : l.tx.index ≠ 0 ∨ l.switchEpoch ≠ some l.tx.epoch ∨ l.pendingKey = none) :
    l.switchDue = none := by
  rw [Leg.switchDue]
  split
  next hdue =>
    simp only [Bool.and_eq_true, decide_eq_true_eq, beq_iff_eq] at hdue
    rcases h with h | h | h
    · exact absurd hdue.1 h
    · exact absurd hdue.2 h
    · exact h
  next => rfl

theorem switchDue_eq_some (hi : l.tx.index = 0) (he : l.switchEpoch = some l.tx.epoch) (hp : l.pendingKey = some p) :
    l.switchDue = some p := by
  rw [Leg.switchDue, hi, he, hp]
  simp

theorem scrambleLeg_idle (hl : s.legs[n] = some l) (h : l.gathered = none ∨ l.state.isOpen = false) :
    s.scrambleLeg n = s := by
  rcases h with h | h
  · simp only [State.scrambleLeg, hl, h]
  · simp only [State.scrambleLeg, hl, h, Bool.false_eq_true, if_false]
    cases l.gathered <;> rfl

theorem scrambleLeg_within (hl : s.legs[n] = some l) (hb : l.gathered = some b) (ho : l.state.isOpen = true)
    (hi : l.tx.index ≠ 0) : s.scrambleLeg n = s.setLeg n (some (l.scramble s.params.epochLength b)) := by
  simp only [State.scrambleLeg, hl, hb, ho, if_true, switchDue_eq_none (.inl hi), hi, if_false]

theorem scrambleLeg_epochStart (hl : s.legs[n] = some l) (hb : l.gathered = some b) (ho : l.state.isOpen = true)
    (hi : l.tx.index = 0) (hd : l.switchDue = none) :
    s.scrambleLeg n = (s.setLeg n (some (l.scramble s.params.epochLength b))).askSync n := by
  simp only [State.scrambleLeg, hl, hb, ho, if_true, hd, hi]

theorem scrambleLeg_switch (hl : s.legs[n] = some l) (hb : l.gathered = some b) (ho : l.state.isOpen = true)
    (hd : l.switchDue = some p) : s.scrambleLeg n =
      ((s.setLeg n (some ((l.transmitSwitch p).scramble s.params.epochLength b))).notify .keyRolled n
        (p.gen.setWidth 16)).askSync n := by
  simp only [State.scrambleLeg, hl, hb, ho, if_true, hd, BitVec.ofNat_toNat]

/-- Settles O32: no block to scramble, a block within an epoch, an epoch start with its SYNC, and the transmit switch. -/
theorem legBlockScrambled : Obligations.LegBlockScrambled := by
  unfold Obligations.LegBlockScrambled
  intro s n l hs hl
  have hexec : exec (.legBlockScramble n) s = .next (s.scrambleLeg n) := by
    rw [exec, execLegBlockScramble, whenInService_next hs]
  rw [hexec]
  refine ⟨fun h => by rw [scrambleLeg_idle hl h], fun b hb ho => ?_⟩
  intro sent
  have hsent (l : Leg) (v : WheelWord) (hv : l.tx.nextValue l.txKey.key = v) :
      l.scramble s.params.epochLength b = sent l.txKey v l := by
    rw [Leg.scramble, Counters.take, hv]
  have hstart (l : Leg) (hi : l.tx.index = 0) :
      l.tx.nextValue l.txKey.key = wheelStep l.txKey.key (epochSeed l.txKey.key l.tx.epoch) := if_pos hi
  refine ⟨fun hi => ?within, fun hi hno => ?start, fun p hi he hp => ?switch⟩
  case within =>
    rw [scrambleLeg_within hl hb ho hi, hsent l _ (if_neg hi)]
    rfl
  case start =>
    intro l'
    rw [scrambleLeg_epochStart hl hb ho hi (switchDue_eq_none (.inr hno)), hsent l _ (hstart l hi)]
    refine ⟨fun hq => ?_, fun hq hroom => ?_, fun hq hfull => ?_⟩
    · rw [askSync_queued (s := s.setLeg n _) hq]
      rfl
    · rw [askSync_room (s := s.setLeg n _) hq hroom]
      rfl
    · rw [setLeg_askSync_full hq hfull]
  case switch =>
    intro key l' rolled
    rw [scrambleLeg_switch hl hb ho (switchDue_eq_some hi he hp), transmitSwitch_eq hp,
      hsent { l with txKey := key, switchEpoch := none, pendingKey := if l.rxKey.gen = p.gen then none else some p } _
        (hstart _ hi)]
    refine ⟨fun hq => ?_, fun hq hroom => ?_, fun hq hfull => ?_⟩
    · rw [askSync_queued (s := (s.setLeg n _).notify .keyRolled n _) hq]
      rfl
    · rw [askSync_room (s := (s.setLeg n _).notify .keyRolled n _) hq hroom]
      rfl
    · exact congrArg _ (setLeg_askSync_full (s := s.notify .keyRolled n _) hq hfull)

/-! ### The legs that wait (R79) -/

/-- R79: the leg waits to queue a request of this kind. -/
def State.Waits (s : State) (n : LegNo) (kind : RequestKind) : Prop :=
  ∃ l, s.legs[n] = some l ∧ ((kind = .clear ∧ l.wantsClear = true) ∨ (kind = .roll ∧ l.wantsRoll = true))

/-- A leg is served where it waits and the queue has room; else nothing changes. -/
theorem serveWants_cases (s : State) (n : LegNo) :
    (s.serveWants n = s ∧ ((∀ kind, ¬s.Waits n kind) ∨ 16 ≤ s.cellQueue.length)) ∨
    ∃ l k kind, s.legs[n] = some l ∧ s.Waits n kind ∧ s.cellQueue.length < 16 ∧
      ((kind = .clear ∧ k = { l with wantsClear := false }) ∨
        (kind = .roll ∧ l.wantsClear = false ∧ k = { l with wantsRoll := false })) ∧
      s.serveWants n = { s with cellQueue := s.cellQueue ++ [⟨kind, n⟩], legs := s.legs.set n (some k) } := by
  cases hl : s.legs[n] with
  | none => exact .inl ⟨by simp only [State.serveWants, hl], .inl fun kind ⟨l, h, _⟩ => nomatch hl.symm.trans h⟩
  | some l =>
    rcases Nat.lt_or_ge s.cellQueue.length 16 with hq | hq
    case inr => exact .inl ⟨by simp only [State.serveWants, hl, Nat.not_lt.2 hq, if_false], .inr hq⟩
    case inl =>
      cases hc : l.wantsClear with
      | true =>
        exact .inr ⟨l, _, .clear, rfl, ⟨l, hl, .inl ⟨rfl, hc⟩⟩, hq, .inl ⟨rfl, rfl⟩,
          by simp only [State.serveWants, hl, hq, hc, if_true]⟩
      | false =>
        cases hr : l.wantsRoll with
        | true =>
          exact .inr ⟨l, _, .roll, rfl, ⟨l, hl, .inr ⟨rfl, hr⟩⟩, hq, .inr ⟨rfl, hc, rfl⟩,
            by simp only [State.serveWants, hl, hq, hc, hr, if_true, Bool.false_eq_true, if_false]⟩
        | false =>
          refine .inl ⟨by simp only [State.serveWants, hl, hq, hc, hr, if_true, Bool.false_eq_true, if_false],
            .inl fun kind ⟨k, hk, hw⟩ => ?_⟩
          cases hl.symm.trans hk
          rcases hw with ⟨_, hw⟩ | ⟨_, hw⟩
          · exact nomatch hc.symm.trans hw
          · exact nomatch hr.symm.trans hw

/-- No leg waits. -/
def State.NoneWaits (s : State) : Prop :=
  ∀ (n : LegNo) (l : Leg), s.legs[n] = some l → l.wantsRoll = false ∧ l.wantsClear = false

theorem serveAll_of_noneWaits (h : s.NoneWaits) (ns : List LegNo) : ns.foldl State.serveWants s = s := by
  have hstep (n : LegNo) : s.serveWants n = s := by
    rcases serveWants_cases s n with ⟨hsame, _⟩ | ⟨l, k, kind, hl, ⟨l', hl', hw⟩, _⟩
    · exact hsame
    · cases hl.symm.trans hl'
      obtain ⟨hroll, hclear⟩ := h n l hl
      rcases hw with ⟨_, hw⟩ | ⟨_, hw⟩
      · exact nomatch hclear.symm.trans hw
      · exact nomatch hroll.symm.trans hw
  induction ns with
  | nil => rfl
  | cons n rest ih => rw [List.foldl_cons, hstep n, ih]

theorem State.NoneWaits.set (h : s.NoneWaits) {x : Option Leg} (ht : t.legs = s.legs.set n x)
    (hx : ∀ k, x = some k → k.wantsRoll = false ∧ k.wantsClear = false) : t.NoneWaits := by
  intro m k hm
  rw [ht, getElem_set_fin] at hm
  split at hm
  · exact hx k hm
  · exact h m k hm

/-! ### The departure of a cell (R77, R78) -/

/-- The departure of a trunk transmit block start taken from what is due. -/
def State.noCellDue (s : State) : State := { s with trunk := { s.trunk with cellDue := false } }

theorem exec_trunkCellDeparture (hs : s.resetAsserted = false) (hdue : s.trunk.cellDue = true) :
    exec .trunkCellDeparture s = .next
      ((List.finRange 32).foldl State.serveWants s.noCellDue.departCell) := by
  rw [exec, execTrunkCellDeparture, whenInService_next hs, State.trunkDeparture, if_pos hdue]
  rfl

theorem departCell_empty (hq : s.cellQueue = []) :
    s.departCell = { s with trunk := { s.trunk with cellOut := idleTrunkCell } } := by
  rw [State.departCell, hq]

theorem departCell_request {r : CellRequest} {rest : List CellRequest} {u : State} {cell : Cell}
    (hq : s.cellQueue = r :: rest) (hr : State.sendRequest { s with cellQueue := rest } r = (u, cell)) :
    s.departCell = { u with trunk := { u.trunk with cellOut := cell } } := by
  simp only [State.departCell, hq, hr]

theorem sendRequest_sync (hl : s.legs[n] = some l) : State.sendRequest s ⟨.sync, n⟩ =
    (s, (TrunkCell.sync (byteOf l.slot) l.emitted.1 (BitVec.ofNat 12 l.emitted.2.1) l.emitted.2.2).build) := by
  simp only [State.sendRequest, hl]

theorem sendRequest_roll (hl : s.legs[n] = some l) (hp : l.pendingKey = some p) : State.sendRequest s ⟨.roll, n⟩ =
    (s.setLeg n (some { l with switchEpoch := some (l.emitted.1 + 2) }),
      (TrunkCell.roll (byteOf l.slot) p.gen (l.emitted.1 + 2)).build) := by
  simp only [State.sendRequest, hl, hp]

theorem sendRequest_clear {cause : CloseCause} (hl : s.legs[n] = some l) (hst : l.state = .clearing cause) :
    State.sendRequest s ⟨.clear, n⟩ = ((s.setLeg n none).notify .legClosed n (cause.value.setWidth 16),
      (TrunkCell.clear (byteOf l.slot)).build) := by
  simp only [State.sendRequest, hl, hst]

/-- R78: a leg that has scrambled its block, or gathers none, is named by what it emits. -/
theorem emitted_of_emission {e : Emission} (hg : l.gathered = none) (he : l.emission = some e) :
    l.emitted = (e.epoch, e.index, e.gen) := by
  simp only [Leg.emitted, hg, he]

/-- R78: a leg whose block is still to be scrambled is named by the counters and the key it will use. -/
theorem emitted_of_gathered (hg : l.gathered = some b) : l.emitted = (l.tx.epoch, l.tx.index,
    if l.tx.index = 0 ∧ l.switchEpoch = some l.tx.epoch then (l.pendingKey.map (·.gen)).getD l.txKey.gen
    else l.txKey.gen) := by
  have hd : l.switchDue = if l.tx.index = 0 ∧ l.switchEpoch = some l.tx.epoch then l.pendingKey else none := by
    simp only [Leg.switchDue, Bool.and_eq_true, decide_eq_true_eq, beq_iff_eq]
  simp only [Leg.emitted, hg, hd]
  by_cases hdue : l.tx.index = 0 ∧ l.switchEpoch = some l.tx.epoch
  · rw [if_pos hdue, if_pos hdue]
    cases l.pendingKey <;> rfl
  · rw [if_neg hdue, if_neg hdue]

theorem emitted_epoch_of_silent (hg : l.gathered = none) (he : l.emission = none) : l.emitted.1 = l.tx.epoch := by
  simp only [Leg.emitted, hg, he]

/-- Settles O33: the cell by the request at the head of the queue; no leg waits to be served after it. -/
theorem trunkCellDeparts : Obligations.TrunkCellDeparts := by
  unfold Obligations.TrunkCellDeparts
  intro s hs hdue hnone sending
  have hidle : s.NoneWaits := hnone
  have hexec := exec_trunkCellDeparture hs hdue
  have hempty (u : State) (hu : s.noCellDue.departCell = u) (hwaits : u.NoneWaits) :
      exec .trunkCellDeparture s = .next u := by
    rw [hexec, hu, serveAll_of_noneWaits hwaits]
  have hdepart {r : CellRequest} {rest : List CellRequest} {u : State} {cell : Cell} (hq : s.cellQueue = r :: rest)
      (hr : State.sendRequest { s.noCellDue with cellQueue := rest } r = (u, cell)) (hwaits : u.NoneWaits) :
      exec .trunkCellDeparture s = .next { u with trunk := { u.trunk with cellOut := cell } } :=
    hempty _ (departCell_request (s := s.noCellDue) hq hr) hwaits
  refine ⟨fun hq => hempty _ (departCell_empty (s := s.noCellDue) hq) hidle, fun n l e rest hq hl hg he => ?syncSent,
    fun n l b rest hq hl hg => ?syncGathered, fun n l p e rest hq hl hp hg he => ?rollSent,
    fun n l p b rest hq hl hp hg => ?rollGathered, fun n l cause rest hq hl hst => ?clear⟩
  case syncSent =>
    have hcell := hdepart hq (sendRequest_sync (s := { s.noCellDue with cellQueue := rest }) hl) hidle
    rw [emitted_of_emission hg he] at hcell
    exact hcell
  case syncGathered =>
    have hcell := hdepart hq (sendRequest_sync (s := { s.noCellDue with cellQueue := rest }) hl) hidle
    rw [emitted_of_gathered hg] at hcell
    exact hcell
  case rollSent =>
    have hepoch : l.emitted.1 = e.epoch := by
      rcases he with he | ⟨he, rfl⟩
      · rw [emitted_of_emission hg he]
      · exact emitted_epoch_of_silent hg he
    have hcell := hdepart hq (sendRequest_roll (s := { s.noCellDue with cellQueue := rest }) hl hp)
      (hidle.set (n := n) rfl fun k hk => by cases hk; exact hnone n l hl)
    rw [hepoch] at hcell
    exact hcell
  case rollGathered =>
    have hcell := hdepart hq (sendRequest_roll (s := { s.noCellDue with cellQueue := rest }) hl hp)
      (hidle.set (n := n) rfl fun k hk => by cases hk; exact hnone n l hl)
    rw [emitted_of_gathered hg] at hcell
    exact hcell
  case clear =>
    have hcell := hdepart hq (sendRequest_clear (s := { s.noCellDue with cellQueue := rest }) hl hst)
      (hidle.set (n := n) rfl fun _ h => absurd h (Option.some_ne_none _).symm)
    rw [hcell]
    cases cause <;> rfl

end Sys2Proof.Machine
end

section
/-! PROOFS. After a departure the waiting legs are served in leg-number order (R79). -/

namespace Sys2Proof.Machine

variable {s t u : State} {n m : LegNo} {l k : Leg} {kind : RequestKind}

/-- R79: a leg waits for one request at most. -/
def State.OneWantEach (s : State) : Prop :=
  ∀ (n : LegNo) (l : Leg), s.legs[n] = some l → ¬(l.wantsRoll = true ∧ l.wantsClear = true)

/-- R79: what serving the legs of a list does, with the requests it queues. -/
structure ServedOf (s t : State) (ns : List LegNo) (served : List CellRequest) : Prop where
  queue : t.cellQueue = s.cellQueue ++ served
  room : t.cellQueue.length ≤ 16
  order : (served.map (·.leg)).Sublist ns
  waited : ∀ r ∈ served, s.Waits r.leg r.kind
  cleared : ∀ r ∈ served, ∃ l, t.legs[r.leg] = some l ∧ l.wantsRoll = false ∧ l.wantsClear = false
  unserved : ∀ n ∈ ns, ∀ kind, s.Waits n kind → ⟨kind, n⟩ ∉ served → t.cellQueue.length = 16 ∧ ∀ r ∈ served, r.leg < n
  others : ∀ n, (∀ r ∈ served, r.leg ≠ n) → t.legs[n] = s.legs[n]

theorem State.Waits.congr (h : t.legs[n] = s.legs[n]) (hw : s.Waits n kind) : t.Waits n kind := by
  obtain ⟨l, hl, hk⟩ := hw
  exact ⟨l, h.trans hl, hk⟩

/-- With a full queue nothing more is queued. -/
theorem ServedOf.eq_nil {ns : List LegNo} {served : List CellRequest} (h : ServedOf s t ns served)
    (hq : 16 ≤ s.cellQueue.length) : served = [] := by
  have hlen := h.room
  rw [h.queue, List.length_append] at hlen
  exact List.length_eq_zero_iff.1 (by omega)

/-- A leg that is passed over. -/
theorem ServedOf.pass {ns : List LegNo} {served : List CellRequest} (h : ServedOf s t ns served)
    (hn : (∀ kind, ¬s.Waits n kind) ∨ 16 ≤ s.cellQueue.length) : ServedOf s t (n :: ns) served := by
  refine { h with order := h.order.cons n, unserved := fun m hm kind hw hserved => ?_ }
  rcases List.mem_cons.1 hm with rfl | hm
  · rcases hn with hn | hfull
    · exact absurd hw (hn kind)
    · have hnil := h.eq_nil hfull
      refine ⟨le_antisymm h.room ?_, fun r hr => ?_⟩
      · rw [h.queue, hnil, List.append_nil]
        exact hfull
      · rw [hnil] at hr
        nomatch hr
  · exact h.unserved m hm kind hw hserved

/-- A leg that is served ahead of the rest. -/
theorem ServedOf.serve {ns : List LegNo} {served : List CellRequest} (hpair : (n :: ns).Pairwise (· < ·))
    (hl : s.legs[n] = some l) (hone : ¬(l.wantsRoll = true ∧ l.wantsClear = true)) (hw : s.Waits n kind)
    (hk : (kind = .clear ∧ k = { l with wantsClear := false }) ∨
      (kind = .roll ∧ l.wantsClear = false ∧ k = { l with wantsRoll := false }))
    (h : ServedOf { s with cellQueue := s.cellQueue ++ [⟨kind, n⟩], legs := s.legs.set n (some k) } t ns served) :
    ServedOf s t (n :: ns) (⟨kind, n⟩ :: served) := by
  obtain ⟨hfirst, -⟩ := List.pairwise_cons.1 hpair
  have hlater (r : CellRequest) (hr : r ∈ served) : n < r.leg :=
    hfirst _ (h.order.subset (List.mem_map_of_mem hr))
  have hother (m : LegNo) (hm : n ≠ m) : (s.legs.set n (some k))[m] = s.legs[m] := by
    rw [getElem_set_fin, if_neg hm]
  have hflags : k.wantsRoll = false ∧ k.wantsClear = false := by
    rcases hk with ⟨rfl, rfl⟩ | ⟨rfl, hc, rfl⟩
    · obtain ⟨l', hl', ⟨_, hw⟩ | ⟨hw, _⟩⟩ := hw
      · cases hl.symm.trans hl'
        exact ⟨Bool.eq_false_iff.2 fun hr => hone ⟨hr, hw⟩, rfl⟩
      · nomatch hw
    · exact ⟨rfl, hc⟩
  have hn : t.legs[n] = some k := by
    rw [h.others n fun r hr => (hlater r hr).ne', getElem_set_fin, if_pos rfl]
  refine ⟨?_, h.room, h.order.cons_cons n, ?_, ?_, ?_, ?_⟩
  · rw [h.queue, List.append_assoc, List.singleton_append]
  · intro r hr
    rcases List.mem_cons.1 hr with rfl | hr
    · exact hw
    · exact (h.waited r hr).congr (hother r.leg (hlater r hr).ne).symm
  · intro r hr
    rcases List.mem_cons.1 hr with rfl | hr
    · exact ⟨k, hn, hflags⟩
    · exact h.cleared r hr
  · intro m hm want hwm hserved
    rcases List.mem_cons.1 hm with rfl | hm
    · obtain ⟨l', hl', hwant⟩ := hwm
      cases hl.symm.trans hl'
      have hsame : want = kind := by
        obtain ⟨l'', hl'', hkind⟩ := hw
        cases hl.symm.trans hl''
        rcases hwant with ⟨rfl, hc⟩ | ⟨rfl, hr⟩ <;> rcases hkind with ⟨rfl, hc'⟩ | ⟨rfl, hr'⟩
        · rfl
        · exact absurd ⟨hr', hc⟩ hone
        · exact absurd ⟨hr, hc'⟩ hone
        · rfl
      exact absurd (hsame ▸ List.mem_cons_self) hserved
    · have hnm : n < m := hfirst m hm
      obtain ⟨hfull, hbefore⟩ := h.unserved m hm want (hwm.congr (hother m hnm.ne))
        fun hr => hserved (List.mem_cons_of_mem _ hr)
      refine ⟨hfull, fun r hr => ?_⟩
      rcases List.mem_cons.1 hr with rfl | hr
      · exact hnm
      · exact hbefore r hr
  · intro m hm
    rw [h.others m fun r hr => hm r (List.mem_cons_of_mem _ hr)]
    exact hother m (hm _ List.mem_cons_self)

/-- R79: the legs of an ascending list are served in its order. -/
theorem serveAll_served (ns : List LegNo) (hpair : ns.Pairwise (· < ·)) (s : State) (hone : s.OneWantEach)
    (hroom : s.cellQueue.length ≤ 16) : ∃ served, ServedOf s (ns.foldl State.serveWants s) ns served := by
  induction ns generalizing s with
  | nil =>
    exact ⟨[], ⟨(List.append_nil _).symm, hroom, List.Sublist.refl _, nofun, nofun, nofun, fun _ _ => rfl⟩⟩
  | cons n rest ih =>
    obtain ⟨-, hrest⟩ := List.pairwise_cons.1 hpair
    rw [List.foldl_cons]
    rcases serveWants_cases s n with ⟨hsame, hpass⟩ | ⟨l, k, kind, hl, hw, hlt, hk, hserve⟩
    · obtain ⟨served, hserved⟩ := ih hrest s hone hroom
      exact ⟨served, hsame.symm ▸ hserved.pass hpass⟩
    · rw [hserve]
      obtain ⟨served, hserved⟩ := ih hrest { s with cellQueue := s.cellQueue ++ [⟨kind, n⟩], legs := s.legs.set n (some k) }
        (fun m q hq => by
          rw [getElem_set_fin] at hq
          split at hq
          · cases hq
            rcases hk with ⟨-, rfl⟩ | ⟨-, -, rfl⟩
            · exact fun hboth => nomatch hboth.2
            · exact fun hboth => nomatch hboth.1
          · exact hone m q hq)
        (by rw [List.length_append, List.length_singleton]; omega)
      exact ⟨_, hserved.serve hpair hl (hone n l hl) hw hk⟩

/-! ### What the departure leaves of the legs (R64, R78) -/

/-- R64: the departure of a CLEAR frees its leg. -/
def State.Frees (s : State) (n : LegNo) : Prop :=
  s.cellQueue.head? = some ⟨.clear, n⟩ ∧ ∃ l c, s.legs[n] = some l ∧ l.state = .clearing c

/-- What becomes of the leg a request is sent for: nothing that concerns R79, or the announcement of a ROLL, or the leg is
freed. -/
theorem sendRequest_cases (s : State) (r : CellRequest) :
    (∃ cell, State.sendRequest s r = (s, cell) ∧
      ¬(r.kind = .clear ∧ ∃ l c, s.legs[r.leg] = some l ∧ l.state = .clearing c)) ∨
    (∃ l e cell, r.kind = .roll ∧ s.legs[r.leg] = some l ∧
      State.sendRequest s r = (s.setLeg r.leg (some { l with switchEpoch := e }), cell)) ∨
    (∃ l c x d cell, r.kind = .clear ∧ s.legs[r.leg] = some l ∧ l.state = .clearing c ∧
      State.sendRequest s r = ((s.setLeg r.leg none).notify .legClosed x d, cell)) := by
  obtain ⟨kind, n⟩ := r
  cases hl : s.legs[n] with
  | none =>
    refine .inl ⟨idleTrunkCell, by simp only [State.sendRequest, hl], ?_⟩
    rintro ⟨-, l, c, hl', -⟩
    nomatch hl'
  | some l =>
    cases kind with
    | sync => exact .inl ⟨_, sendRequest_sync hl, fun h => nomatch h.1⟩
    | roll =>
      cases hp : l.pendingKey with
      | none => exact .inl ⟨idleTrunkCell, by simp only [State.sendRequest, hl, hp], fun h => nomatch h.1⟩
      | some p => exact .inr (.inl ⟨l, _, _, rfl, rfl, sendRequest_roll hl hp⟩)
    | clear =>
      by_cases hst : ∃ c, l.state = .clearing c
      · obtain ⟨c, hst⟩ := hst
        exact .inr (.inr ⟨l, c, _, _, _, rfl, rfl, hst, sendRequest_clear hl hst⟩)
      · refine .inl ⟨idleTrunkCell, ?_, ?_⟩
        · cases hs : l.state with
          | clearing c => exact absurd ⟨c, hs⟩ hst
          | waiting | running | holding => simp only [State.sendRequest, hl, hs]
        · rintro ⟨-, l', c, hl', hc⟩
          cases hl'
          exact hst ⟨c, hc⟩

/-- A leg's flags of R79. -/
def State.wants (s : State) (n : LegNo) : Option (Bool × Bool) := (s.legs[n]).map fun l => (l.wantsRoll, l.wantsClear)

/-- What a departure does to the queue and the legs: the head goes, the leg it frees is gone, and every other keeps its
flags. -/
theorem departCell_wants (s : State) : s.departCell.cellQueue = s.cellQueue.drop 1 ∧
    (∀ n, s.Frees n → s.departCell.legs[n] = none) ∧ ∀ n, ¬s.Frees n → s.departCell.wants n = s.wants n := by
  cases hq : s.cellQueue with
  | nil =>
    rw [departCell_empty hq]
    refine ⟨hq, fun n hf => ?_, fun n _ => rfl⟩
    have hhead := hf.1
    rw [hq] at hhead
    nomatch hhead
  | cons r rest =>
    have hfrees (n : LegNo) : s.Frees n ↔ r = ⟨.clear, n⟩ ∧ ∃ l c, s.legs[n] = some l ∧ l.state = .clearing c := by
      rw [State.Frees, hq, List.head?_cons, Option.some_inj]
    rcases sendRequest_cases { s with cellQueue := rest } r with ⟨cell, hsend, hnot⟩ | ⟨l, e, cell, hkind, hl, hsend⟩ |
      ⟨l, c, x, d, cell, hkind, hl, hst, hsend⟩ <;> rw [departCell_request hq hsend]
    · refine ⟨rfl, fun n hf => ?_, fun n _ => rfl⟩
      obtain ⟨rfl, hclearing⟩ := (hfrees n).1 hf
      exact absurd ⟨rfl, hclearing⟩ hnot
    · refine ⟨rfl, fun n hf => ?_, fun n _ => ?_⟩
      · obtain ⟨rfl, -⟩ := (hfrees n).1 hf
        nomatch hkind
      · rw [State.wants, State.wants]
        dsimp only [State.setLeg]
        rw [getElem_set_fin]
        split
        next hn =>
          subst hn
          rw [show s.legs[r.leg] = some l from hl]
          rfl
        next => rfl
    · refine ⟨rfl, fun n hf => ?_, fun n hf => ?_⟩
      · obtain ⟨rfl, -⟩ := (hfrees n).1 hf
        exact (getElem_set_fin _ _ _ _).trans (if_pos rfl)
      · rw [State.wants, State.wants]
        dsimp only [State.notify, State.setLeg]
        rw [getElem_set_fin, if_neg]
        rintro rfl
        refine hf ((hfrees _).2 ⟨?_, l, c, hl, hst⟩)
        rw [← hkind]

/-- Settles O34: the departure leaves the flags of every leg it does not free, and then the legs that wait are served. -/
theorem waitingLegsAreServed : Obligations.WaitingLegsAreServed := by
  unfold Obligations.WaitingLegsAreServed
  intro s hs hdue hroom hone freed waits
  obtain ⟨hqueue, hfreed, hkept⟩ := departCell_wants s.noCellDue
  rw [exec_trunkCellDeparture hs hdue]
  generalize hu : s.noCellDue.departCell = u at hqueue hfreed hkept
  have hflags {n : LegNo} {k : Leg} (hk : u.legs[n] = some k) :
      ¬freed n ∧ ∃ l, s.legs[n] = some l ∧ l.wantsRoll = k.wantsRoll ∧ l.wantsClear = k.wantsClear := by
    have hnot : ¬freed n := fun hf => nomatch hk.symm.trans (hfreed n hf)
    have hsame := hkept n hnot
    rw [State.wants, hk] at hsame
    obtain ⟨l, hl, heq⟩ := Option.map_eq_some_iff.1 hsame.symm
    exact ⟨hnot, l, hl, congrArg Prod.fst heq, congrArg Prod.snd heq⟩
  have hback {n : LegNo} {l : Leg} (hl : s.legs[n] = some l) (hnot : ¬freed n) :
      ∃ k, u.legs[n] = some k ∧ k.wantsRoll = l.wantsRoll ∧ k.wantsClear = l.wantsClear := by
    have hsame := hkept n hnot
    have hwants : s.noCellDue.wants n = some (l.wantsRoll, l.wantsClear) :=
      congrArg (Option.map fun l : Leg => (l.wantsRoll, l.wantsClear)) hl
    rw [hwants] at hsame
    obtain ⟨k, hk, heq⟩ := Option.map_eq_some_iff.1 hsame
    exact ⟨k, hk, congrArg Prod.fst heq, congrArg Prod.snd heq⟩
  have hwaits {n : LegNo} {kind : RequestKind} : waits n kind ↔ u.Waits n kind := by
    constructor
    · rintro ⟨hnot, l, hl, hw⟩
      obtain ⟨k, hk, hr, hc⟩ := hback hl hnot
      exact ⟨k, hk, by rwa [hr, hc]⟩
    · rintro ⟨k, hk, hw⟩
      obtain ⟨hnot, l, hl, hr, hc⟩ := hflags hk
      exact ⟨hnot, l, hl, by rwa [hr, hc]⟩
  have huone : u.OneWantEach := fun n k hk hboth => by
    obtain ⟨-, l, hl, hr, hc⟩ := hflags hk
    exact hone n l hl (by rwa [hr, hc])
  have huroom : u.cellQueue.length ≤ 16 := by
    rw [hqueue, List.length_drop]
    exact (Nat.sub_le _ _).trans hroom
  obtain ⟨served, h⟩ := serveAll_served (List.finRange 32) (List.pairwise_lt_finRange 32) u huone huroom
  generalize (List.finRange 32).foldl State.serveWants u = t at h
  have hsome {n : LegNo} {kind : RequestKind} (hr : ⟨kind, n⟩ ∈ served) :
      ∃ l, t.legs[n] = some l ∧ l.wantsRoll = false ∧ l.wantsClear = false := h.cleared _ hr
  have hserved {n : LegNo} (hn : ¬∀ r ∈ served, r.leg ≠ n) : ∃ kind, ⟨kind, n⟩ ∈ served := by
    push Not at hn
    obtain ⟨r, hr, rfl⟩ := hn
    exact ⟨r.kind, hr⟩
  refine ⟨t, rfl, h.room, fun n k hk hw => ?_, served, by rw [h.queue, hqueue]; rfl, ?_,
    fun r hr => ⟨hwaits.2 (h.waited r hr), h.cleared r hr⟩,
    fun n kind hw hnot => h.unserved n (List.mem_finRange n) kind (hwaits.1 hw) hnot, fun n => ⟨fun hfree => ?_,
    fun l hl hnot hothers => ?_⟩⟩
  · by_cases hothers : ∀ r ∈ served, r.leg ≠ n
    · rw [h.others n hothers] at hk
      have hnot (kind : RequestKind) : ⟨kind, n⟩ ∉ served := fun hr => hothers _ hr rfl
      rcases hw with hr | hc
      · exact (h.unserved n (List.mem_finRange n) .roll ⟨k, hk, .inr ⟨rfl, hr⟩⟩ (hnot _)).1
      · exact (h.unserved n (List.mem_finRange n) .clear ⟨k, hk, .inl ⟨rfl, hc⟩⟩ (hnot _)).1
    · obtain ⟨kind, hr⟩ := hserved hothers
      obtain ⟨l, hl, hroll, hclear⟩ := hsome hr
      cases hl.symm.trans hk
      rcases hw with hw | hw
      · exact nomatch hroll.symm.trans hw
      · exact nomatch hclear.symm.trans hw
  · have hsub := h.order.map Fin.val
    rw [List.map_map] at hsub
    exact List.Pairwise.sublist hsub (List.pairwise_map.2 (List.pairwise_lt_finRange 32))
  · have hgone : u.legs[n] = none := by
      rcases hfree with hf | hnone
      · exact hfreed n hf
      · by_contra hsomeu
        obtain ⟨k, hk⟩ := Option.ne_none_iff_exists'.1 hsomeu
        obtain ⟨-, l, hl, -⟩ := hflags hk
        exact nomatch hnone.symm.trans hl
    rw [h.others n fun r hr hrn => ?_, hgone]
    obtain ⟨k, hk, -⟩ := h.waited r hr
    rw [hrn] at hk
    exact nomatch hgone.symm.trans hk
  · obtain ⟨k, hk, hr, hc⟩ := hback hl hnot
    exact ⟨k, (h.others n hothers).trans hk, hr, hc⟩

end Sys2Proof.Machine
end

section
/-! PROOFS. The line block start (R2), and the slot map with the judging of admission cells (R114, R115, R118, R119). -/

namespace Sys2Proof.Machine

variable {s u : State} {n : LegNo} {l : Leg} {slot : Slot} {cell : Cell}

/-! ### The line block start (R2) -/

theorem blockOf_toList (b : Block) : blockOf b.toList = b := by
  ext i hi
  simp [blockOf]

/-- R38, R39: a leg that was already gathering has its block complete with its eight codes. -/
theorem Leg.blockStart_gathering {b : Block} (ho : l.state.isOpen = true) (hg : l.gathering = true)
    (hb : l.txAssembly = b.toList) :
    l.blockStart = { l with gathered := some b, txAssembly := [], emission := none } := by
  rw [Leg.blockStart, if_pos ho, hg, hb, blockOf_toList, Vector.length_toList]
  rfl

theorem Leg.blockStart_fresh (ho : l.state.isOpen = true) (hg : l.gathering = false) :
    l.blockStart = { l with gathered := none, gathering := true, txAssembly := [], emission := none } := by
  rw [Leg.blockStart, if_pos ho, hg]
  rfl

theorem Leg.blockStart_closed (ho : l.state.isOpen = false) : l.blockStart = l := by
  rw [Leg.blockStart, ho]
  rfl

theorem started_legs (s : State) (n : LegNo) : s.started.legs[n] = (s.legs[n]).map Leg.blockStart :=
  getElem_ofFn_fin _ _

theorem exec_lineBlockStart (hs : s.resetAsserted = false) : exec .lineBlockStart s = .next s.blockStart := by
  rw [exec, execLineBlockStart, whenInService_next hs]

theorem blockStart_due (hpos : s.line.framePos = 0) (htaken : s.line.startTaken = false) :
    s.blockStart = s.completeBlock.started := by
  rw [State.blockStart_eq, hpos, htaken]
  rfl

theorem blockStart_notDue (h : s.line.framePos ≠ 0 ∨ s.line.startTaken = true) : s.blockStart = s := by
  rw [State.blockStart_eq, if_neg]
  rw [Bool.and_eq_true, decide_eq_true_eq, Bool.not_eq_true']
  rintro ⟨hpos, htaken⟩
  rcases h with h | h
  · exact h hpos
  · exact nomatch htaken.symm.trans h

/-- Settles O41: a start not due, a completion taken first, and the start of every block. -/
theorem lineBlockStartIsTakenOnce : Obligations.LineBlockStartIsTakenOnce := by
  unfold Obligations.LineBlockStartIsTakenOnce
  intro s hs
  rw [exec_lineBlockStart hs]
  refine ⟨fun h => by rw [blockStart_notDue h], fun u hpos htaken hu => ?_, fun hpos htaken hended => ?_⟩
  · rw [exec, execTrunkReceiveBlockCompletion, whenInService_next hs] at hu
    cases hu
    have hframe := s.completeBlock_frame
    have hline : s.completeBlock.line = s.line := by rw [hframe]
    have hreset : s.completeBlock.resetAsserted = false := by rw [hframe]; exact hs
    rw [exec_lineBlockStart hreset, blockStart_due hpos htaken,
      blockStart_due (by rw [hline]; exact hpos) (by rw [hline]; exact htaken),
      completeBlock_idle (blockEnded_completeBlock s)]
  · rw [blockStart_due hpos htaken, completeBlock_idle hended]
    have hlegs := started_legs s
    refine ⟨s.started, rfl, rfl, fun n hn => ?_, fun n l hl ho => ?_, fun n l hl ho hg => ?_, fun n l b hl ho hg hb => ?_,
      fun h => ?_, fun c => ?_, ?_, rfl⟩
    · rw [hlegs, hn]
      rfl
    · rw [hlegs, hl, Option.map_some, Leg.blockStart_closed ho]
    · rw [hlegs, hl, Option.map_some, Leg.blockStart_fresh ho hg]
    · rw [hlegs, hl, Option.map_some, Leg.blockStart_gathering ho hg hb]
    · have hrecord : s.started.record h = (s.record h).map ExtRecord.countDown := getElem_ofFn_fin _ _
      rw [hrecord]
      refine congrArg (fun f => (s.record h).map f) (funext fun r => ?_)
      obtain ⟨_, _, _, _, _, state, _⟩ := r
      cases state with
      | admitted k t => cases t <;> rfl
      | _ => rfl
    · have hconf : s.started.confs[c] = (s.confs[c]).map Conf.blockStart := getElem_ofFn_fin _ _
      rw [hconf]
      refine congrArg (fun f => (s.confs[c]).map f) (funext fun k => ?_)
      rw [Conf.blockStart]
      cases k.mixSet <;> rfl
    · show s.hold.blockStart = _
      cases s.hold with
      | closed => rfl
      | opened entries mark => cases mark <;> rfl

/-! ### SLOT_MAP (R115) -/

/-- R115: the last change of a slot decides; a slot without one keeps its state. -/
theorem getElem_foldl_set (changes : List (Slot × Bool)) (v : Vector Bool 64) (k : Slot) :
    (changes.foldl (fun m c => m.set c.1 c.2) v)[k] = ((changes.reverse.find? (·.1 == k)).map (·.2)).getD v[k] := by
  induction changes generalizing v with
  | nil => rfl
  | cons c rest ih =>
    rw [List.foldl_cons, ih, List.reverse_cons, List.find?_append]
    cases hrest : rest.reverse.find? (·.1 == k) with
    | some d => rfl
    | none =>
      rw [getElem_set_fin]
      by_cases hc : c.1 = k <;> simp [hc]

theorem toList_drop_one (v : Vector Bool 64) : v.toList.drop 1 = (List.finRange 63).map fun i => v[i.succ] := by
  refine List.ext_getElem (by simp) fun i h1 h2 => ?_
  simp

/-! ### Admission cells by their bytes (R118, R119, section 12.7) -/

theorem OutgoingCell.sum_build (c : OutgoingCell) : c.build.toList.foldl (· + ·) 0 = 0xA5 := by
  cases c <;> exact sum_buildCell _ _ _ _ _ _ _

theorem voiceSlot_eq_none {b : Byte} (h : b = 0 ∨ 63 < b.toNat) : voiceSlot b = none := by
  cases hk : voiceSlot b with
  | none => rfl
  | some k =>
    obtain ⟨hpos, hlt⟩ := voiceSlot_range hk
    rcases h with rfl | h
    · exact absurd hpos (by decide)
    · omega

theorem parseNumber_of_fits {bytes : List Byte} (h : NumberFits bytes) :
    parseNumber (byteAt bytes 0) (byteAt bytes 1) (byteAt bytes 2) (byteAt bytes 3) =
      some ((List.range (byteAt bytes 0).toNat).map (digitPlace bytes)) := by
  obtain ⟨hlow, hhigh, hdigits⟩ := h
  have htake : (digitPlaces (byteAt bytes 1) (byteAt bytes 2) (byteAt bytes 3)).take (byteAt bytes 0).toNat =
      (List.range (byteAt bytes 0).toNat).map (digitPlace bytes) := by
    refine List.ext_getElem? fun j => ?_
    rcases Nat.lt_or_ge j (byteAt bytes 0).toNat with hj | hj
    · rw [List.getElem?_take_of_lt hj, getElem?_digitPlaces bytes (Nat.lt_of_lt_of_le hj hhigh)]
      simp [hj]
    · rw [List.getElem?_take_eq_none hj]
      simp [hj]
  rw [parseNumber, htake, if_pos]
  rw [Bool.and_eq_true, Bool.and_eq_true, decide_eq_true_eq, decide_eq_true_eq, List.all_eq_true]
  refine ⟨⟨hlow, hhigh⟩, fun d hd => ?_⟩
  obtain ⟨j, hj, rfl⟩ := List.mem_map.1 hd
  exact decide_eq_true (hdigits j (List.mem_range.1 hj))

theorem parseNumber_of_not_fits {bytes : List Byte} (h : ¬NumberFits bytes) :
    parseNumber (byteAt bytes 0) (byteAt bytes 1) (byteAt bytes 2) (byteAt bytes 3) = none := by
  cases hp : parseNumber (byteAt bytes 0) (byteAt bytes 1) (byteAt bytes 2) (byteAt bytes 3) with
  | none => rfl
  | some d => exact absurd (numberAt_fits (i := 0) hp) h

/-- A cell's byte from place 2 on. -/
theorem byteAt_drop_two (cell : Cell) (i : Nat) (hi : i + 2 < 8) : byteAt (cell.toList.drop 2) i = cell[i + 2] := by
  simp [byteAt, Nat.add_comm, hi]

/-- R119: a cell with a good check, by its kind and its slot. -/
theorem judgeAdmissionCell_of_sum (h : cell.toList.foldl (· + ·) 0 = 0xA5) (hkind : cell[0] ≠ 0xD0) :
    judgeAdmissionCell cell = (voiceSlot cell[1]).elim .bad fun slot =>
      if cell[0] = 0xD1 then
        (parseNumber cell[2] cell[3] cell[4] cell[5]).elim .bad fun n => .hello slot n
      else if cell[0] = 0xD3 then .answer slot (cell[2] ++ cell[3] ++ cell[4])
      else if cell[0] = 0xD6 then .bye slot
      else .bad := by
  rw [judgeAdmissionCell, checkHolds_iff.2 h, if_neg hkind]
  cases voiceSlot cell[1] with
  | none => rfl
  | some k => cases parseNumber cell[2] cell[3] cell[4] cell[5] <;> rfl

theorem judgeAdmissionCell_bad (h : cell.toList.foldl (· + ·) 0 ≠ 0xA5) : judgeAdmissionCell cell = .bad := by
  rw [judgeAdmissionCell, if_pos (by simpa using mt checkHolds_iff.1 h)]

theorem judgeAdmissionCell_idle (h : cell.toList.foldl (· + ·) 0 = 0xA5) (hkind : cell[0] = 0xD0) :
    judgeAdmissionCell cell = .idle := by
  rw [judgeAdmissionCell, checkHolds_iff.2 h, if_pos hkind]
  rfl

/-- R114: a cell from a slot that is not set to LISTEN is ignored. -/
theorem takeAdmissionCell_ignored {number : ExtNumber} {word : WheelWord} (hl : s.ext.listen[slot] = false)
    (hj : judgeAdmissionCell cell = .hello slot number ∨ judgeAdmissionCell cell = .answer slot word ∨
      judgeAdmissionCell cell = .bye slot) :
    s.takeAdmissionCell cell = { s with ext := { s.ext with ignoredCells := bump s.ext.ignoredCells } } := by
  rcases hj with hj | hj | hj <;> simp only [State.takeAdmissionCell, hj, hl, Bool.false_eq_true, if_false]

/-- Settles O45: the map by its changes, the cells by their bytes, the arrival by the judgement of its cell. -/
theorem slotMapFiltersAdmissionCells : Obligations.SlotMapFiltersAdmissionCells := by
  unfold Obligations.SlotMapFiltersAdmissionCells
  refine ⟨fun s clear changes hs hroom hvoice => ?map, fun slot nonce reason => ?sent, fun cell => ?judged,
    fun s u hs harrival hu => ?order, fun s cell hs harrival hdue => ?arrival⟩
  case map =>
    refine ⟨(mapSlots (clear, changes) s).1, ?_, fun k => ?_, ?_⟩
    · refine exec_slotMap_now hs (parseSlotMap_body clear hroom hvoice) (Prod.ext rfl ?_)
      refine congrArg (Answer.now .ok) ?_
      rw [ExtTable.report, toList_drop_one, List.map_map]
      cases clear <;> rfl
    · rw [← getElem_foldl_set]
      cases clear <;> rfl
    · cases clear <;> rfl
  case sent =>
    have hhigh : byteOf (nonce.toNat / 256) = nonce.extractLsb' 8 8 :=
      congrArg (BitVec.ofNat 8) (Nat.shiftRight_eq_div_pow _ 8).symm
    refine ⟨OutgoingCell.sum_build, ?_, rfl, ?_⟩
    · rw [← hhigh]
      rfl
    · cases reason <;> rfl
  case judged =>
    intro kind number judged
    refine ⟨judgeAdmissionCell_bad, fun hsum => ⟨judgeAdmissionCell_idle hsum, fun h0 h1 h3 h6 => ?_, fun h0 hslot => ?_,
      fun slot hslot hbyte => ?_⟩⟩
    · rw [show judged = _ from judgeAdmissionCell_of_sum hsum h0]
      simp only [show cell[0] ≠ 0xD1 from h1, show cell[0] ≠ 0xD3 from h3, show cell[0] ≠ 0xD6 from h6, if_false]
      cases voiceSlot cell[1] <;> rfl
    · rw [show judged = _ from judgeAdmissionCell_of_sum hsum h0, voiceSlot_eq_none hslot]
      rfl
    · have hjudged (h0 : cell[0] ≠ 0xD0) := judgeAdmissionCell_of_sum hsum h0
      rw [hbyte, voiceSlot_byteOf hslot] at hjudged
      have hnumber : parseNumber cell[2] cell[3] cell[4] cell[5] =
          parseNumber (byteAt number 0) (byteAt number 1) (byteAt number 2) (byteAt number 3) := by
        rw [show byteAt number 0 = cell[2] from byteAt_drop_two cell 0 (by decide),
          show byteAt number 1 = cell[3] from byteAt_drop_two cell 1 (by decide),
          show byteAt number 2 = cell[4] from byteAt_drop_two cell 2 (by decide),
          show byteAt number 3 = cell[5] from byteAt_drop_two cell 3 (by decide)]
      have hcount : number[0]! = byteAt number 0 := by
        simp [byteAt]
        rfl
      have hkind {b : Byte} (hb : kind = b) (hne : b ≠ 0xD0) : cell[0] ≠ 0xD0 := by rwa [show cell[0] = b from hb]
      refine ⟨fun h1 hfit => ?_, fun h1 hfit => ?_, fun h3 => ?_, fun h6 => ?_⟩
      · rw [show judged = _ from hjudged (hkind h1 (by decide)), hnumber, parseNumber_of_not_fits hfit]
        exact if_pos h1
      · rw [show judged = _ from hjudged (hkind h1 (by decide)), hnumber, parseNumber_of_fits hfit, hcount]
        exact if_pos h1
      · have h3 : cell[0] = 0xD3 := h3
        rw [show judged = _ from hjudged (hkind h3 (by decide)), h3]
        rfl
      · have h6 : cell[0] = 0xD6 := h6
        rw [show judged = _ from hjudged (hkind h6 (by decide)), h6]
        rfl
  case order =>
    rw [exec, execAdmissionCellDeparture, whenInService_next hs] at hu
    cases hu
    have hreset : s.admissionDeparture.resetAsserted = false := by
      cases hdue : s.line.cellDue with
      | false => rwa [State.admissionDeparture_not_due hdue]
      | true => rwa [State.admissionDeparture_due hdue]
    rw [exec, execAdmissionCellArrival, whenInService_next hs, State.admissionArrival_after_departure s harrival, exec,
      execAdmissionCellArrival, whenInService_next hreset]
  case arrival =>
    rw [exec_admissionCellArrival hs harrival hdue]
    refine ⟨fun hj => ?_, fun hj => ?_, fun slot n w hl hj => ?_, fun slot hl hj hb => ?_⟩
    · simp only [State.takeAdmissionCell, hj]
      rfl
    · simp only [State.takeAdmissionCell, hj]
      rfl
    · rw [takeAdmissionCell_ignored (s := s.arrivalTaken) hl hj]
      rfl
    · have hb' : s.arrivalTaken.boundTo slot = none := hb
      rw [takeAdmissionCell_bye (s := s.arrivalTaken) hj hl]
      simp only [State.takeBye, hb']
      rfl

end Sys2Proof.Machine
end

section
/-! PROOFS. How one leg takes its block at a completion (R41, R99, R101): the receive epoch start, the awaited key and
the row of its state; and the completions that change no leg's state. -/

namespace Sys2Proof.Machine

variable {s u : State} {n : LegNo} {l : Leg} {p : KeySetting} {g : Byte} {len : Nat} {loaded straddles : Bool}

/-! ### The receive output buffer (R42) -/

/-- R42: the buffer with a silent block put in. -/
def Leg.quietOutput (l : Leg) : List Code := (l.rxOutput ++ List.replicate 8 silence).drop (l.rxOutput.length + 8 - 16)

theorem pushOutput_eq (buffer : List Code) (b : Block) :
    pushOutput buffer b = (buffer ++ b.toList).drop (buffer.length + b.toList.length - 16) := by
  rw [pushOutput, List.length_append]

theorem output_silent (l : Leg) : l.output silentBlock = { l with rxAssembly := [], rxOutput := l.quietOutput } := by
  rw [Leg.output, pushOutput_eq]
  rfl

/-! ### The rows of R41 -/

theorem takeRow_running_muted (hst : l.state = .running) : l.takeRow len loaded true =
    Leg.output silentBlock { l.advanceRx len loaded with mutedBlocks := bump l.mutedBlocks } := by
  simp only [Leg.takeRow, hst, if_true]

theorem takeRow_running {b : Block} (hst : l.state = .running) (hb : l.rxAssembly = b.toList) :
    l.takeRow len loaded false = Leg.output
      (Vector.map (applyGain l.gain) (descrambleBlock l.rxKey.mode (l.rx.nextValue l.rxKey.key) b))
      (l.advanceRx len loaded) := by
  simp only [Leg.takeRow, hst, hb, blockOf_toList, Bool.false_eq_true, if_false]
  refine congrArg (fun b => Leg.output b _) ?_
  ext i hi
  simp

theorem takeRow_holdingKey {muted : Bool} (hst : l.state = .holding (.key g)) :
    l.takeRow len loaded muted = Leg.output silentBlock (l.advanceRx len loaded) := by
  simp only [Leg.takeRow, hst]

theorem takeRow_quiet {muted : Bool} (hst : l.state = .waiting ∨ l.state = .holding .hunt ∨ l.state = .holding .farCleared) :
    l.takeRow len loaded muted = Leg.output silentBlock l := by
  rcases hst with hst | hst | hst <;> simp only [Leg.takeRow, hst]

/-- The states in which a leg counts no receive block. -/
theorem quiet_of_counts_false (ho : l.state.isOpen = true) (hc : l.state.counts = false) :
    l.state = .waiting ∨ l.state = .holding .hunt ∨ l.state = .holding .farCleared := by
  cases hst : l.state with
  | waiting => exact .inl rfl
  | running => rw [hst] at hc; nomatch hc
  | clearing c => rw [hst] at ho; nomatch ho
  | holding why =>
    cases why with
    | hunt => exact .inr (.inl rfl)
    | farCleared => exact .inr (.inr rfl)
    | key a => rw [hst] at hc; nomatch hc

/-! ### The pending key (R49, R102) -/

theorem pendingWith_eq_some (hp : l.pendingKey = some p) (hg : p.gen = g) : l.pendingWith g = some p := by
  rw [Leg.pendingWith, hp, Option.bind_some, if_pos hg]

theorem pendingWith_eq_none (h : ∀ p, l.pendingKey = some p → p.gen ≠ g) : l.pendingWith g = none := by
  cases hp : l.pendingKey with
  | none => rw [Leg.pendingWith, hp, Option.bind_none]
  | some p => rw [Leg.pendingWith, hp, Option.bind_some, if_neg (h p hp)]

/-- R49, R102: the receive key becomes the pending key, which stays while the transmit side does not hold its
generation. -/
theorem adopt_eq (hp : l.pendingKey = some p) : l.adopt p =
    { l with rxKey := ⟨p.gen, p.mode, p.descramble⟩, pendingKey := if l.txKey.gen = p.gen then none else some p } := by
  simp only [Leg.adopt, Leg.settlePending, hp, KeySetting.forReceive, decide_true, Bool.and_true, decide_eq_true_eq]
  split <;> rfl

/-- R101: no key is awaited. -/
theorem awaitedKey_eq_none (h : ∀ g p, l.state = .holding (.key g) → l.pendingKey = some p → p.gen ≠ g) :
    l.awaitedKey = none := by
  unfold Leg.awaitedKey
  split
  next g hst => exact pendingWith_eq_none fun p => h g p hst
  next => rfl

theorem awaitedKey_of_running (hst : l.state = .running) : l.awaitedKey = none :=
  awaitedKey_eq_none fun _ _ h => nomatch hst.symm.trans h

theorem awaitedKey_eq_some (hst : l.state = .holding (.key g)) (hp : l.pendingKey = some p) (hg : p.gen = g) :
    l.awaitedKey = some p := by
  simp only [Leg.awaitedKey, hst, pendingWith_eq_some hp hg]

/-! ### The receive epoch start (R99) -/

/-- R99: no announced roll names this epoch start. -/
theorem receiveEpochStart_none
    (h : ∀ r, l.announced = some r → l.state.counts = true → l.rx.index = 0 → r.epoch ≠ l.rx.epoch) :
    l.receiveEpochStart = ⟨l, []⟩ := by
  unfold Leg.receiveEpochStart
  split
  next => rfl
  next r hr =>
    rw [if_neg]
    rw [Bool.and_eq_true, Bool.and_eq_true, decide_eq_true_eq, decide_eq_true_eq]
    rintro ⟨⟨hc, hi⟩, he⟩
    exact h r hr hc hi he

section
variable (hc : l.state.counts = true) (hi : l.rx.index = 0) (ha : l.announced = some ⟨g, l.rx.epoch⟩)
include hc hi ha

theorem receiveEpochStart_pending (hp : l.pendingKey = some p) (hg : p.gen = g) : l.receiveEpochStart =
    ⟨{ l with announced := none, state := .running, rxKey := ⟨p.gen, p.mode, p.descramble⟩
              pendingKey := if l.txKey.gen = p.gen then none else some p }, [(.keyRolled, receiveRolled g)]⟩ := by
  simp only [Leg.receiveEpochStart, ha, hc, hi, decide_true, Bool.and_true, if_true,
    pendingWith_eq_some (l := { l with announced := none }) hp hg, adopt_eq (l := { l with announced := none }) hp]

variable (hno : ∀ p, l.pendingKey = some p → p.gen ≠ g)
include hno

theorem receiveEpochStart_own_running (hg : g = l.rxKey.gen) (hst : l.state = .running) :
    l.receiveEpochStart = ⟨{ l with announced := none }, []⟩ := by
  simp only [Leg.receiveEpochStart, ha, hc, hi, decide_true, Bool.and_true, if_true,
    pendingWith_eq_none (l := { l with announced := none }) hno, if_pos hg]
  simp only [hst]

theorem receiveEpochStart_own_holding (hg : g = l.rxKey.gen) {a : Byte} (hst : l.state = .holding (.key a)) :
    l.receiveEpochStart = ⟨{ l with announced := none, state := .running }, [(.legSynced, g.setWidth 16)]⟩ := by
  simp only [Leg.receiveEpochStart, ha, hc, hi, decide_true, Bool.and_true, if_true,
    pendingWith_eq_none (l := { l with announced := none }) hno, if_pos hg]
  simp only [hst, hg]

/-- R99, R100: the roll of a generation that is neither pending nor in force, told once. -/
theorem receiveEpochStart_missing (hg : g ≠ l.rxKey.gen) : l.receiveEpochStart =
    ⟨{ l with announced := none, state := .holding (.key g) }, if l.awaits g then [] else [(.keyMissing, g.setWidth 16)]⟩ := by
  simp only [Leg.receiveEpochStart, ha, hc, hi, decide_true, Bool.and_true, if_true,
    pendingWith_eq_none (l := { l with announced := none }) hno, if_neg hg]
  rfl

end

/-! ### One leg's block (R41) -/

/-- R41: what a leg does with its block after the epoch start, from the state it had before. -/
def Leg.takeAs (len : Nat) (loaded straddles : Bool) (l k : Leg) : Leg :=
  if loaded && l.state ≠ .running then k.output silentBlock else k.takeRow len loaded (straddles || loaded)

theorem takeBlock_unawaited {c : LegChange} (hc : l.receiveEpochStart = c) (hw : c.leg.awaitedKey = none) :
    l.takeBlock len loaded straddles = ⟨l.takeAs len loaded straddles c.leg, c.notices⟩ := by
  simp only [Leg.takeBlock, hc, hw]
  rfl

theorem takeAs_notLoaded (k : Leg) : l.takeAs len false straddles k = k.takeRow len false straddles := by
  rw [Leg.takeAs, Bool.false_and, Bool.or_false]
  rfl

theorem takeAs_loaded_running (hst : l.state = .running) (k : Leg) :
    l.takeAs len true straddles k = k.takeRow len true true := by
  rw [Leg.takeAs, hst, Bool.or_true]
  rfl

theorem takeAs_loaded_held (hst : l.state ≠ .running) (k : Leg) :
    l.takeAs len true straddles k = k.output silentBlock := by
  rw [Leg.takeAs, Bool.true_and, if_pos (decide_eq_true hst)]

/-- R41: a leg that counts no block puts silence into its buffer. -/
theorem takeBlock_notCounting (ho : l.state.isOpen = true) (hc : l.state.counts = false) :
    l.takeBlock len loaded straddles = ⟨l.output silentBlock, []⟩ := by
  have hstart : l.receiveEpochStart = ⟨l, []⟩ := receiveEpochStart_none fun _ _ h => nomatch hc.symm.trans h
  have hawaited : l.awaitedKey = none := awaitedKey_eq_none fun g _ h => by rw [h] at hc; nomatch hc
  rw [takeBlock_unawaited hstart hawaited, Leg.takeAs, takeRow_quiet (quiet_of_counts_false ho hc), ite_self]

/-- R101: the awaited key adopted at an epoch start. -/
theorem takeBlock_awaited_start (hst : l.state = .holding (.key g)) (hi : l.rx.index = 0) (ha : l.announced = none)
    (hp : l.pendingKey = some p) (hg : p.gen = g) : l.takeBlock len false false =
      ⟨Leg.takeRow len false false { l with state := .running, rxKey := ⟨p.gen, p.mode, p.descramble⟩
                                            pendingKey := if l.txKey.gen = p.gen then none else some p },
        [(.keyRolled, receiveRolled g)]⟩ := by
  have hstart : l.receiveEpochStart = ⟨l, []⟩ := receiveEpochStart_none fun _ h => nomatch ha.symm.trans h
  have hcounts : l.state.counts = true := by rw [hst]; rfl
  simp only [Leg.takeBlock, hstart, awaitedKey_eq_some hst hp hg, hcounts, hi, decide_true, Bool.true_and, if_true,
    Bool.false_and, Bool.false_eq_true, if_false, Bool.or_false, adopt_eq hp, hg, List.nil_append]

/-- R44, R101: the awaited key adopted within an epoch, by catch-up. -/
theorem takeBlock_awaited_within (hst : l.state = .holding (.key g)) (hi : l.rx.index ≠ 0) (hp : l.pendingKey = some p)
    (hg : p.gen = g) : l.takeBlock len false straddles =
      ⟨Leg.output silentBlock { l with
        state := .running, rxKey := ⟨p.gen, p.mode, p.descramble⟩
        pendingKey := if l.txKey.gen = p.gen then none else some p
        rx := (Counters.advance len l.rx).catchUp p.descramble, mutedBlocks := bump l.mutedBlocks },
        [(.keyRolled, receiveRolled g)]⟩ := by
  have hstart : l.receiveEpochStart = ⟨l, []⟩ := receiveEpochStart_none fun _ _ _ h => absurd h hi
  simp only [Leg.takeBlock, hstart, awaitedKey_eq_some hst hp hg, hi, decide_false, Bool.and_false, Bool.false_eq_true,
    if_false, Leg.adoptByCatchUp, adopt_eq hp, hg, List.nil_append]

theorem takeLegBlock_eq {c : LegChange} {ld : Option LegNo} (hl : s.legs[n] = some l) (ho : l.state.isOpen = true)
    (hloaded : (ld == some n) = loaded) (hc : l.takeBlock s.params.epochLength loaded straddles = c) :
    s.takeLegBlock ld straddles n = (s.setLeg n (some c.leg)).notifyAll n c.notices := by
  simp only [State.takeLegBlock, hl, ho, hloaded, hc, if_true]

/-- Settles O39: the block of a load, the announced roll reached, the awaited key adopted. -/
theorem announcedRollsAndAwaitedKeys : Obligations.AnnouncedRollsAndAwaitedKeys := by
  unfold Obligations.AnnouncedRollsAndAwaitedKeys
  intro s n l hl len taken adopted after quiet
  have hrolled (g : Byte) : receiveRolled g = 256 + g.setWidth 16 := rfl
  have hself : (some n == some n) = true := beq_self_eq_true _
  have hnone : ((none : Option LegNo) == some n) = false := rfl
  have hkeyOpen {g : Byte} (hst : l.state = .holding (.key g)) : l.state.isOpen = true ∧ l.state.counts = true := by
    rw [hst]; exact ⟨rfl, rfl⟩
  have hrunOpen (hst : l.state = .running) : l.state.isOpen = true ∧ l.state.counts = true := by
    rw [hst]; exact ⟨rfl, rfl⟩
  refine ⟨fun hst ha => ?loadedRunning, fun g hst ha hp => ?loadedHolding, fun a hst hi ha hno => ?loadedReturns,
    fun p hst hi ha hp => ?loadedRolled, fun g hst hi ha => ?roll, fun g p hst hi ha hp hg => ?awaitedStart,
    fun g p hst hi hp hg => ?awaitedWithin⟩
  case loadedRunning =>
    have hblock := takeBlock_unawaited (len := len) (loaded := true) (straddles := false)
      (receiveEpochStart_none (l := l) fun _ h => nomatch ha.symm.trans h) (awaitedKey_of_running hst)
    rw [takeAs_loaded_running hst, takeRow_running_muted hst, output_silent] at hblock
    exact takeLegBlock_eq hl (hrunOpen hst).1 hself hblock
  case loadedHolding =>
    have hblock := takeBlock_unawaited (len := len) (loaded := true) (straddles := false)
      (receiveEpochStart_none (l := l) fun _ h => nomatch ha.symm.trans h)
      (awaitedKey_eq_none fun _ _ _ h => nomatch hp.symm.trans h)
    rw [takeAs_loaded_held (by rw [hst]; nofun), output_silent] at hblock
    exact takeLegBlock_eq hl (hkeyOpen hst).1 hself hblock
  case loadedReturns =>
    have hblock := takeBlock_unawaited (len := len) (loaded := true) (straddles := false)
      (receiveEpochStart_own_holding (hkeyOpen hst).2 hi ha hno rfl hst) (awaitedKey_of_running rfl)
    rw [takeAs_loaded_held (by rw [hst]; nofun), output_silent] at hblock
    exact takeLegBlock_eq hl (hkeyOpen hst).1 hself hblock
  case loadedRolled =>
    have hblock := takeBlock_unawaited (len := len) (loaded := true) (straddles := false)
      (receiveEpochStart_pending (hrunOpen hst).2 hi ha hp rfl) (awaitedKey_of_running rfl)
    rw [takeAs_loaded_running hst, takeRow_running_muted rfl, output_silent] at hblock
    exact takeLegBlock_eq hl (hrunOpen hst).1 hself hblock
  case roll =>
    have hopen : l.state.isOpen = true ∧ l.state.counts = true := by
      rcases hst with hst | ⟨a, hst⟩
      · exact hrunOpen hst
      · exact hkeyOpen hst
    have htake {c : LegChange} (hc : l.receiveEpochStart = c) (hw : c.leg.awaitedKey = none) :
        s.takeLegBlock none false n = (s.setLeg n (some (taken c.leg))).notifyAll n c.notices := by
      have hblock := takeBlock_unawaited (len := len) (loaded := false) (straddles := false) hc hw
      rw [takeAs_notLoaded] at hblock
      exact takeLegBlock_eq hl hopen.1 hnone hblock
    have hmissing (hno : ∀ p, l.pendingKey = some p → p.gen ≠ g) :
        Leg.awaitedKey { l with announced := none, state := .holding (.key g) } = none :=
      awaitedKey_eq_none fun a p hst hp => by
        cases hst
        exact hno p hp
    refine ⟨fun p hp hg => ?_, fun hno hg hrun => ?_, fun hno hg hrun => ?_, fun hno hg hheld => ?_, fun hno hg hheld => ?_⟩
    · exact htake (receiveEpochStart_pending hopen.2 hi ha hp hg) (awaitedKey_of_running rfl)
    · exact htake (receiveEpochStart_own_running hopen.2 hi ha hno hg hrun) (awaitedKey_of_running hrun)
    · obtain ⟨a, hst⟩ := hst.resolve_left hrun
      exact htake (receiveEpochStart_own_holding hopen.2 hi ha hno hg hst) (awaitedKey_of_running rfl)
    · have hheld : l.awaits g = false := beq_eq_false_iff_ne.2 hheld
      rw [htake (receiveEpochStart_missing hopen.2 hi ha hno hg) (hmissing hno), hheld]
      rfl
    · have hsame : { l with announced := none, state := .holding (.key g) } = { l with announced := none } := by rw [← hheld]
      have hheld : l.awaits g = true := beq_iff_eq.2 hheld
      rw [htake (receiveEpochStart_missing hopen.2 hi ha hno hg) (hmissing hno), hheld, hsame]
      rfl
  case awaitedStart =>
    exact takeLegBlock_eq hl (hkeyOpen hst).1 hnone (takeBlock_awaited_start hst hi ha hp hg)
  case awaitedWithin =>
    have hblock := takeBlock_awaited_within (len := len) (straddles := false) hst hi hp hg
    rw [output_silent] at hblock
    exact takeLegBlock_eq hl (hkeyOpen hst).1 hnone hblock

end Sys2Proof.Machine
end

section
/-! PROOFS. Completions by the framer's mode (R82 to R86): the cell, the bad cells, the straddled blocks, and the legs
that take their blocks. -/

namespace Sys2Proof.Machine

variable {s u : State} {n : LegNo} {l : Leg} {p : Position} {f : Framer} {ld : Option LegNo} {straddles : Bool}

/-! ### The legs take their blocks -/

theorem takeBlocks_free (hn : u.legs[n] = none) : (u.takeBlocks ld straddles).legs[n] = none := by
  rw [State.takeBlocks_legs, hn, Option.map_none]

theorem takeBlocks_closed (hl : u.legs[n] = some l) (ho : l.state.isOpen = false) :
    (u.takeBlocks ld straddles).legs[n] = some l := by
  rw [State.takeBlocks_legs, hl, Option.map_some, Leg.afterBlock, ho]
  rfl

theorem takeBlocks_open {c : LegChange} (hl : u.legs[n] = some l) (ho : l.state.isOpen = true)
    (hc : l.takeBlock u.params.epochLength (ld == some n) straddles = c) :
    (u.takeBlocks ld straddles).legs[n] = some c.leg := by
  rw [State.takeBlocks_legs, hl, Option.map_some, Leg.afterBlock, if_pos ho, hc]

/-- R41: a completion whose legs tell nothing changes the legs alone. -/
theorem takeBlocks_eq_of_quiet (h : ∀ (n : LegNo) (l : Leg), u.legs[n] = some l → l.state.isOpen = true →
      (l.takeBlock u.params.epochLength (ld == some n) straddles).notices = []) :
    u.takeBlocks ld straddles = { u with legs := (u.takeBlocks ld straddles).legs } := by
  have hframe := State.takeBlocks_frame ld straddles u
  rwa [State.takeBlocks_quiet h] at hframe

/-! ### The end of a block by the framer's mode -/

theorem exec_trunkReceiveBlockCompletion (hs : s.resetAsserted = false) :
    exec .trunkReceiveBlockCompletion s = .next s.completeBlock := by
  rw [exec, execTrunkReceiveBlockCompletion, whenInService_next hs]

theorem completeBlock_sync (he : s.framer.blockEnded = true) (hm : s.framer.mode = .sync p) :
    s.completeBlock = s.completeSync p := by
  simp only [State.completeBlock, he, hm, if_true]

theorem completeBlock_presync (he : s.framer.blockEnded = true) (hm : s.framer.mode = .presync p) :
    s.completeBlock = s.completePresync p := by
  simp only [State.completeBlock, he, hm, if_true]

theorem completeSync_valid {cell : TrunkCell} (hmark : s.framer.slipMark = 0)
    (hcell : parseTrunkCell s.framer.window = some cell) :
    s.completeSync p = State.completeValid { s with framer := s.framer.nextBlock } cell := by
  simp only [State.completeSync, hmark, hcell, if_true]

theorem completeSync_bad (hmark : s.framer.slipMark = 0) (hcell : parseTrunkCell s.framer.window = none) :
    s.completeSync p = (State.badCell { s with framer := s.framer.nextBlock } p).takeBlocks none false := by
  simp only [State.completeSync, hmark, hcell, if_true]

theorem completeSync_straddled (hmark : s.framer.slipMark = 1) :
    s.completeSync p = State.takeBlocks none true { s with framer := s.framer.nextBlock } := by
  simp only [State.completeSync, hmark, if_true, Nat.one_ne_zero, if_false]

theorem completeSync_straddledTwice (hmark : s.framer.slipMark = 2) :
    s.completeSync p = (State.badCell { s with framer := s.framer.nextBlock } p).takeBlocks none true := by
  simp only [State.completeSync, hmark, if_false, OfNat.ofNat_ne_zero, OfNat.ofNat_ne_one]

theorem completePresync_failed (hcell : parseTrunkCell s.framer.window = none) :
    s.completePresync p = { s with framer := s.framer.toHunt, legs := emptyAssemblies s.legs } := by
  simp only [State.completePresync, hcell]

theorem completePresync_confirmed {cell : TrunkCell} (hcell : parseTrunkCell s.framer.window = some cell) :
    s.completePresync p = (State.notify { s with framer := { s.framer.nextBlock with mode := .sync p } } .trunkLocked 0
      (BitVec.ofNat 16 p)).completeValid cell := by
  simp only [State.completePresync, hcell]

theorem badCell_below (h : s.framer.badRun < 3) : s.badCell p =
    { s with framer := { s.framer with badRun := s.framer.badRun + 1, badCells := bump s.framer.badCells } } := by
  rw [State.badCell, if_neg]
  exact Nat.not_le.2 (Nat.succ_lt_succ h)

/-- R84: the fourth bad cell in a row. -/
theorem badCell_fourth (h : s.framer.badRun = 3) : s.badCell p =
    State.enterHunt { s with framer := { s.framer with badRun := s.framer.badRun + 1, badCells := bump s.framer.badCells } } p := by
  rw [State.badCell, if_pos]
  rw [h]

theorem nextBlock_of_unmarked (h : f.slipMark = 0) :
    f.nextBlock = { f with blockFrames := 0, blockLength := 8, blockEnded := false } := by
  cases f
  cases h
  rfl

theorem Leg.hunt_spec (ho : l.state.isOpen = true) :
    l.hunt = { l with state := if l.state.counts then .holding .hunt else l.state } ∧ l.hunt.state.isOpen = true ∧
      l.hunt.state.counts = false := by
  rw [Leg.hunt]
  cases hc : l.state.counts with
  | true => exact ⟨rfl, rfl, rfl⟩
  | false => exact ⟨rfl, ho, hc⟩

/-! ### The statements -/

/-- R41: a leg whose state no roll and no awaited key changes takes its block in the row of its state. -/
theorem takeBlock_row (len : Nat)
    (hroll : ∀ r, l.announced = some r → l.state.counts = true → l.rx.index = 0 → r.epoch ≠ l.rx.epoch)
    (hkey : ∀ g k, l.state = .holding (.key g) → l.pendingKey = some k → k.gen ≠ g) :
    l.takeBlock len false straddles = ⟨l.takeRow len false straddles, []⟩ := by
  rw [takeBlock_unawaited (receiveEpochStart_none hroll) (awaitedKey_eq_none hkey), takeAs_notLoaded]

/-- Settles O37: each leg's block in its row; the idle and the bad cell change the framer's counts alone. -/
theorem completionTakesEachLegsBlock : Obligations.CompletionTakesEachLegsBlock := by
  unfold Obligations.CompletionTakesEachLegsBlock
  refine ⟨fun c => if_pos rfl, fun g c hg => if_neg hg, fun s p hs hmode hended hmark hcell hlegs => ?_⟩
  have hcompleted : s.completeBlock = State.takeBlocks none false { s with framer := { s.framer with
      blockFrames := 0, blockLength := 8, blockEnded := false
      badRun := if (parseTrunkCell s.framer.window).isSome then 0 else s.framer.badRun + 1
      badCells := if (parseTrunkCell s.framer.window).isSome then s.framer.badCells else bump s.framer.badCells } } := by
    rw [completeBlock_sync hended hmode]
    rcases hcell with hcell | ⟨hcell, hrun⟩
    · rw [completeSync_valid hmark hcell, nextBlock_of_unmarked hmark, hcell]
      rfl
    · rw [completeSync_bad hmark hcell, nextBlock_of_unmarked hmark, hcell,
        badCell_below (s := { s with framer := { s.framer with blockFrames := 0, blockLength := 8, blockEnded := false } }) hrun]
      rfl
  rw [exec_trunkReceiveBlockCompletion hs, hcompleted]
  generalize hf : ({ s.framer with
      blockFrames := 0, blockLength := 8, blockEnded := false
      badRun := if (parseTrunkCell s.framer.window).isSome then 0 else s.framer.badRun + 1
      badCells := if (parseTrunkCell s.framer.window).isSome then s.framer.badCells else bump s.framer.badCells } : Framer) = f
  have hrow (n : LegNo) (l : Leg) (hl : s.legs[n] = some l) :
      l.takeBlock s.params.epochLength (none == some n) false = ⟨l.takeRow s.params.epochLength false false, []⟩ :=
    takeBlock_row _ (hlegs n l hl).1 (hlegs n l hl).2
  have hquiet := takeBlocks_eq_of_quiet (u := { s with framer := f }) (ld := none) (straddles := false)
    fun n l hl _ => congrArg LegChange.notices (hrow n l hl)
  refine ⟨State.takeBlocks none false { s with framer := f }, rfl, fun n hn => takeBlocks_free hn, fun n l hl => ?_, ?_, ?_⟩
  · intro v counted entered quiet
    have htaken {k : Leg} (ho : l.state.isOpen = true) (hk : l.takeRow s.params.epochLength false false = k) :
        (State.takeBlocks none false { s with framer := f }).legs[n] = some k :=
      hk ▸ takeBlocks_open (u := { s with framer := f }) hl ho (hrow n l hl)
    have hquietly : entered quiet = l.quietOutput := rfl
    refine ⟨fun b hst hb => htaken (by rw [hst]; rfl) ?_, fun g hst => htaken (by rw [hst]; rfl) ?_, fun hst => ?_,
      fun c hst => takeBlocks_closed (u := { s with framer := f }) hl (by rw [hst]; rfl)⟩
    · rw [takeRow_running hst hb, Leg.output, pushOutput_eq, Vector.toList_map]
      rfl
    · rw [takeRow_holdingKey hst, output_silent]
      rfl
    · refine htaken ?_ ?_
      · rcases hst with hst | hst | hst <;> rw [hst] <;> rfl
      · rw [takeRow_quiet hst, output_silent, hquietly]
  · rw [hquiet]
  · rw [hquiet]

/-- Settles O40: the fourth bad cell, the straddled blocks, and the lock that fails or is confirmed. -/
theorem badCellsHuntAndStraddledBlocksMute : Obligations.BadCellsHuntAndStraddledBlocksMute := by
  unfold Obligations.BadCellsHuntAndStraddledBlocksMute
  intro s p hs hended quiet freed muted
  rw [exec_trunkReceiveBlockCompletion hs]
  have hmuted (f : Framer) : muted (State.takeBlocks none true { s with framer := f }) := by
    refine ⟨fun n l hl ha => ?_, fun n l hl hc => ?_, fun n hn => takeBlocks_free hn, ?_⟩
    · have hroll : ∀ r, l.announced = some r → l.state.counts = true → l.rx.index = 0 → r.epoch ≠ l.rx.epoch :=
        fun _ h => nomatch ha.symm.trans h
      have htaken {k : Leg} (ho : l.state.isOpen = true)
          (hkey : ∀ g k, l.state = .holding (.key g) → l.pendingKey = some k → k.gen ≠ g)
          (hk : l.takeRow s.params.epochLength false true = k) :
          (State.takeBlocks none true { s with framer := f }).legs[n] = some k :=
        hk ▸ takeBlocks_open (u := { s with framer := f }) (ld := none) hl ho (takeBlock_row _ hroll hkey)
      refine ⟨fun hst => htaken (by rw [hst]; rfl) (fun _ _ h => nomatch hst.symm.trans h) ?_,
        fun g hst hp => htaken (by rw [hst]; rfl) (fun a k h hk => ?_) ?_⟩
      · rw [takeRow_running_muted hst, output_silent]
        rfl
      · cases hst.symm.trans h
        exact hp k hk
      · rw [takeRow_holdingKey hst, output_silent]
        rfl
    · cases ho : l.state.isOpen with
      | true => exact (takeBlocks_open (u := { s with framer := f }) hl ho (takeBlock_notCounting ho hc)).trans (by rw [output_silent]; rfl)
      | false => exact takeBlocks_closed (u := { s with framer := f }) hl ho
    · rw [State.takeBlocks_frame]
  refine ⟨fun hmode hrun hcell => ?hunt, fun hmode hmark => ?straddled, fun hmode hmark hrun => ?twice,
    fun hmode hcell => ?failed, fun hmode hcell hcounts => ?confirmed⟩
  case hunt =>
    obtain ⟨st, hst⟩ : ∃ st, s.completeBlock =
        (State.badCell { s with framer := s.framer.nextBlock } p).takeBlocks none st := by
      rw [completeBlock_sync hended hmode]
      rcases hcell with ⟨hmark, hcell⟩ | hmark
      · exact ⟨false, completeSync_bad hmark hcell⟩
      · exact ⟨true, completeSync_straddledTwice hmark⟩
    rw [hst, badCell_fourth (s := { s with framer := s.framer.nextBlock }) hrun]
    generalize hu : State.enterHunt _ p = u
    have hframer : u.framer = { freed with mode := .hunt, badRun := 0, badCells := bump s.framer.badCells } := by
      rw [← hu]; rfl
    have hlegs (n : LegNo) : u.legs[n] = (s.legs[n]).map Leg.hunt := by
      rw [← hu]; exact getElem_ofFn_fin _ _
    have hnotices : u.notices = (s.notify .trunkHunt 0 (BitVec.ofNat 16 p)).notices := by rw [← hu]; rfl
    have hrest : u = { s with framer := u.framer, legs := u.legs, notices := u.notices } := by rw [← hu]; rfl
    have hheld (n : LegNo) (k : Leg) (hk : u.legs[n] = some k) (ho : k.state.isOpen = true) :
        k.takeBlock u.params.epochLength (none == some n) st = ⟨k.output silentBlock, []⟩ := by
      rw [hlegs] at hk
      obtain ⟨l, -, rfl⟩ := Option.map_eq_some_iff.1 hk
      have hol : l.state.isOpen = true := by
        rw [Leg.hunt] at ho
        cases hc : l.state.counts with
        | true => cases hst : l.state <;> first | rfl | (rw [hst] at hc; nomatch hc)
        | false => rwa [hc] at ho
      exact takeBlock_notCounting ho (Leg.hunt_spec hol).2.2
    have hquiet := takeBlocks_eq_of_quiet (u := u) (ld := none) (straddles := st)
      fun n k hk ho => congrArg LegChange.notices (hheld n k hk ho)
    refine ⟨u.takeBlocks none st, rfl, by rw [hquiet]; exact hframer, fun n l hl ho => ?_, by rw [hquiet]; exact hnotices, ?_⟩
    · obtain ⟨hhunt, hopen, hcounts⟩ := Leg.hunt_spec ho
      have hn : u.legs[n] = some l.hunt := by rw [hlegs, hl, Option.map_some]
      rw [takeBlocks_open hn hopen (hheld n _ hn hopen), output_silent, hhunt]
      rfl
    · rw [hquiet, hrest]
  case straddled =>
    rw [completeBlock_sync hended hmode, completeSync_straddled hmark]
    exact ⟨_, rfl, by rw [State.takeBlocks_frame]; rfl, hmuted _⟩
  case twice =>
    rw [completeBlock_sync hended hmode, completeSync_straddledTwice hmark,
      badCell_below (s := { s with framer := s.framer.nextBlock }) hrun]
    exact ⟨_, rfl, by rw [State.takeBlocks_frame]; rfl, hmuted _⟩
  case failed =>
    rw [completeBlock_presync hended hmode, completePresync_failed hcell]
    refine ⟨_, rfl, rfl, fun n l hl => ?_, rfl⟩
    exact (getElem_ofFn_fin _ _).trans (by rw [hl]; rfl)
  case confirmed =>
    rw [completeBlock_presync hended hmode, completePresync_confirmed hcell, State.completeValid, State.actOnCell]
    dsimp only
    generalize hu : ({ State.notify _ _ _ _ with framer := _ } : State) = u
    have hlegs : u.legs = s.legs := by rw [← hu]; rfl
    have hrest : u = { s with framer := u.framer, notices := u.notices } := by rw [← hu]; rfl
    have hquiet := takeBlocks_eq_of_quiet (u := u) (ld := none) (straddles := false) fun n l hl ho =>
      congrArg LegChange.notices (takeBlock_notCounting ho (hcounts n l (hlegs ▸ hl)))
    refine ⟨u.takeBlocks none false, rfl, by rw [hquiet, ← hu]; rfl, fun n l hl ho => ?_, by rw [hquiet, ← hu]; rfl, ?_⟩
    · rw [takeBlocks_open (hlegs ▸ hl) ho (takeBlock_notCounting ho (hcounts n l hl)), output_silent]
      rfl
    · rw [hquiet, hrest]

end Sys2Proof.Machine
end

section
/-! PROOFS. A valid cell acted on for the leg its tag selects (R87 to R91, R98, R100, R101). -/

namespace Sys2Proof.Machine

variable {s : State} {n : LegNo} {l : Leg} {p : KeySetting} {tag g : Byte} {e : Half} {len i : Nat}

/-! ### The leg a tag selects (R87) -/

theorem legByTag_eq_none (h : ∀ (n : LegNo) (l : Leg), s.legs[n] = some l → l.state.isOpen = true → l.receiveTag ≠ tag) :
    s.legByTag tag = none := by
  refine firstPlace_eq_none.2 fun n => Bool.eq_false_iff.2 fun hn => ?_
  obtain ⟨l, hl, htag⟩ := (Option.any_eq_true _ _).1 hn
  rw [Bool.and_eq_true, beq_iff_eq] at htag
  exact h n l hl htag.1 htag.2

theorem legByTag_eq_some (hl : s.legs[n] = some l) (ho : l.state.isOpen = true) (htag : l.receiveTag = tag)
    (hone : ∀ (m : LegNo) (k : Leg), s.legs[m] = some k → k.state.isOpen = true → k.receiveTag = tag → m = n) :
    s.legByTag tag = some n := by
  refine firstPlace_unique ?_ fun m hm => ?_
  · rw [hl, Option.any_some, ho, htag, beq_self_eq_true]
    rfl
  · obtain ⟨k, hk, hkt⟩ := (Option.any_eq_true _ _).1 hm
    rw [Bool.and_eq_true, beq_iff_eq] at hkt
    exact hone m k hk hkt.1 hkt.2

theorem onTaggedLeg_missed {act : Leg → LegChange × Bool} (h : s.legByTag tag = none) : s.onTaggedLeg tag act =
    ({ s with framer := { s.framer with unknownTags := bump s.framer.unknownTags } }, none) := by
  simp only [State.onTaggedLeg, h]

theorem onTaggedLeg_found {act : Leg → LegChange × Bool} {c : LegChange} {loaded : Bool} (h : s.legByTag tag = some n)
    (hl : s.legs[n] = some l) (hact : act l = (c, loaded)) : s.onTaggedLeg tag act =
      ((s.setLeg n (some c.leg)).notifyAll n c.notices, if loaded then some n else none) := by
  simp only [State.onTaggedLeg, h, hl, hact]

/-- A cell that changes nothing of the leg. -/
theorem onTaggedLeg_unchanged {act : Leg → LegChange × Bool} (h : s.legByTag tag = some n) (hl : s.legs[n] = some l)
    (hact : act l = (⟨l, []⟩, false)) : s.onTaggedLeg tag act = (s, none) := by
  rw [onTaggedLeg_found h hl hact, State.setLeg]
  show ({ s with legs := s.legs.set n (some l) }, none) = _
  rw [vector_set_eq_self hl]

theorem actOnCell_sync (s : State) (tag : Byte) (e : Half) (j : BitVec 12) (g : Byte) : s.actOnCell (.sync tag e j g) =
    s.onTaggedLeg tag fun l => if g = 0 || s.params.epochLength ≤ j.toNat then (⟨l, []⟩, false)
      else l.actOnSync s.params.epochLength e j.toNat g := rfl

theorem actOnCell_roll (s : State) (tag g : Byte) (e : Half) : s.actOnCell (.roll tag g e) =
    s.onTaggedLeg tag fun l => if g = 0 then (⟨l, []⟩, false) else (⟨{ l with announced := some ⟨g, e⟩ }, []⟩, false) := rfl

theorem actOnCell_clear (s : State) (tag : Byte) :
    s.actOnCell (.clear tag) = s.onTaggedLeg tag fun l => (l.actOnClear, false) := rfl

/-! ### SYNC (R88, R89, R100, R101) -/

theorem actOnSync_realigned (hg : g = l.rxKey.gen) (hst : l.state = .running) (hne : ¬(l.rx.epoch = e ∧ l.rx.index = i)) :
    l.actOnSync len e i g = (⟨{ l with
      rx := l.rx.load l.rxKey.key len e i, realigns := bump l.realigns
      announced := l.announced.filter fun r => r.gen ≠ g }, [(.legRealigned, BitVec.ofNat 16 i)]⟩, true) := by
  have hne : ¬(decide (l.rx.epoch = e) && decide (l.rx.index = i)) = true := by
    rwa [Bool.and_eq_true, decide_eq_true_eq, decide_eq_true_eq]
  rw [Leg.actOnSync, if_pos hg]
  simp only [hst, if_neg hne, Leg.dropAnnounced_eq, Leg.loadCounters]

/-- R90, R101: a SYNC of the receive generation returns a leg to RUNNING; R98 and R101 disagree on an announced roll of
that generation in HOLDING(KEY). -/
theorem actOnSync_synced (hg : g = l.rxKey.gen) (ho : l.state.isOpen = true) (hst : l.state ≠ .running) :
    ∃ roll : Option Roll, (roll = (l.announced.filter fun r => r.gen ≠ g) ∨
        (roll = l.announced ∧ ∃ a, l.state = .holding (.key a))) ∧
      l.actOnSync len e i g = (⟨{ l with
        rx := l.rx.load l.rxKey.key len e i, state := .running, announced := roll },
        [(.legSynced, g.setWidth 16)]⟩, true) := by
  have hsynced (k : Leg) (roll : Option Roll) (hk : k = { l with announced := roll }) :
      ((⟨{ k.loadCounters len e i with state := .running }, [(.legSynced, k.rxKey.gen.setWidth 16)]⟩, true) :
        LegChange × Bool) =
      (⟨{ l with rx := l.rx.load l.rxKey.key len e i, state := .running, announced := roll },
        [(.legSynced, g.setWidth 16)]⟩, true) := by
    subst hk hg
    rfl
  rw [Leg.actOnSync, if_pos hg]
  cases hs : l.state with
  | running => exact absurd hs hst
  | clearing c => rw [hs] at ho; nomatch ho
  | waiting => exact ⟨_, .inl rfl, hsynced _ _ (l.dropAnnounced_eq g)⟩
  | holding why =>
    cases why with
    | hunt | farCleared => exact ⟨_, .inl rfl, hsynced _ _ (l.dropAnnounced_eq g)⟩
    | key a =>
      cases hown : Config.ownSyncEndsRoll with
      | true =>
        have hdrop : l.dropOwnAnnounced g = l.dropAnnounced g := by
          rw [Leg.dropOwnAnnounced, hown, Bool.and_true, Leg.dropAnnounced]
        exact ⟨_, .inl rfl, hsynced _ _ (hdrop.trans (l.dropAnnounced_eq g))⟩
      | false =>
        have hdrop : l.dropOwnAnnounced g = l := by
          rw [Leg.dropOwnAnnounced, hown, Bool.and_false]
          rfl
        exact ⟨l.announced, .inr ⟨rfl, a, rfl⟩, hsynced _ _ hdrop⟩

theorem actOnSync_rolled (hg : g ≠ l.rxKey.gen) (hp : l.pendingKey = some p) (hpg : p.gen = g) :
    l.actOnSync len e i g = (⟨{ l with
      state := .running, rxKey := ⟨p.gen, p.mode, p.descramble⟩, rx := l.rx.load p.descramble len e i
      announced := l.announced.filter fun r => r.gen ≠ g
      pendingKey := if l.txKey.gen = p.gen then none else some p }, [(.keyRolled, receiveRolled g)]⟩, true) := by
  rw [Leg.actOnSync, if_neg hg]
  simp only [Leg.dropAnnounced_eq, pendingWith_eq_some (l := { l with announced := l.announced.filter fun r => r.gen ≠ g }) hp hpg,
    adopt_eq (l := { l with announced := l.announced.filter fun r => r.gen ≠ g }) hp, Leg.loadCounters]

theorem actOnSync_missing (hg : g ≠ l.rxKey.gen) (hno : ∀ p, l.pendingKey = some p → p.gen ≠ g) :
    l.actOnSync len e i g = (⟨{ l with
      state := .holding (.key g), rx := l.rx.load l.rxKey.key len e i
      announced := l.announced.filter fun r => r.gen ≠ g },
      if l.awaits g then [] else [(.keyMissing, g.setWidth 16)]⟩, true) := by
  rw [Leg.actOnSync, if_neg hg]
  simp only [Leg.dropAnnounced_eq, pendingWith_eq_none (l := { l with announced := l.announced.filter fun r => r.gen ≠ g }) hno,
    Leg.loadCounters]
  rfl

/-! ### CLEAR (R91) -/

theorem actOnClear_again (hst : l.state = .holding .farCleared) : l.actOnClear = ⟨l, []⟩ := by
  simp only [Leg.actOnClear, hst]

theorem actOnClear_first (hst : l.state ≠ .holding .farCleared) : l.actOnClear =
    ⟨{ l with state := .holding .farCleared, announced := none }, [(.farCleared, if l.state = .running then 1 else 0)]⟩ := by
  unfold Leg.actOnClear
  split
  next h => exact absurd h hst
  next => rfl

/-- Settles O38: the completion with a valid cell, and the cell acted on by its kind and the leg's state. -/
theorem cellsActOnTheirLeg : Obligations.CellsActOnTheirLeg := by
  unfold Obligations.CellsActOnTheirLeg
  refine ⟨fun s p cell hs hmode hended hmark hcell => ?sync, fun s p cell hs hmode hended hcell => ?presync,
    fun s tag => ⟨fun hnone e i g => ?missed, fun n l hl ho htag hone => ?found⟩⟩
  case sync =>
    rw [exec_trunkReceiveBlockCompletion hs, completeBlock_sync hended hmode, completeSync_valid hmark hcell,
      nextBlock_of_unmarked hmark]
    rfl
  case presync =>
    rw [exec_trunkReceiveBlockCompletion hs, completeBlock_presync hended hmode, completePresync_confirmed hcell]
    rfl
  case missed =>
    have htag := legByTag_eq_none hnone
    rw [actOnCell_sync, actOnCell_roll, actOnCell_clear]
    exact ⟨onTaggedLeg_missed htag, onTaggedLeg_missed htag, onTaggedLeg_missed htag⟩
  case found =>
    intro len put loaded kept
    have hn := legByTag_eq_some hl ho htag hone
    have hsync {e : Half} {i : BitVec 12} {g : Byte} {c : LegChange} (hg : g ≠ 0) (hi : i.toNat < len)
        (hc : l.actOnSync len e i.toNat g = (c, true)) : s.actOnCell (.sync tag e i g) =
          ((s.setLeg n (some c.leg)).notifyAll n c.notices, some n) := by
      rw [actOnCell_sync]
      refine onTaggedLeg_found hn hl (loaded := true) ?_
      rw [if_neg, hc]
      rw [Bool.or_eq_true, decide_eq_true_eq, decide_eq_true_eq]
      exact fun h => h.elim hg (Nat.not_le.2 hi)
    refine ⟨fun e i g h => ?ignored, fun e i g hown hg hi => ⟨fun hst he hx => ?agrees, fun hst hne => ?realigned,
      fun hst => ?synced⟩, fun e i g hother hg hi => ⟨fun p hp hpg => ?rolled, fun hno => ?missing⟩,
      fun g e hg => ?rollIgnored, fun g e hg => ?roll, fun hst => ?clearAgain, fun hst => ?clear⟩
    case ignored =>
      rw [actOnCell_sync]
      refine onTaggedLeg_unchanged hn hl (if_pos ?_)
      rwa [Bool.or_eq_true, decide_eq_true_eq, decide_eq_true_eq]
    case agrees =>
      rw [actOnCell_sync]
      refine onTaggedLeg_unchanged hn hl ?_
      rw [Leg.actOnSync_equal hst hown he hx, ite_self]
    case realigned => exact hsync hg hi (actOnSync_realigned hown hst hne)
    case synced =>
      obtain ⟨roll, hroll, hact⟩ := actOnSync_synced (len := len) (e := e) (i := i.toNat) hown ho hst
      exact ⟨roll, hroll, hsync hg hi hact⟩
    case rolled => exact hsync hg hi (actOnSync_rolled hother hp hpg)
    case missing =>
      have hact := hsync hg hi (actOnSync_missing (e := e) hother hno)
      intro held
      refine ⟨fun hst => ?_, fun hst => ?_⟩
      · have hw : l.awaits g = true := beq_iff_eq.2 hst
        rw [hact, hw]
        rfl
      · have hw : l.awaits g = false := beq_eq_false_iff_ne.2 hst
        rw [hact, hw]
        rfl
    case rollIgnored =>
      rw [actOnCell_roll]
      exact onTaggedLeg_unchanged hn hl (if_pos hg)
    case roll =>
      rw [actOnCell_roll]
      exact onTaggedLeg_found (c := ⟨{ l with announced := some ⟨g, e⟩ }, []⟩) (loaded := false) hn hl (if_neg hg)
    case clearAgain =>
      rw [actOnCell_clear]
      exact onTaggedLeg_unchanged hn hl (by rw [actOnClear_again hst])
    case clear =>
      rw [actOnCell_clear, onTaggedLeg_found (act := fun l => (l.actOnClear, false)) hn hl rfl, actOnClear_first hst]
      rfl

end Sys2Proof.Machine
end

section
/-! PROOFS. The work due before a line frame is the taking of its commands one after another (R2, R42). -/

namespace Sys2Proof.Machine

variable {s t u : State} {h : Handle} {r : ExtRecord} {slot : Slot}

/-! ### Commands taken one after another -/

/-- A list of commands, met with the reset line released, has the effect f and leaves the line released. -/
def Takes (cs : List Instr) (f : State → State) : Prop :=
  ∀ s : State, s.resetAsserted = false → takeAll cs s = .next (f s) ∧ (f s).resetAsserted = false

theorem Takes.append {l k : List Instr} {f g : State → State} (hl : Takes l f) (hk : Takes k g) :
    Takes (l ++ k) fun s => g (f s) := fun s hs => by
  obtain ⟨hf, hreset⟩ := hl s hs
  rw [takeAll_append hf]
  exact hk (f s) hreset

/-- A command's effect, a run of elementary changes, leaves the reset line released. -/
theorem Takes.of_changes {c : Instr} {f : State → State}
    (hc : ∀ s : State, s.resetAsserted = false → exec c s = .next (f s)) (hf : ∀ s, Changes true true s (f s)) :
    Takes [c] f := fun s hs => by
  obtain ⟨-, hreset, -⟩ := (hf s).frame
  refine ⟨?_, hreset.trans hs⟩
  rw [takeAll, hc s hs]
  rfl

theorem Takes.map {α : Type} {c : α → Instr} {f : State → α → State} (h : ∀ a, Takes [c a] fun s => f s a) (l : List α) :
    Takes (l.map c) fun s => l.foldl f s := by
  induction l with
  | nil => exact fun s hs => ⟨rfl, hs⟩
  | cons a rest ih => exact (h a).append ih

theorem Takes.replicate {c : Instr} {f : State → State} (h : Takes [c] f) (k : Nat) :
    Takes (List.replicate k c) f^[k] := by
  induction k with
  | zero => exact fun s hs => ⟨rfl, hs⟩
  | succ k ih => exact h.append ih

/-! ### The refresh expiries in handle order (R133) -/

/-- R133: the refresh timer of an extension stands at 0. -/
def State.RefreshDue (s : State) (h : Handle) : Prop := ∃ r slot, s.record h = some r ∧ r.state = .admitted slot (some 0)

theorem refreshExpiry_notDue (hd : ¬s.RefreshDue h) : s.refreshExpiry h = s := by
  unfold State.refreshExpiry
  split
  next => rfl
  next r hr =>
    split
    next slot hst => exact absurd ⟨r, slot, hr, hst⟩ hd
    next => rfl

/-- An expiry ends what is due of its own handle and leaves the others. -/
theorem refreshDue_refreshExpiry {k : Handle} (hd : s.RefreshDue h) : (s.refreshExpiry h).RefreshDue k ↔ k ≠ h ∧ s.RefreshDue k := by
  obtain ⟨r, slot, hr, hst⟩ := hd
  have hset (u : State) (a : Admission) (hu : ∀ k, u.record k = s.record k) (ha : ∀ j, a ≠ .admitted j (some 0)) :
      (u.setRecord h (some { r with state := a })).RefreshDue k ↔ k ≠ h ∧ s.RefreshDue k := by
    unfold State.RefreshDue
    rw [State.record_setRecord, hu]
    by_cases hk : h = k
    · rw [if_pos hk]
      constructor
      · rintro ⟨q, j, hq, hj⟩
        cases hq
        exact absurd hj (ha j)
      · exact fun hne => absurd hk.symm hne.1
    · rw [if_neg hk]
      exact ⟨fun hx => ⟨fun he => hk he.symm, hx⟩, fun hx => hx.2⟩
  cases he : s.engaged h r with
  | false =>
    rw [refreshExpiry_idle hr hst he]
    refine hset s _ (fun _ => rfl) fun j hj => ?_
    rw [Params.refreshTimer] at hj
    split at hj
    · nomatch hj
    next hne =>
      have hzero : s.params.refreshInterval * 1000 = 0 := by
        injection hj with _ htimer
        exact Option.some_injective _ htimer
      omega
  | true =>
    rcases Nat.lt_or_ge s.admQueue.length 8 with hq | hq
    · rw [refreshExpiry_room hr hst he hq]
      exact hset (s.sendChallenge slot) _ (fun _ => rfl) fun j => nofun
    · rw [refreshExpiry_full hr hst he hq]
      exact hset s _ (fun _ => rfl) fun j => nofun

theorem nextRefreshExpiry_noneDue (hd : ∀ h, ¬s.RefreshDue h) : s.nextRefreshExpiry = s := by
  have hnone : s.nextRefreshDue = none := by
    refine firstPlace_eq_none.2 fun h => Bool.eq_false_iff.2 fun hh => ?_
    obtain ⟨r, hr, hdue⟩ := (Option.any_eq_true _ _).1 hh
    obtain ⟨slot, hst⟩ := Admission.refreshDue_iff.1 hdue
    exact hd h ⟨r, slot, hr, hst⟩
  simp only [State.nextRefreshExpiry, hnone]

/-- R133: taking the expiry of the lowest handle due, often enough, is taking each handle's in handle order. -/
theorem iterate_nextRefreshExpiry (ns : List Handle) (hpair : ns.Pairwise (· < ·)) (k : Nat) (hk : ns.length ≤ k)
    (s : State) (hdue : ∀ h, s.RefreshDue h → h ∈ ns) :
    State.nextRefreshExpiry^[k] s = ns.foldl State.refreshExpiry s := by
  induction ns generalizing s k with
  | nil => exact Function.iterate_fixed (nextRefreshExpiry_noneDue fun h hd => List.not_mem_nil (hdue h hd)) k
  | cons h rest ih =>
    obtain ⟨hfirst, hrest⟩ := List.pairwise_cons.1 hpair
    rw [List.length_cons] at hk
    rw [List.foldl_cons]
    by_cases hd : s.RefreshDue h
    · obtain ⟨j, rfl⟩ := Nat.exists_eq_add_of_le' (Nat.one_le_of_lt hk)
      have hnext : s.nextRefreshExpiry = s.refreshExpiry h := by
        obtain ⟨r, slot, hr, hst⟩ := hd
        refine nextRefreshExpiry_eq hr hst fun y q i hy hq hqst => ?_
        rcases List.mem_cons.1 (hdue y ⟨q, i, hq, hqst⟩) with rfl | hmem
        · exact lt_irrefl _ hy
        · exact lt_asymm hy (hfirst y hmem)
      rw [Function.iterate_succ_apply, hnext]
      refine ih hrest j (by omega) _ fun y hy => ?_
      obtain ⟨hne, hold⟩ := (refreshDue_refreshExpiry hd).1 hy
      exact (List.mem_cons.1 (hdue y hold)).resolve_left hne
    · rw [refreshExpiry_notDue hd]
      refine ih hrest k (by omega) s fun y hy => (List.mem_cons.1 (hdue y hy)).resolve_left ?_
      rintro rfl
      exact hd hy

/-! ### The work due before a line frame (R2, R42) -/

theorem takes_blockStartCommands : Takes blockStartCommands fun s => s.blockStart.blockStartWork := by
  have hscramble := Takes.map (c := .legBlockScramble) (f := State.scrambleLeg)
    (fun n => .of_changes (fun s hs => by rw [exec, execLegBlockScramble, whenInService_next hs])
      fun s => changes_scrambleLeg s n) (List.finRange 32)
  have hanswer := Takes.map (c := .answerTimerExpiry) (f := State.answerExpiry)
    (fun h => .of_changes (fun s hs => by rw [exec, execAnswerTimerExpiry, whenInService_next hs])
      fun s => changes_answerExpiry s h) (List.finRange 256)
  have hbar := Takes.map (c := .barTimerExpiry) (f := State.barExpiry)
    (fun h => .of_changes (fun s hs => by rw [exec, execBarTimerExpiry, whenInService_next hs])
      fun s => changes_barExpiry s h) (List.finRange 256)
  have hgovern := Takes.map (c := .governorUpdate) (f := State.governConf)
    (fun c => .of_changes (fun s hs => by rw [exec, execGovernorUpdate, whenInService_next hs])
      fun s => changes_governConf s c) (List.finRange 8)
  have hrefresh : Takes (List.replicate 256 .refreshTimerExpiry) fun s => (List.finRange 256).foldl State.refreshExpiry s := by
    have hsame : State.nextRefreshExpiry^[256] = fun s => (List.finRange 256).foldl State.refreshExpiry s := funext fun s =>
      iterate_nextRefreshExpiry _ (List.pairwise_lt_finRange 256) 256 (by simp) s fun h _ => List.mem_finRange h
    rw [← hsame]
    exact Takes.replicate (.of_changes (fun s hs => by rw [exec, execRefreshTimerExpiry, whenInService_next hs])
      changes_nextRefreshExpiry) 256
  have hstart : Takes [.lineBlockStart] State.blockStart := .of_changes (fun s hs => exec_lineBlockStart hs) changes_blockStart
  have htrunk : Takes [.trunkCellDeparture] State.trunkDeparture :=
    .of_changes (fun s hs => by rw [exec, execTrunkCellDeparture, whenInService_next hs]) changes_trunkDeparture
  have hdeparture : Takes [.admissionCellDeparture] State.admissionDeparture :=
    .of_changes (fun s hs => by rw [exec, execAdmissionCellDeparture, whenInService_next hs]) changes_admissionDeparture
  have harrival : Takes [.admissionCellArrival] State.admissionArrival :=
    .of_changes (fun s hs => by rw [exec, execAdmissionCellArrival, whenInService_next hs]) changes_admissionArrival
  have hcommit : Takes [.holdCommitApply] State.applyCommit := fun s hs => by
    refine ⟨by rw [takeAll, exec, execHoldCommitApply, whenInService_next hs]; rfl, ?_⟩
    rcases s.applyCommit_cases with hidle | ⟨entries, reply, -, hchanges, happly⟩
    · rw [hidle]
      exact hs
    · obtain ⟨-, hreset, -⟩ := hchanges.frame
      rw [happly]
      exact hreset.trans hs
  have hqueues : Takes [.trunkCellDeparture, .admissionCellDeparture, .admissionCellArrival]
      fun s => s.trunkDeparture.admissionDeparture.admissionArrival := htrunk.append (hdeparture.append harrival)
  have hall := ((((((hstart.append hscramble).append hqueues).append hanswer).append hbar).append hrefresh).append
    hgovern).append hcommit
  unfold blockStartCommands State.blockStartWork
  dsimp only
  exact hall

/-- R2, R42: the work before a line frame is the completion and, at position 0, the line block start and its work, each
taken as its own command. -/
theorem takeAll_settle (hs : s.resetAsserted = false) : takeAll (.trunkReceiveBlockCompletion ::
    if s.line.framePos = 0 then blockStartCommands else []) s = .next s.settle := by
  have hframe := s.completeBlock_frame
  have hreset : s.completeBlock.resetAsserted = false := by rw [hframe]; exact hs
  have hpos : s.completeBlock.line.framePos = s.line.framePos := by rw [hframe]
  rw [takeAll, exec_trunkReceiveBlockCompletion hs, State.settle, hpos]
  dsimp only
  split
  · exact (takes_blockStartCommands _ hreset).1
  · rfl

end Sys2Proof.Machine
end

section
/-! PROOFS. What a line frame takes and gives: the slots, the delivered frame and its slip, the framer, the assemblies and
the mix (R4 to R11, R38, R40, R42, R80, R81, R154 to R156). -/

namespace Sys2Proof.Machine

variable {s u : State} {n : LegNo} {l : Leg} {c : ConfNo} {k : Slot} {m : Member} {lineIn trunkIn : Frame} {mix : FrameMix}
  {pos : Position} {f : Framer}

/-! ### The mix of a frame (R154 to R156) -/

/-- R154: the mixing set of a conference in this frame. -/
def State.mixingSet (s : State) (k : Conf) : Option (List Member) :=
  if s.line.framePos = 0 then some k.members else k.mixSet

theorem fixMixingSets_eq (s : State) : s.fixMixingSets =
    { s with confs := Vector.ofFn fun c => (s.confs[c]).map fun k => { k with mixSet := s.mixingSet k } } := by
  unfold State.fixMixingSets State.mixingSet
  split
  · rfl
  · have hsame : (Vector.ofFn fun c : ConfNo => (s.confs[c]).map fun k => { k with mixSet := k.mixSet }) = s.confs := by
      ext i hi
      simp
    rw [hsame]

/-- R155: a member's input to the mix, as a code where the code decides it. -/
def State.voiceOf (s : State) (lineIn : Frame) : Member → Code
  | .leg n => s.outputOf n
  | .loc h => match s.boundSlot h with | none => silence | some k => lineIn[k]

theorem inputOf_eq (s : State) (lineIn : Frame) (m : Member) : s.inputOf lineIn m = expand (s.voiceOf lineIn m) := by
  cases m with
  | leg n => rfl
  | loc h =>
    simp only [State.inputOf, State.voiceOf]
    cases s.boundSlot h with
    | none => exact show (0 : Int) = expand silence by decide
    | some k => rfl

/-- R154, R155: the results of a conference's mixing set in this frame. -/
def State.mixed (s : State) (lineIn : Frame) (k : Conf) : List (Member × Code × Bool) :=
  minusOne k.attenuation (((s.mixingSet k).getD []).map fun m => (m, expand (s.voiceOf lineIn m)))

theorem mixOf_fixed (s : State) (lineIn : Frame) (k : Conf) :
    s.fixMixingSets.mixOf lineIn { k with mixSet := s.mixingSet k } = s.mixed lineIn k := by
  have hinput (m : Member) : s.fixMixingSets.inputOf lineIn m = expand (s.voiceOf lineIn m) := by
    rw [inputOf_eq, fixMixingSets_eq]
    rfl
  simp only [State.mixOf, State.mixed, hinput]
  cases s.mixingSet k <;> rfl

theorem frameMix_fixed (s : State) (lineIn : Frame) (c : ConfNo) :
    (s.fixMixingSets.frameMix lineIn)[c] = ((s.confs[c]).map (s.mixed lineIn)).getD [] := by
  have hconf : s.fixMixingSets.confs[c] = (s.confs[c]).map fun k => { k with mixSet := s.mixingSet k } := by
    rw [fixMixingSets_eq]
    exact getElem_ofFn_fin _ _
  rw [State.frameMix, getElem_ofFn_fin, State.resultsOf, hconf]
  cases s.confs[c] with
  | none => rfl
  | some k => exact mixOf_fixed s lineIn k

/-! ### The slots of a frame (R5, R6, R8) -/

theorem transmittingOn_none (h : ∀ (n : LegNo) (l : Leg), s.legs[n] = some l → l.state.isOpen = true → l.slot ≠ k) :
    s.transmittingOn k = none := by
  refine firstPlace_eq_none.2 fun n => Bool.eq_false_iff.2 fun hn => ?_
  obtain ⟨l, hl, hk⟩ := (Option.any_eq_true _ _).1 hn
  rw [Bool.and_eq_true, beq_iff_eq] at hk
  exact h n l hl hk.1 hk.2

theorem transmittingOn_some (hl : s.legs[n] = some l) (ho : l.state.isOpen = true) (hk : l.slot = k)
    (hone : ∀ (m : LegNo) (j : Leg), s.legs[m] = some j → j.state.isOpen = true → j.slot = k → m = n) :
    s.transmittingOn k = some n := by
  refine firstPlace_unique ?_ fun m hm => ?_
  · rw [hl, Option.any_some, ho, hk, beq_self_eq_true]
    rfl
  · obtain ⟨j, hj, hjk⟩ := (Option.any_eq_true _ _).1 hm
    rw [Bool.and_eq_true, beq_iff_eq] at hjk
    exact hone m j hj hjk.1 hjk.2

theorem lineDrive_vacant (h : s.line.outMap[k] = .vacant) : s.lineDrive mix k = none := by
  simp only [State.lineDrive, h]

theorem lineDrive_leg (h : s.line.outMap[k] = .leg n) : s.lineDrive mix k = some (s.outputOf n) := by
  simp only [State.lineDrive, h]

theorem lineDrive_local {h : Handle} {cf : Conf} (hk : s.line.outMap[k] = .conference c) (hc : s.confs[c] = some cf)
    (hb : s.boundTo k = some h) (hm : .loc h ∈ cf.members) : s.lineDrive mix k = some (resultOf mix[c] (.loc h)) := by
  have hat : s.localAt c k = some h := by
    rw [State.localAt, hb]
    exact if_pos (by rw [State.membersOf_some hc]; exact List.contains_iff_mem.2 hm)
  simp only [State.lineDrive, hk, hat]

/-! ### The delivered frame (R9, R11) -/

/-- R11: the read of this frame finds the primed store empty. -/
def State.SlipsNow (s : State) : Prop :=
  s.params.timing = .independent ∧ s.trunk.store = [] ∧ s.trunk.primed = true

theorem deliver_slips (h : s.SlipsNow) : s.deliver trunkIn = s.handleSlip .minus := by
  obtain ⟨ht, hstore, hprimed⟩ := h
  simp only [State.deliver, ht, hstore, hprimed, if_true]

theorem deliver_locked (h : s.params.timing = .locked) :
    s.deliver trunkIn = { s with trunk := { s.trunk with lastDelivered := trunkIn } } := by
  simp only [State.deliver, h]

theorem deliver_stored {frame : Frame} {rest : List Frame} (h : s.params.timing = .independent)
    (hstore : s.trunk.store = frame :: rest) :
    s.deliver trunkIn = { s with trunk := { s.trunk with store := rest, lastDelivered := frame } } := by
  simp only [State.deliver, h, hstore]

theorem deliver_unprimed (h : s.params.timing = .independent) (hstore : s.trunk.store = []) (hp : s.trunk.primed = false) :
    s.deliver trunkIn = s := by
  simp only [State.deliver, h, hstore, hp, Bool.false_eq_true, if_false]

/-- Without a slip the delivery is the trunk port's alone. -/
theorem deliver_trunk (h : ¬s.SlipsNow) : s.deliver trunkIn = { s with trunk := (s.deliver trunkIn).trunk } := by
  cases ht : s.params.timing with
  | locked => rw [deliver_locked ht]
  | independent =>
    cases hstore : s.trunk.store with
    | cons frame rest => rw [deliver_stored ht hstore]
    | nil =>
      cases hp : s.trunk.primed with
      | true => exact absurd ⟨ht, hstore, hp⟩ h
      | false => rw [deliver_unprimed ht hstore hp]

/-! ### The frame handed inward (R40, R80, R81) -/

theorem slip_of_sync_mode {p : Position} {d : SlipDirection} (h : f.mode = .sync p) : (f.slip d).mode ≠ .hunt := by
  simp only [Framer.slip, h]
  split
  · cases d <;> nofun
  · nofun

theorem deliver_window (pos : Position) (b : Byte) (f : Framer) :
    (f.deliver pos b).window = (f.window ++ [b]).drop (f.window.length + 1 - 8) := by
  have hpush : windowPush f.window b = (f.window ++ [b]).drop (f.window.length + 1 - 8) := by
    rw [windowPush, List.length_append]
    rfl
  rw [← hpush]
  cases hm : f.mode with
  | hunt =>
    simp only [Framer.deliver, hm]
    split <;> rfl
  | presync p => simp only [Framer.deliver, hm]
  | sync p => simp only [Framer.deliver, hm]

theorem deliver_hunt (pos : Position) (b : Byte) (h : f.mode = .hunt) : f.deliver pos b =
    if (parseTrunkCell (f.deliver pos b).window).isSome then
      { f with window := (f.deliver pos b).window, mode := .presync (pos + 1), blockFrames := 0, blockLength := 8
               blockEnded := false, slipMark := 0 }
    else { f with window := (f.deliver pos b).window } := by
  have hd : f.deliver pos b = if (parseTrunkCell (windowPush f.window b)).isSome then
      { f with window := windowPush f.window b, mode := .presync (pos + 1), blockFrames := 0, blockLength := 8
               blockEnded := false, slipMark := 0 }
      else { f with window := windowPush f.window b } := by simp only [Framer.deliver, h]
  have hw : (f.deliver pos b).window = windowPush f.window b := by
    rw [hd]
    split <;> rfl
  rw [hw, hd]

theorem deliver_phase (pos : Position) (b : Byte) (h : f.mode ≠ .hunt) : f.deliver pos b =
    { f with window := (f.deliver pos b).window, blockFrames := f.blockFrames + 1
             blockEnded := decide (f.blockLength ≤ f.blockFrames + 1) } := by
  cases hm : f.mode with
  | hunt => exact absurd hm h
  | presync p => simp only [Framer.deliver, hm]
  | sync p => simp only [Framer.deliver, hm]

theorem handInward_leg (hl : s.legs[n] = some l) : (s.handInward pos).legs[n] =
    some (if s.framer.mode = .hunt then l else l.gatherReceive s.trunk.lastDelivered) := by
  by_cases hm : s.framer.mode = .hunt
  · rw [if_pos hm, ← hl]
    simp only [State.handInward, hm, ne_eq, not_true, if_false]
  · rw [if_neg hm]
    have hlegs : (s.handInward pos).legs = Vector.ofFn fun n => (s.legs[n]).map (Leg.gatherReceive s.trunk.lastDelivered) := by
      simp only [State.handInward, hm, ne_eq, not_false_iff, if_true]
    rw [hlegs, getElem_ofFn_fin, hl, Option.map_some]

/-- R40, R82, R86: what a delivered frame makes of a leg, the framer having been in one mode before the delivery and
being in another after its slip. -/
def Leg.received (before after : FramerMode) (frame : Frame) (l : Leg) : Leg :=
  { l with rxAssembly :=
      if after = .hunt then (if before = .hunt then l.rxAssembly else [])
      else if l.state.isOpen = true then l.rxAssembly ++ [frame[l.slot]] else l.rxAssembly }

theorem gatherReceive_eq (before : FramerMode) {after : FramerMode} (h : after ≠ .hunt) (frame : Frame) (l : Leg) :
    l.gatherReceive frame = l.received before after frame := by
  rw [Leg.gatherReceive, Leg.received, if_neg h]
  split <;> rfl

theorem received_eq_self (h : f.mode = .hunt) (frame : Frame) (l : Leg) : l.received f.mode f.mode frame = l := by
  rw [Leg.received, if_pos h, if_pos h]

/-- R9, R11, R40: the legs after the delivery. -/
theorem delivered_leg (hf : (s.SlipsNow ∧ f = s.framer.slip .minus) ∨ (¬s.SlipsNow ∧ f = s.framer))
    (hl : s.legs[n] = some l) : ((s.deliver trunkIn).handInward pos).legs[n] =
      some (l.received s.framer.mode f.mode (s.deliver trunkIn).trunk.lastDelivered) := by
  rcases hf with ⟨hslips, rfl⟩ | ⟨hno, rfl⟩
  · rw [deliver_slips hslips]
    cases hm : s.framer.mode with
    | hunt =>
      have hlegs : (s.handleSlip .minus).legs[n] = some l := by
        rw [State.handleSlip_legs, hm]
        exact hl
      rw [handInward_leg hlegs, State.handleSlip_framer, Framer.slip_of_hunt hm, if_pos hm, ← hm, received_eq_self hm]
    | presync p =>
      have hlegs : (s.handleSlip .minus).legs[n] = some { l with rxAssembly := [] } := by
        rw [State.handleSlip_legs, hm]
        exact (getElem_emptyAssemblies _ _).trans (by rw [hl]; rfl)
      rw [handInward_leg hlegs, State.handleSlip_framer, Framer.slip_of_presync hm]
      rfl
    | sync p =>
      have hlegs : (s.handleSlip .minus).legs[n] = some l := by
        rw [State.handleSlip_legs, hm]
        exact hl
      have hmode := slip_of_sync_mode (d := .minus) hm
      rw [handInward_leg hlegs, State.handleSlip_framer, if_neg hmode]
      exact congrArg some (gatherReceive_eq _ hmode _ l)
  · have hd := deliver_trunk (trunkIn := trunkIn) hno
    have hlegs : (s.deliver trunkIn).legs[n] = some l := by
      rw [hd]
      exact hl
    have hframer : (s.deliver trunkIn).framer = s.framer := by rw [hd]
    rw [handInward_leg hlegs, hframer]
    split
    next hm => rw [received_eq_self hm]
    next hm => rw [gatherReceive_eq _ hm]

/-- R9, R11: the framer as the frame is delivered. -/
theorem delivered_framer (hf : (s.SlipsNow ∧ f = s.framer.slip .minus) ∨ (¬s.SlipsNow ∧ f = s.framer)) :
    ((s.deliver trunkIn).handInward pos).framer = f.deliver pos (s.deliver trunkIn).trunk.lastDelivered[0] := by
  have hframer : (s.deliver trunkIn).framer = f := by
    rcases hf with ⟨hslips, rfl⟩ | ⟨hno, rfl⟩
    · rw [deliver_slips hslips, State.handleSlip_framer]
    · rw [deliver_trunk hno]
  rw [← hframer]
  rfl

/-! ### The parts of a line frame -/

theorem frameSlots_frame (s : State) (lineIn : Frame) : s.frameSlots lineIn = { s with
    line := (s.frameSlots lineIn).line, trunk := (s.frameSlots lineIn).trunk
    legs := (s.frameSlots lineIn).legs, confs := (s.frameSlots lineIn).confs } := by
  have hslots : s.frameSlots lineIn = { s.fixMixingSets with
    line := (s.frameSlots lineIn).line, trunk := (s.frameSlots lineIn).trunk
    legs := (s.frameSlots lineIn).legs, confs := (s.frameSlots lineIn).confs } := rfl
  generalize s.frameSlots lineIn = v at hslots
  rw [fixMixingSets_eq] at hslots
  exact hslots

theorem frameSlots_trunk (s : State) (lineIn : Frame) :
    (s.frameSlots lineIn).trunk = { s.trunk with out := (s.frameSlots lineIn).trunk.out } := by
  have htrunk : s.fixMixingSets.trunk = s.trunk := by rw [fixMixingSets_eq]
  rw [← htrunk]
  rfl

/-- R38: the code a leg's transmit assembly takes in this frame. -/
def State.sourceOf (s : State) (lineIn : Frame) (n : LegNo) (l : Leg) : Code :=
  match l.endpoint with
  | .parked => silence
  | .line => s.voiceOf lineIn (.loc l.owner)
  | .conference c => resultOf (((s.confs[c]).map (s.mixed lineIn)).getD []) (.leg n)

theorem transmitSource_fixed (s : State) (lineIn : Frame) (n : LegNo) (l : Leg) :
    s.fixMixingSets.transmitSource lineIn (s.fixMixingSets.frameMix lineIn) n l = s.sourceOf lineIn n l := by
  rw [State.transmitSource, State.sourceOf]
  cases l.endpoint with
  | parked => rfl
  | line =>
    rw [fixMixingSets_eq]
    rfl
  | conference c =>
    dsimp only
    rw [frameMix_fixed]

theorem frameSlots_legs (s : State) (lineIn : Frame) (n : LegNo) :
    (s.frameSlots lineIn).legs[n] = (s.legs[n]).map fun l => l.frame (s.sourceOf lineIn n l) := by
  have hlegs : s.fixMixingSets.legs = s.legs := by rw [fixMixingSets_eq]
  simp only [← transmitSource_fixed]
  rw [← hlegs]
  exact getElem_ofFn_fin _ _

theorem frameSlots_confs (s : State) (lineIn : Frame) (c : ConfNo) :
    (s.frameSlots lineIn).confs[c] = (s.confs[c]).map fun k =>
      { k with mixSet := s.mixingSet k, clipMark := k.clipMark || (s.mixed lineIn k).any (·.2.2) } := by
  have hconf : s.fixMixingSets.confs[c] = (s.confs[c]).map fun k => { k with mixSet := s.mixingSet k } := by
    rw [fixMixingSets_eq]
    exact getElem_ofFn_fin _ _
  have htaken : (s.frameSlots lineIn).confs[c] = (s.fixMixingSets.confs[c]).map fun k =>
      { k with clipMark := k.clipMark || (s.fixMixingSets.frameMix lineIn)[c].any (·.2.2) } := getElem_ofFn_fin _ _
  rw [htaken, hconf, frameMix_fixed]
  cases s.confs[c] <;> rfl

/-- R2, R4: the slot 0 byte taken, and the place of the next frame. -/
theorem nextFrame_takeSlot0 (b : Byte) (p : LinePort) : (p.takeSlot0 b).nextFrame = { p with
    framePos := p.framePos + 1
    startTaken := decide (p.framePos ≠ 7) && p.startTaken
    cellIn := if p.framePos = 7 then [] else p.cellIn ++ [b]
    arrival := if p.framePos = 7 then some (Vector.ofFn fun i => (p.cellIn ++ [b]).getD i.val 0) else p.arrival } := by
  unfold LinePort.takeSlot0 LinePort.nextFrame
  by_cases h : p.framePos = 7
  · simp only [h, if_true, ne_eq, not_true, decide_false, Bool.false_and]
  · simp only [h, if_false, ne_eq, not_false_iff, decide_true, Bool.true_and]

/-- R2, R4, R5, R6: the line port after a frame, and what it drives. -/
theorem frameSlots_line (s : State) (lineIn : Frame) :
    (s.frameSlots lineIn).line = { s.line with
      framePos := s.line.framePos + 1
      startTaken := decide (s.line.framePos ≠ 7) && s.line.startTaken
      cellIn := if s.line.framePos = 7 then [] else s.line.cellIn ++ [lineIn[0]]
      arrival := if s.line.framePos = 7 then some (Vector.ofFn fun i => (s.line.cellIn ++ [lineIn[0]]).getD i.val 0)
        else s.line.arrival
      out := (s.frameSlots lineIn).line.out } ∧
    ∀ k : Slot, (s.frameSlots lineIn).line.out[k] = if k = 0 then some s.line.cellOut[s.line.framePos]
      else s.fixMixingSets.lineDrive (s.fixMixingSets.frameMix lineIn) k := by
  have hout (p : LinePort) (hp : s.fixMixingSets.line = p) : ∃ out : Vector (Option Code) 64,
      (s.frameSlots lineIn).line = (LinePort.takeSlot0 lineIn[0] { p with out := out }).nextFrame ∧
      ∀ k : Slot, out[k] = if k = 0 then some p.cellOut[p.framePos]
        else s.fixMixingSets.lineDrive (s.fixMixingSets.frameMix lineIn) k := by
    subst hp
    exact ⟨_, rfl, fun k => getElem_ofFn_fin _ _⟩
  obtain ⟨out, hline, hdriven⟩ := hout s.line (by rw [fixMixingSets_eq])
  rw [nextFrame_takeSlot0] at hline
  have hsame : (s.frameSlots lineIn).line.out = out := by rw [hline]
  refine ⟨?_, fun k => ?_⟩
  · rw [hsame]
    exact hline
  · rw [hsame]
    exact hdriven k

theorem frameSlots_trunkOut (s : State) (lineIn : Frame) (k : Slot) : (s.frameSlots lineIn).trunk.out[k] =
    if k = 0 then some s.trunk.cellOut[s.line.framePos] else s.trunkDrive s.line.framePos k := by
  have htaken (w : State) (hw : s.fixMixingSets = w) : (s.frameSlots lineIn).trunk.out[k] =
      if k = 0 then some w.trunk.cellOut[w.line.framePos] else w.trunkDrive w.line.framePos k := by
    subst hw
    exact getElem_ofFn_fin _ _
  have hsame := htaken _ (fixMixingSets_eq s)
  exact hsame

/-- R8: a trunk slot is driven by the one open leg that holds it. -/
theorem trunkDrive_some (hl : s.legs[n] = some l) (ho : l.state.isOpen = true) (hk : l.slot = k)
    (hone : ∀ (m : LegNo) (j : Leg), s.legs[m] = some j → j.state.isOpen = true → j.slot = k → m = n) :
    s.trunkDrive pos k = some (l.trunkCode pos) := by
  rw [State.trunkDrive, transmittingOn_some hl ho hk hone]
  dsimp only
  rw [hl, Option.map_some]

theorem trunkDrive_none (h : ∀ (n : LegNo) (l : Leg), s.legs[n] = some l → l.state.isOpen = true → l.slot ≠ k) :
    s.trunkDrive pos k = none := by
  rw [State.trunkDrive, transmittingOn_none h]

/-- R11: whether the read of a frame slips is decided by the elastic store. -/
theorem slipsNow_frameSlots (s : State) (lineIn : Frame) : (s.frameSlots lineIn).SlipsNow ↔ s.SlipsNow := by
  unfold State.SlipsNow
  rw [frameSlots_trunk, frameSlots_frame]

/-! ### A line frame, once the work due before it has been taken -/

/-- The slots, the delivery and the handing inward of a line frame. -/
def State.framed (s : State) (lineIn trunkIn : Frame) : State :=
  ((s.frameSlots lineIn).deliver trunkIn).handInward s.line.framePos

theorem exec_lineFrame (hs : s.resetAsserted = false) :
    exec (.lineFrame lineIn trunkIn) s = .next (s.settle.framed lineIn trunkIn) := by
  rw [exec, execLineFrame, whenInService_next hs]
  rfl

/-- The delivery of a frame leaves the line side, the tables and the link as they were. -/
theorem delivered_frame (s : State) (trunkIn : Frame) : s.deliver trunkIn = { s with
    trunk := (s.deliver trunkIn).trunk, framer := (s.deliver trunkIn).framer, legs := (s.deliver trunkIn).legs
    notices := (s.deliver trunkIn).notices } := by
  by_cases hslips : s.SlipsNow
  · rw [deliver_slips hslips, State.handleSlip_eq]
  · rw [deliver_trunk hslips]

theorem framed_line (s : State) (lineIn trunkIn : Frame) : (s.framed lineIn trunkIn).line = (s.frameSlots lineIn).line := by
  show ((s.frameSlots lineIn).deliver trunkIn).line = _
  rw [delivered_frame]

theorem framed_trunk (s : State) (lineIn trunkIn : Frame) :
    (s.framed lineIn trunkIn).trunk = ((s.frameSlots lineIn).deliver trunkIn).trunk := rfl

theorem framed_notices (s : State) (lineIn trunkIn : Frame) :
    (s.framed lineIn trunkIn).notices = ((s.frameSlots lineIn).deliver trunkIn).notices := rfl

theorem framed_frame (s : State) (lineIn trunkIn : Frame) : s.framed lineIn trunkIn = { s with
    line := (s.framed lineIn trunkIn).line, trunk := (s.framed lineIn trunkIn).trunk
    framer := (s.framed lineIn trunkIn).framer, legs := (s.framed lineIn trunkIn).legs
    confs := (s.framed lineIn trunkIn).confs, notices := (s.framed lineIn trunkIn).notices } := by
  have hinward : s.framed lineIn trunkIn = { (s.frameSlots lineIn).deliver trunkIn with
    line := (s.framed lineIn trunkIn).line, trunk := (s.framed lineIn trunkIn).trunk
    framer := (s.framed lineIn trunkIn).framer, legs := (s.framed lineIn trunkIn).legs
    confs := (s.framed lineIn trunkIn).confs, notices := (s.framed lineIn trunkIn).notices } := rfl
  generalize s.framed lineIn trunkIn = t at hinward
  rw [delivered_frame, frameSlots_frame] at hinward
  exact hinward

theorem framed_confs (s : State) (lineIn trunkIn : Frame) (c : ConfNo) :
    (s.framed lineIn trunkIn).confs[c] = (s.confs[c]).map fun k =>
      { k with mixSet := s.mixingSet k, clipMark := k.clipMark || (s.mixed lineIn k).any (·.2.2) } := by
  have hconfs : (s.framed lineIn trunkIn).confs = (s.frameSlots lineIn).confs := by
    show ((s.frameSlots lineIn).deliver trunkIn).confs = _
    rw [delivered_frame]
  rw [hconfs, frameSlots_confs]

/-- R9, R11: the framer as a frame is delivered, after the slip of a read from an empty primed store. -/
def State.DeliversTo (s : State) (f : Framer) : Prop :=
  (s.SlipsNow ∧ f = s.framer.slip .minus) ∨ (¬s.SlipsNow ∧ f = s.framer)

theorem DeliversTo.frameSlots (hf : s.DeliversTo f) : (s.frameSlots lineIn).DeliversTo f := by
  have hframer : (s.frameSlots lineIn).framer = s.framer := by rw [frameSlots_frame]
  rwa [State.DeliversTo, slipsNow_frameSlots, hframer]

theorem framed_framer (hf : s.DeliversTo f) : (s.framed lineIn trunkIn).framer =
    f.deliver s.line.framePos (s.framed lineIn trunkIn).trunk.lastDelivered[0] :=
  delivered_framer (DeliversTo.frameSlots hf)

theorem framed_leg (hf : s.DeliversTo f) (hl : s.legs[n] = some l) : (s.framed lineIn trunkIn).legs[n] =
    some ((l.frame (s.sourceOf lineIn n l)).received s.framer.mode f.mode
      (s.framed lineIn trunkIn).trunk.lastDelivered) := by
  have hleg : (s.frameSlots lineIn).legs[n] = some (l.frame (s.sourceOf lineIn n l)) := by
    rw [frameSlots_legs, hl, Option.map_some]
  have hframer : (s.frameSlots lineIn).framer = s.framer := by rw [frameSlots_frame]
  have hdelivered := delivered_leg (trunkIn := trunkIn) (pos := s.line.framePos) (DeliversTo.frameSlots hf) hleg
  rwa [hframer] at hdelivered

theorem framed_free (hn : s.legs[n] = none) : (s.framed lineIn trunkIn).legs[n] = none := by
  have hslots : (s.frameSlots lineIn).legs[n] = none := by rw [frameSlots_legs, hn, Option.map_none]
  have hdelivered : ((s.frameSlots lineIn).deliver trunkIn).legs[n] = none := by
    generalize s.frameSlots lineIn = v at hslots
    by_cases hslips : v.SlipsNow
    · rw [deliver_slips hslips, State.handleSlip_legs]
      cases v.framer.mode with
      | presync p => exact (getElem_emptyAssemblies _ _).trans (by rw [hslots]; rfl)
      | hunt => exact hslots
      | sync p => exact hslots
    · rw [deliver_trunk hslips]
      exact hslots
  rw [State.framed]
  generalize (s.frameSlots lineIn).deliver trunkIn = d at hdelivered
  by_cases hm : d.framer.mode = .hunt
  · simp only [State.handInward, hm, ne_eq, not_true, if_false]
    exact hdelivered
  · simp only [State.handInward, hm, ne_eq, not_false_iff, if_true]
    exact (getElem_ofFn_fin _ _).trans (by rw [hdelivered]; rfl)

/-! ### The trunk port and the notices of a line frame (R9, R11) -/

theorem framed_trunkOut (s : State) (lineIn trunkIn : Frame) (k : Slot) : (s.framed lineIn trunkIn).trunk.out[k] =
    if k = 0 then some s.trunk.cellOut[s.line.framePos] else s.trunkDrive s.line.framePos k := by
  have hout (v : State) : (v.deliver trunkIn).trunk.out = v.trunk.out := by
    by_cases hslips : v.SlipsNow
    · rw [deliver_slips hslips, State.handleSlip_trunk]
      rfl
    · cases ht : v.params.timing with
      | locked => rw [deliver_locked ht]
      | independent =>
        cases hstore : v.trunk.store with
        | cons frame rest => rw [deliver_stored ht hstore]
        | nil =>
          cases hp : v.trunk.primed with
          | true => exact absurd ⟨ht, hstore, hp⟩ hslips
          | false => rw [deliver_unprimed ht hstore hp]
  rw [framed_trunk, hout, frameSlots_trunkOut]

theorem framed_trunk_locked (h : s.params.timing = .locked) : (s.framed lineIn trunkIn).trunk =
    { s.trunk with out := (s.framed lineIn trunkIn).trunk.out, lastDelivered := trunkIn } := by
  have ht : (s.frameSlots lineIn).params.timing = .locked := by rw [frameSlots_frame]; exact h
  rw [framed_trunk, deliver_locked ht, frameSlots_trunk]

theorem framed_trunk_stored {frame : Frame} {rest : List Frame} (h : s.params.timing = .independent)
    (hstore : s.trunk.store = frame :: rest) : (s.framed lineIn trunkIn).trunk =
      { s.trunk with out := (s.framed lineIn trunkIn).trunk.out, store := rest, lastDelivered := frame } := by
  have ht : (s.frameSlots lineIn).params.timing = .independent := by rw [frameSlots_frame]; exact h
  have hs : (s.frameSlots lineIn).trunk.store = frame :: rest := by rw [frameSlots_trunk]; exact hstore
  rw [framed_trunk, deliver_stored ht hs, frameSlots_trunk]

theorem framed_trunk_unprimed (h : s.params.timing = .independent) (hstore : s.trunk.store = [])
    (hp : s.trunk.primed = false) : (s.framed lineIn trunkIn).trunk =
      { s.trunk with out := (s.framed lineIn trunkIn).trunk.out } := by
  have ht : (s.frameSlots lineIn).params.timing = .independent := by rw [frameSlots_frame]; exact h
  have hs : (s.frameSlots lineIn).trunk.store = [] := by rw [frameSlots_trunk]; exact hstore
  have hprimed : (s.frameSlots lineIn).trunk.primed = false := by rw [frameSlots_trunk]; exact hp
  rw [framed_trunk, deliver_unprimed ht hs hprimed, frameSlots_trunk]

/-- R13: the slip record takes no part in what the port drives. -/
theorem recordSlip_driving (d : SlipDirection) (p : TrunkPort) (out : Vector (Option Code) 64) :
    TrunkPort.recordSlip d { p with out := out } = { p.recordSlip d with out := out } := rfl

/-- R13: the notices of a slip are decided by the slip record, the notice unit and the stamp. -/
theorem slipNotices_congr {t : State} {d : SlipDirection} {out : Vector (Option Code) 64} (hn : t.notices = s.notices)
    (hb : t.line.blockCount = s.line.blockCount) (ht : t.trunk = { s.trunk with out := out }) :
    t.slipNotices d = s.slipNotices d := by
  simp only [State.slipNotices, State.notify, hn, hb, ht]
  rfl

theorem framed_slips (h : s.SlipsNow) : (s.framed lineIn trunkIn).notices = (s.handleSlip .minus).notices ∧
    (s.framed lineIn trunkIn).trunk = { (s.handleSlip .minus).trunk with out := (s.framed lineIn trunkIn).trunk.out } := by
  have hslips := (slipsNow_frameSlots s lineIn).2 h
  rw [framed_notices, framed_trunk, deliver_slips hslips, State.handleSlip_notices, State.handleSlip_notices,
    State.handleSlip_trunk, State.handleSlip_trunk]
  refine ⟨slipNotices_congr ?_ ?_ (frameSlots_trunk s lineIn), ?_⟩
  · rw [frameSlots_frame]
  · rw [(frameSlots_line s lineIn).1]
  · have htrunk := frameSlots_trunk s lineIn
    generalize (s.frameSlots lineIn).trunk = q at htrunk ⊢
    rw [htrunk, recordSlip_driving]

theorem framed_notices_quiet (h : ¬s.SlipsNow) : (s.framed lineIn trunkIn).notices = s.notices := by
  rw [framed_notices, deliver_trunk (mt (slipsNow_frameSlots s lineIn).1 h), frameSlots_frame]

/-- Settles O42: the work due is the commands'; then the slots, the delivery and the framer, part by part. -/
theorem lineFrameTakesAndGivesTheSlots : Obligations.LineFrameTakesAndGivesTheSlots := by
  unfold Obligations.LineFrameTakesAndGivesTheSlots
  intro s lineIn trunkIn hs u pos slips set output spoken input codes result source
  have hspoken (h : Handle) : u.voiceOf lineIn (.loc h) = spoken h := rfl
  have hvoice (m : Member) : expand (u.voiceOf lineIn m) = input m := by
    cases m with
    | leg n => rfl
    | loc h => exact congrArg expand (hspoken h)
  have hcodes (k : Conf) : u.mixed lineIn k = codes k := by
    simp only [State.mixed, hvoice]
    rfl
  have hresult (c : ConfNo) (m : Member) :
      resultOf (((u.confs[c]).map (u.mixed lineIn)).getD []) m = result c m := by
    simp only [result]
    cases u.confs[c] with
    | none => rfl
    | some k => exact congrArg (fun results => resultOf results m) (hcodes k)
  have hsource (n : LegNo) (l : Leg) : u.sourceOf lineIn n l = source n l := by
    cases he : l.endpoint with
    | parked => simp only [State.sourceOf, source, he]
    | line => simp only [State.sourceOf, source, he, hspoken]
    | conference c => simp only [State.sourceOf, source, he, hresult]
  obtain ⟨hline, hlineOut⟩ := frameSlots_line u lineIn
  rw [← framed_line u lineIn trunkIn] at hline hlineOut
  have htrunkOut := framed_trunkOut u lineIn trunkIn
  have hvoiceSlot (k : Slot) (hk : k ≠ 0) : (u.framed lineIn trunkIn).line.out[k] =
      u.fixMixingSets.lineDrive (u.fixMixingSets.frameMix lineIn) k := (hlineOut k).trans (if_neg hk)
  have htrunkSlot (k : Slot) (hk : k ≠ 0) : (u.framed lineIn trunkIn).trunk.out[k] = u.trunkDrive pos k :=
    (htrunkOut k).trans (if_neg hk)
  have hfixedMap : u.fixMixingSets.line.outMap = u.line.outMap := by rw [fixMixingSets_eq]
  refine ⟨fun hpos hended => ?idle, takeAll_settle hs, u.framed lineIn trunkIn, exec_lineFrame hs, by rw [hline],
    by rw [hline], ?cell, (hlineOut 0).trans (if_pos rfl), (htrunkOut 0).trans (if_pos rfl),
    fun k hk => ⟨fun hmap => ?vacant, fun n l hmap hl => ?onLeg, fun c h cf hmap hc hb hm => ?member, fun hno => ?undriven,
      fun n l hl ho hslot hone => ?driven⟩, fun n hn => framed_free hn, fun f hf => ⟨fun n l hl => ?legs, ?window, fun hm => ?hunt,
      fun hm => ?phase⟩, fun c => ?confs, framed_trunk_locked, fun f rest => framed_trunk_stored, framed_trunk_unprimed,
    framed_slips, framed_notices_quiet, ?rest⟩
  case idle =>
    show s.settle = s
    rw [State.settle, completeBlock_idle hended, if_neg hpos]
  case cell =>
    rw [hline]
    dsimp only
    split <;> rfl
  case vacant =>
    rw [hvoiceSlot k hk]
    exact lineDrive_vacant (by rw [hfixedMap]; exact hmap)
  case onLeg =>
    rw [hvoiceSlot k hk, lineDrive_leg (n := n) (by rw [hfixedMap]; exact hmap), fixMixingSets_eq]
    simp only [State.outputOf, hl, Leg.nextOutput]
  case member =>
    have hconf : u.fixMixingSets.confs[c] = some { cf with mixSet := u.mixingSet cf } := by
      rw [fixMixingSets_eq]
      exact (getElem_ofFn_fin _ _).trans (by rw [hc]; rfl)
    have hbound : u.fixMixingSets.boundTo k = some h := by
      rw [fixMixingSets_eq]
      exact hb
    rw [hvoiceSlot k hk, lineDrive_local (by rw [hfixedMap]; exact hmap) hconf hbound hm, frameMix_fixed, hresult]
  case undriven => rw [htrunkSlot k hk, trunkDrive_none hno]
  case driven => exact (htrunkSlot k hk).trans (trunkDrive_some hl ho hslot hone)
  case legs =>
    rw [framed_leg hf hl, hsource, Leg.received, Leg.frame]
    simp only [Bool.and_eq_true]
  case window => rw [framed_framer hf, deliver_window]
  case hunt =>
    rw [framed_framer hf]
    exact deliver_hunt _ _ hm
  case phase =>
    rw [framed_framer hf]
    exact deliver_phase _ _ hm
  case confs =>
    rw [framed_confs]
    simp only [hcodes]
    rfl
  case rest =>
    have hframe := framed_frame u lineIn trunkIn
    generalize u.framed lineIn trunkIn = t at hframe hline
    have hkept : { u.line with framePos := t.line.framePos, cellIn := t.line.cellIn, arrival := t.line.arrival
                               out := t.line.out, startTaken := t.line.startTaken } = t.line := by rw [hline]
    rw [hkept]
    exact hframe

end Sys2Proof.Machine
end

section
/-! PROOFS. What a part with its secrets out of sight does: the lookups answer alike, and each operation on the state
does the same to it (R69, R104, R109). -/

namespace Sys2Proof.Machine

variable {s t : State} {n m : LegNo} {l : Leg} {c : ConfNo} {h x e : Handle} {r : ExtRecord}

/-! ### Records and tables -/

/-- R109: an extension record with its credential out of sight. -/
def ExtRecord.withoutSecrets (r : ExtRecord) : ExtRecord := { r with credential := ⟨0, 0⟩ }

theorem Leg.withoutSecrets_twice (l : Leg) : l.withoutSecrets.withoutSecrets = l.withoutSecrets := by
  unfold Leg.withoutSecrets
  cases l.pendingKey <;> rfl

/-- Only the legs and the extension records hold secrets. -/
theorem State.withoutSecrets_eq (s : State) :
    s.withoutSecrets = { s with
      legs := s.legs.map (Option.map Leg.withoutSecrets)
      ext := { s.ext with records := s.ext.records.map (Option.map ExtRecord.withoutSecrets) } } := by
  have hlegs : (Vector.ofFn fun n : LegNo => (s.legs[n]).map Leg.withoutSecrets) =
      s.legs.map (Option.map Leg.withoutSecrets) := by
    ext i hi
    simp
  have hrecords : (Vector.ofFn fun h : Handle => (s.ext.records[h]).map ExtRecord.withoutSecrets) =
      s.ext.records.map (Option.map ExtRecord.withoutSecrets) := by
    ext i hi
    simp
  rw [← hlegs, ← hrecords]
  rfl

/-! What holds no secret stays in sight. -/

@[simp] theorem State.withoutSecrets_line (s : State) : s.withoutSecrets.line = s.line := by
  simp only [State.withoutSecrets]

@[simp] theorem State.withoutSecrets_trunk (s : State) : s.withoutSecrets.trunk = s.trunk := by
  simp only [State.withoutSecrets]

@[simp] theorem State.withoutSecrets_framer (s : State) : s.withoutSecrets.framer = s.framer := by
  simp only [State.withoutSecrets]

@[simp] theorem State.withoutSecrets_cellQueue (s : State) : s.withoutSecrets.cellQueue = s.cellQueue := by
  simp only [State.withoutSecrets]

@[simp] theorem State.withoutSecrets_admQueue (s : State) : s.withoutSecrets.admQueue = s.admQueue := by
  simp only [State.withoutSecrets]

@[simp] theorem State.withoutSecrets_confs (s : State) : s.withoutSecrets.confs = s.confs := by
  simp only [State.withoutSecrets]

@[simp] theorem State.withoutSecrets_hold (s : State) : s.withoutSecrets.hold = s.hold := by
  simp only [State.withoutSecrets]

@[simp] theorem State.withoutSecrets_link (s : State) : s.withoutSecrets.link = s.link := by
  simp only [State.withoutSecrets]

@[simp] theorem State.withoutSecrets_notices (s : State) : s.withoutSecrets.notices = s.notices := by
  simp only [State.withoutSecrets]

@[simp] theorem State.withoutSecrets_params (s : State) : s.withoutSecrets.params = s.params := by
  simp only [State.withoutSecrets]

@[simp] theorem State.withoutSecrets_resetAsserted (s : State) : s.withoutSecrets.resetAsserted = s.resetAsserted := by
  simp only [State.withoutSecrets]

@[simp] theorem State.withoutSecrets_pending (s : State) : s.withoutSecrets.pending = s.pending := by
  simp only [State.withoutSecrets]

theorem State.withoutSecrets_legs (s : State) (n : LegNo) : s.withoutSecrets.legs[n] = (s.legs[n]).map Leg.withoutSecrets := by
  rw [State.withoutSecrets_eq]
  exact Vector.getElem_map ..

theorem State.withoutSecrets_record (s : State) (h : Handle) :
    s.withoutSecrets.record h = (s.record h).map ExtRecord.withoutSecrets := by
  rw [State.withoutSecrets_eq]
  exact Vector.getElem_map ..

theorem State.withoutSecrets_twice (s : State) : s.withoutSecrets.withoutSecrets = s.withoutSecrets := by
  have hleg : Leg.withoutSecrets ∘ Leg.withoutSecrets = Leg.withoutSecrets := funext Leg.withoutSecrets_twice
  have hrecord : ExtRecord.withoutSecrets ∘ ExtRecord.withoutSecrets = ExtRecord.withoutSecrets := rfl
  rw [State.withoutSecrets_eq, State.withoutSecrets_eq s]
  simp only [Vector.map_map, Option.map_comp_map, hleg, hrecord]

/-! ### Lookups -/

/-- A question about legs that does not ask for their secrets. -/
theorem State.withoutSecrets_any_leg (s : State) (n : LegNo) {p : Leg → Bool} (hp : ∀ l, p l.withoutSecrets = p l) :
    (s.withoutSecrets.legs[n]).any p = (s.legs[n]).any p := by
  rw [State.withoutSecrets_legs, Option.any_map]
  exact congrArg (fun q => (s.legs[n]).any q) (funext hp)

/-- A question about extension records that does not ask for their credentials. -/
theorem State.withoutSecrets_any_record (s : State) (h : Handle) {p : ExtRecord → Bool} (hp : ∀ r, p r.withoutSecrets = p r) :
    (s.withoutSecrets.record h).any p = (s.record h).any p := by
  rw [State.withoutSecrets_record, Option.any_map]
  exact congrArg (fun q => (s.record h).any q) (funext hp)

theorem State.withoutSecrets_isSome_leg (s : State) (n : LegNo) :
    (s.withoutSecrets.legs[n]).isSome = (s.legs[n]).isSome := by
  rw [State.withoutSecrets_legs, Option.isSome_map]

theorem State.withoutSecrets_isSome_record (s : State) (h : Handle) :
    (s.withoutSecrets.record h).isSome = (s.record h).isSome := by
  rw [State.withoutSecrets_record, Option.isSome_map]

@[simp] theorem State.withoutSecrets_boundSlot (s : State) (h : Handle) : s.withoutSecrets.boundSlot h = s.boundSlot h := by
  rw [State.boundSlot, State.withoutSecrets_record]
  exact Option.bind_map

@[simp] theorem State.withoutSecrets_admittedWith (s : State) (h : Handle) (p : ExtClass → Bool) :
    s.withoutSecrets.admittedWith h p = s.admittedWith h p := s.withoutSecrets_any_record h fun _ => rfl

@[simp] theorem State.withoutSecrets_findNumber (s : State) (d : ExtNumber) :
    s.withoutSecrets.findNumber d = s.findNumber d :=
  congrArg firstPlace (funext fun h => s.withoutSecrets_any_record h fun _ => rfl)

@[simp] theorem State.withoutSecrets_lookup (s : State) (ref : ExtRef) : s.withoutSecrets.lookup ref = s.lookup ref := by
  unfold State.lookup
  simp only [State.withoutSecrets_findNumber, State.withoutSecrets_isSome_record]

@[simp] theorem State.withoutSecrets_lowestFree (s : State) : s.withoutSecrets.lowestFree = s.lowestFree := by
  refine congrArg firstPlace (funext fun h => ?_)
  rw [State.withoutSecrets_record, Option.isNone_map]

@[simp] theorem State.withoutSecrets_recordCount (s : State) : s.withoutSecrets.recordCount = s.recordCount :=
  congrArg (fun p => (placesWhere p).length) (funext fun h => s.withoutSecrets_isSome_record h)

@[simp] theorem State.withoutSecrets_lineLegOf (s : State) (h : Handle) : s.withoutSecrets.lineLegOf h = s.lineLegOf h :=
  congrArg firstPlace (funext fun n => s.withoutSecrets_any_leg n fun _ => rfl)

@[simp] theorem State.withoutSecrets_slotOrTagInUse (s : State) (slot : Slot) (tag : Byte) :
    s.withoutSecrets.slotOrTagInUse slot tag = s.slotOrTagInUse slot tag :=
  congrArg (fun p => (firstPlace p).isSome) (funext fun n => s.withoutSecrets_any_leg n fun _ => rfl)

@[simp] theorem State.withoutSecrets_allLegsFree (s : State) : s.withoutSecrets.allLegsFree = s.allLegsFree :=
  congrArg (fun p => (placesWhere p).isEmpty) (funext fun n => s.withoutSecrets_isSome_leg n)


@[simp] theorem State.withoutSecrets_membersOf (s : State) (c : ConfNo) : s.withoutSecrets.membersOf c = s.membersOf c := by
  rw [State.membersOf_eq, State.withoutSecrets_confs, ← State.membersOf_eq]

@[simp] theorem State.withoutSecrets_localConf (s : State) (h : Handle) : s.withoutSecrets.localConf h = s.localConf h := by
  unfold State.localConf
  simp only [State.withoutSecrets_membersOf]

@[simp] theorem State.withoutSecrets_freePlaces (s : State) : s.withoutSecrets.freePlaces = s.freePlaces := by
  unfold State.freePlaces
  simp only [State.withoutSecrets_membersOf]

@[simp] theorem State.withoutSecrets_noPlace (s : State) (k : Conf) : s.withoutSecrets.noPlace k = s.noPlace k := by
  unfold State.noPlace
  rw [State.withoutSecrets_freePlaces]

@[simp] theorem State.withoutSecrets_chairedConfs (s : State) (h : Handle) :
    s.withoutSecrets.chairedConfs h = s.chairedConfs h := by
  unfold State.chairedConfs
  rw [State.withoutSecrets_confs]

theorem State.withoutSecrets_openLegsOf (s : State) (h : Handle) : s.withoutSecrets.openLegsOf h = s.openLegsOf h :=
  congrArg placesWhere (funext fun n => s.withoutSecrets_any_leg n fun _ => rfl)

theorem State.withoutSecrets_engagedConfs (s : State) (h : Handle) : s.withoutSecrets.engagedConfs h = s.engagedConfs h := by
  unfold State.engagedConfs
  refine congrArg placesWhere (funext fun c => ?_)
  rw [State.withoutSecrets_membersOf]
  refine congrArg (fun p => (s.membersOf c).any p) (funext fun m => ?_)
  cases m with
  | leg n => exact s.withoutSecrets_any_leg n fun _ => rfl
  | loc y => rfl

theorem State.withoutSecrets_scopeSet (s : State) (h : Handle) (scope : FaultScope) :
    s.withoutSecrets.scopeSet h scope = s.scopeSet h scope := by
  cases scope with
  | leg => simp only [State.scopeSet]
  | call => simp only [State.scopeSet]
  | group =>
    have hgroup (g : Fin 16) : ((s.withoutSecrets.record h).any fun rx => g == rx.group) = (s.record h).any fun rx => g == rx.group :=
      s.withoutSecrets_any_record h fun _ => rfl
    unfold State.scopeSet
    refine congrArg placesWhere (funext fun y => ?_)
    simp only [hgroup]
    exact s.withoutSecrets_any_record y fun _ => rfl

/-! ### Operations on the state -/

@[simp] theorem State.withoutSecrets_setLeg (s : State) (n : LegNo) (x : Option Leg) :
    (s.setLeg n x).withoutSecrets = s.withoutSecrets.setLeg n (x.map Leg.withoutSecrets) := by
  rw [State.withoutSecrets_eq, State.withoutSecrets_eq s]
  simp only [State.setLeg, Vector.map_set]

@[simp] theorem State.withoutSecrets_setRecord (s : State) (h : Handle) (x : Option ExtRecord) :
    (s.setRecord h x).withoutSecrets = s.withoutSecrets.setRecord h (x.map ExtRecord.withoutSecrets) := by
  rw [State.withoutSecrets_eq, State.withoutSecrets_eq s]
  simp only [State.setRecord, Vector.map_set]

theorem State.withoutSecrets_updateLeg (s : State) (n : LegNo) {f : Leg → Leg}
    (hf : ∀ l : Leg, f l.withoutSecrets = (f l).withoutSecrets) :
    s.withoutSecrets.updateLeg n f = (s.updateLeg n f).withoutSecrets := by
  have hleg : (s.withoutSecrets.legs[n]).map f = ((s.legs[n]).map f).map Leg.withoutSecrets := by
    rw [State.withoutSecrets_legs, Option.map_map, Option.map_map]
    exact congrArg (fun g => (s.legs[n]).map g) (funext hf)
  have hset := s.withoutSecrets_setLeg n ((s.legs[n]).map f)
  rw [← hleg] at hset
  exact hset.symm

theorem State.withoutSecrets_updateRecord (s : State) (h : Handle) {f : ExtRecord → ExtRecord}
    (hf : ∀ r : ExtRecord, f r.withoutSecrets = (f r).withoutSecrets) :
    s.withoutSecrets.updateRecord h f = (s.updateRecord h f).withoutSecrets := by
  have hrecord : (s.withoutSecrets.record h).map f = ((s.record h).map f).map ExtRecord.withoutSecrets := by
    rw [State.withoutSecrets_record, Option.map_map, Option.map_map]
    exact congrArg (fun g => (s.record h).map g) (funext hf)
  have hset := s.withoutSecrets_setRecord h ((s.record h).map f)
  rw [← hrecord] at hset
  exact hset.symm

theorem State.withoutSecrets_setAdmission (s : State) (h : Handle) (a : Admission) :
    s.withoutSecrets.setAdmission h a = (s.setAdmission h a).withoutSecrets :=
  s.withoutSecrets_updateRecord h fun _ => rfl

/-- Every record changed, before its credential is put out of sight or after. -/
theorem ofFn_map_withoutSecrets (v : Vector (Option ExtRecord) 256) {f : ExtRecord → ExtRecord}
    (hf : ∀ r : ExtRecord, f r.withoutSecrets = (f r).withoutSecrets) :
    (Vector.ofFn fun h : Handle => (v[h]).map f).map (Option.map ExtRecord.withoutSecrets) =
      Vector.ofFn fun h : Handle => ((v.map (Option.map ExtRecord.withoutSecrets))[h]).map f := by
  ext i hi
  simp [Function.comp_def, hf]

theorem State.withoutSecrets_mapRecords (s : State) {f : ExtRecord → ExtRecord}
    (hf : ∀ r : ExtRecord, f r.withoutSecrets = (f r).withoutSecrets) :
    State.withoutSecrets { s with ext := s.ext.mapRecords f } =
      { s.withoutSecrets with ext := s.withoutSecrets.ext.mapRecords f } := by
  rw [State.withoutSecrets_eq, State.withoutSecrets_eq s]
  unfold ExtTable.mapRecords
  simp only [ofFn_map_withoutSecrets s.ext.records hf]

/-- A leg replaced with the line port, the conferences and the Trunk Cell Queue. -/
theorem State.withoutSecrets_withLeg (s : State) (n : LegNo) (x : Option Leg) (p : LinePort) (k : Vector (Option Conf) 8)
    (q : List CellRequest) :
    State.withoutSecrets { s with line := p, confs := k, cellQueue := q, legs := s.legs.set n x } =
      { s.withoutSecrets with
        line := p, confs := k, cellQueue := q, legs := s.withoutSecrets.legs.set n (x.map Leg.withoutSecrets) } := by
  rw [State.withoutSecrets_eq, State.withoutSecrets_eq s]
  simp only [Vector.map_set]

theorem State.withoutSecrets_parkEndpoint (s : State) (other : Option LegNo) :
    s.withoutSecrets.parkEndpoint other = (s.parkEndpoint other).withoutSecrets := by
  cases other with
  | none => rfl
  | some n => exact s.withoutSecrets_updateLeg n fun _ => rfl

/-- R62: clearing a leg shows the same whatever its keys are. -/
theorem State.withoutSecrets_clearLeg (s : State) (n : LegNo) (cause : CloseCause) (slot : Option Slot) :
    s.withoutSecrets.clearLeg n cause slot = (s.clearLeg n cause slot).withoutSecrets := by
  cases hl : s.legs[n] with
  | none =>
    have hn : s.withoutSecrets.legs[n] = none := by rw [State.withoutSecrets_legs, hl]; rfl
    rw [State.clearLeg_none cause slot hl, State.clearLeg_none cause slot hn]
  | some l =>
    have hn : s.withoutSecrets.legs[n] = some l.withoutSecrets := by rw [State.withoutSecrets_legs, hl]; rfl
    unfold State.clearLeg
    rw [hn, hl]
    dsimp only
    rw [State.withoutSecrets_withLeg]
    cases he : l.endpoint <;> simp only [Leg.withoutSecrets, Leg.cleared, he, Option.map_none, Option.map_some,
      State.withoutSecrets_line, State.withoutSecrets_confs, State.withoutSecrets_cellQueue]

end Sys2Proof.Machine
end

section
/-! PROOFS. No request asks for a secret: with the secrets out of sight it answers alike, and what it leaves behind is
alike but for secrets (R69, R104, R109). -/

namespace Sys2Proof.Machine

variable {s t u : State} {n : LegNo} {l : Leg} {c : ConfNo} {h x e : Handle} {r : ExtRecord} {st : Status} {b : List Byte}

/-! ### The longer paths -/

/-- A list of members, conferences or extensions gone through one after another. -/
theorem State.withoutSecrets_foldl {α : Type} {f : State → α → State}
    (hf : ∀ s a, f s.withoutSecrets a = (f s a).withoutSecrets) (list : List α) (s : State) :
    list.foldl f s.withoutSecrets = (list.foldl f s).withoutSecrets :=
  List.foldl_hom State.withoutSecrets fun s a => hf s a

theorem State.withoutSecrets_withLine (s : State) (p : LinePort) :
    { s.withoutSecrets with line := p } = State.withoutSecrets { s with line := p } := by
  rw [State.withoutSecrets_eq, State.withoutSecrets_eq]

theorem State.withoutSecrets_withHold (s : State) (x : Hold) :
    { s.withoutSecrets with hold := x } = State.withoutSecrets { s with hold := x } := by
  rw [State.withoutSecrets_eq, State.withoutSecrets_eq]

theorem State.withoutSecrets_setConf (s : State) (c : ConfNo) (k : Option Conf) :
    s.withoutSecrets.setConf c k = (s.setConf c k).withoutSecrets := by
  rw [State.withoutSecrets_eq, State.withoutSecrets_eq]
  simp only [State.setConf]

theorem State.withoutSecrets_notify (s : State) (kind : NoticeKind) (subject : Nat) (detail : Half) :
    s.withoutSecrets.notify kind subject detail = (s.notify kind subject detail).withoutSecrets := by
  rw [State.withoutSecrets_eq, State.withoutSecrets_eq]
  simp only [State.notify]

theorem State.withoutSecrets_dismiss (c : ConfNo) (s : State) (m : Member) :
    s.withoutSecrets.dismiss c m = (s.dismiss c m).withoutSecrets := by
  cases m with
  | leg n => exact s.withoutSecrets_updateLeg n fun _ => rfl
  | loc h =>
    unfold State.dismiss
    dsimp only
    rw [State.withoutSecrets_line, State.withoutSecrets_boundSlot, State.withoutSecrets_withLine]

/-- R148: the closing path of a conference. -/
theorem State.withoutSecrets_closeConf (s : State) (c : ConfNo) (cause : ConfCause) :
    s.withoutSecrets.closeConf c cause = (s.closeConf c cause).withoutSecrets := by
  cases hk : s.confs[c] with
  | none => rw [State.closeConf_none cause hk, State.closeConf_none cause (by rw [State.withoutSecrets_confs, hk])]
  | some k =>
    rw [State.closeConf_some cause hk, State.closeConf_some cause (by rw [State.withoutSecrets_confs, hk]),
      State.withoutSecrets_foldl (State.withoutSecrets_dismiss c), State.withoutSecrets_setConf, State.withoutSecrets_notify]

theorem State.withoutSecrets_removeLocal (s : State) (c : ConfNo) (e : Handle) (slot : Option Slot) :
    s.withoutSecrets.removeLocal c e slot = (s.removeLocal c e slot).withoutSecrets := by
  rw [State.withoutSecrets_eq, State.withoutSecrets_eq]
  simp only [State.removeLocal]

theorem State.withoutSecrets_faultLegs (s : State) (e : Handle) (slot : Option Slot) :
    s.withoutSecrets.faultLegs e slot = (s.faultLegs e slot).withoutSecrets := by
  unfold State.faultLegs
  rw [State.withoutSecrets_openLegsOf]
  refine State.withoutSecrets_foldl (f := fun s n => s.clearLeg n .fault slot) (fun s n => ?_) _ s
  exact s.withoutSecrets_clearLeg n .fault slot

/-- R138, R139: step 3 of the fault action for one extension. -/
theorem State.withoutSecrets_faultExtension (x : Handle) (former : Slot) (s : State) (e : Handle) :
    State.faultExtension x former s.withoutSecrets e = (State.faultExtension x former s e).withoutSecrets := by
  unfold State.faultExtension
  dsimp only
  rw [State.withoutSecrets_boundSlot, State.withoutSecrets_faultLegs, State.withoutSecrets_localConf]
  generalize s.faultLegs e _ = t
  cases t.localConf e with
  | none => dsimp only
  | some c => exact t.withoutSecrets_removeLocal c e _

/-- R136: the fault action. -/
theorem State.withoutSecrets_faultAction (s : State) (x : Handle) (cause : LossCause) (scope : FaultScope) (former : Slot) :
    s.withoutSecrets.faultAction x cause scope former = (s.faultAction x cause scope former).withoutSecrets := by
  unfold State.faultAction
  dsimp only
  rw [State.withoutSecrets_notify, State.withoutSecrets_engagedConfs, State.withoutSecrets_chairedConfs,
    State.withoutSecrets_scopeSet, State.withoutSecrets_foldl (State.withoutSecrets_faultExtension x former)]
  split
  · rw [State.withoutSecrets_foldl fun s c => s.withoutSecrets_closeConf c .fault,
      State.withoutSecrets_foldl fun s c => s.withoutSecrets_closeConf c .chair]
  · rw [State.withoutSecrets_foldl fun s c => s.withoutSecrets_closeConf c .chair]

/-! ### Alike answers -/

/-- R69, R104, R109: the same answer, and states alike but for secrets. -/
def Alike (o o' : State × Answer) : Prop := o.1.withoutSecrets = o'.1.withoutSecrets ∧ o.2 = o'.2

theorem alike_refuse (st : Status) (s : State) : Alike (refuse st s.withoutSecrets) (refuse st s) :=
  by
  unfold Alike refuse
  exact ⟨by dsimp only; rw [State.withoutSecrets_twice], by dsimp only⟩

/-- The state left behind is the other's with the secrets out of sight. -/
theorem alike_okay (h : u = t.withoutSecrets) : Alike (okay b u) (okay b t) := by
  unfold Alike okay
  exact ⟨by dsimp only; rw [h, State.withoutSecrets_twice], by dsimp only⟩

theorem alike_withArgs {α : Type} {args : Option α} {f : α → State → State × Answer}
    (hf : ∀ a, Alike (f a s.withoutSecrets) (f a s)) : Alike (withArgs args f s.withoutSecrets) (withArgs args f s) := by
  cases args with
  | none => exact alike_refuse _ s
  | some a => exact hf a

theorem alike_withRecord {args : Option ExtRef} {f : Handle → ExtRecord → State → State × Answer}
    (hf : ∀ h r, s.record h = some r → Alike (f h r.withoutSecrets s.withoutSecrets) (f h r s)) :
    Alike (withRecord args f s.withoutSecrets) (withRecord args f s) := by
  unfold withRecord
  cases args with
  | none => exact alike_refuse _ s
  | some ref =>
    dsimp only
    rw [State.withoutSecrets_lookup]
    cases s.lookup ref with
    | none => exact alike_refuse _ s
    | some h =>
      dsimp only
      rw [State.withoutSecrets_record]
      cases hr : s.record h with
      | none => exact alike_refuse _ s
      | some r => exact hf h r hr

theorem alike_stageOr {change : HeldChange} {named : State → Bool} {f : State → State × Answer}
    (hn : named s.withoutSecrets = named s) (hf : Alike (f s.withoutSecrets) (f s)) :
    Alike (stageOr change named f s.withoutSecrets) (stageOr change named f s) := by
  cases hhold : s.hold with
  | closed =>
    have hs : s.withoutSecrets.hold = .closed := by rw [State.withoutSecrets_hold, hhold]
    rw [stageOr_closed hhold, stageOr_closed hs]
    exact hf
  | opened entries mark =>
    have hs : s.withoutSecrets.hold = .opened entries mark := by rw [State.withoutSecrets_hold, hhold]
    rw [stageOr_opened hhold, stageOr_opened hs, hn]
    split
    · exact alike_refuse _ s
    · split
      · refine ⟨?_, by dsimp only⟩
        dsimp only
        rw [State.withoutSecrets_withHold, State.withoutSecrets_twice]
      · exact alike_refuse _ s

end Sys2Proof.Machine
end

section
/-! PROOFS. Each request of the legs and the extensions answers alike with the secrets out of sight (R69, R104, R109). -/

namespace Sys2Proof.Machine

variable {s t u : State} {n : LegNo} {l k : Leg} {c : ConfNo} {h x e : Handle} {r : ExtRecord} {st : Status} {b : List Byte}

theorem alike_okay_of (h : u.withoutSecrets = t.withoutSecrets) : Alike (okay b u) (okay b t) := by
  unfold Alike okay
  exact ⟨h, by dsimp only⟩

theorem alike_flag {o o' : State × Bool} (h : o.1.withoutSecrets = o'.1.withoutSecrets ∧ o.2 = o'.2) :
    Alike (okay [bitByte o.2] o.1) (okay [bitByte o'.2] o'.1) := by
  rw [h.2]
  exact alike_okay_of h.1

theorem State.withoutSecrets_leg (hl : s.legs[n] = some l) : s.withoutSecrets.legs[n] = some l.withoutSecrets := by
  rw [State.withoutSecrets_legs, hl, Option.map_some]

theorem State.withoutSecrets_free (hl : s.legs[n] = none) : s.withoutSecrets.legs[n] = none := by
  rw [State.withoutSecrets_legs, hl, Option.map_none]

theorem Leg.withoutSecrets_state (l : Leg) : l.withoutSecrets.state = l.state := rfl

theorem Leg.withoutSecrets_owner (l : Leg) : l.withoutSecrets.owner = l.owner := rfl

theorem Leg.withoutSecrets_endpoint (l : Leg) : l.withoutSecrets.endpoint = l.endpoint := rfl

/-- A leg of the other part put in the place of its own, alike but for secrets. -/
theorem State.withoutSecrets_setLeg_alike (s : State) (n : LegNo) (hk : k.withoutSecrets = l.withoutSecrets) :
    (s.withoutSecrets.setLeg n (some k)).withoutSecrets = (s.setLeg n (some l)).withoutSecrets := by
  rw [State.withoutSecrets_setLeg, State.withoutSecrets_setLeg, State.withoutSecrets_twice, Option.map_some,
    Option.map_some, hk]

theorem State.withoutSecrets_line_alike {p : LinePort} (h : u.withoutSecrets = t.withoutSecrets) :
    State.withoutSecrets { u with line := p } = State.withoutSecrets { t with line := p } := by
  have hp : { u.withoutSecrets with line := p } = { t.withoutSecrets with line := p } := by rw [h]
  rwa [State.withoutSecrets_withLine, State.withoutSecrets_withLine] at hp

/-! ### The requests of chapters 4 and 6 -/

theorem State.withoutSecrets_checkLegOpen (s : State) (a : LegOpenArgs) :
    s.withoutSecrets.checkLegOpen a = s.checkLegOpen a := by
  unfold State.checkLegOpen
  simp only [State.withoutSecrets_isSome_leg, State.withoutSecrets_slotOrTagInUse, State.withoutSecrets_findNumber,
    State.withoutSecrets_admittedWith]

/-- A leg connected to a slot: the leg on the line is parked, and the map entry passes. -/
theorem State.withoutSecrets_connect (s : State) (n : LegNo) (other : Option LegNo) (slot : Option Slot)
    (hk : k.withoutSecrets = l.withoutSecrets) :
    let v := (s.withoutSecrets.parkEndpoint other).setLeg n (some k)
    let w := (s.parkEndpoint other).setLeg n (some l)
    State.withoutSecrets { v with line := v.line.setSource slot (.leg n) } =
      State.withoutSecrets { w with line := w.line.setSource slot (.leg n) } := by
  intro v w
  have hvw : v.withoutSecrets = w.withoutSecrets := by
    have hpark := s.withoutSecrets_parkEndpoint other
    unfold v w
    rw [hpark, State.withoutSecrets_setLeg_alike _ n hk]
  have hline : v.line = w.line := by
    rw [← State.withoutSecrets_line v, hvw, State.withoutSecrets_line]
  rw [hline]
  exact State.withoutSecrets_line_alike hvw

theorem alike_openLeg (a : LegOpenArgs) (s : State) : Alike (openLeg a s.withoutSecrets) (openLeg a s) := by
  unfold openLeg
  rw [State.withoutSecrets_checkLegOpen]
  cases s.checkLegOpen a with
  | error e => exact alike_refuse e s
  | ok h =>
    dsimp only
    rw [State.withoutSecrets_localConf, State.withoutSecrets_lineLegOf, State.withoutSecrets_boundSlot]
    split
    · exact alike_okay_of (s.withoutSecrets_connect a.leg _ _ rfl)
    · exact alike_okay_of (s.withoutSecrets_setLeg_alike a.leg rfl)

theorem alike_closeLeg (n : LegNo) (s : State) : Alike (closeLeg n s.withoutSecrets) (closeLeg n s) := by
  unfold closeLeg
  cases hl : s.legs[n] with
  | none =>
    rw [State.withoutSecrets_free hl]
    exact alike_refuse _ s
  | some l =>
    rw [State.withoutSecrets_leg hl]
    dsimp only
    rw [Leg.withoutSecrets_state, Leg.withoutSecrets_owner, State.withoutSecrets_boundSlot]
    split
    · exact alike_okay (s.withoutSecrets_clearLeg n _ _)
    · exact alike_okay rfl

theorem alike_connectLeg (n : LegNo) (s : State) : Alike (connectLeg n s.withoutSecrets) (connectLeg n s) := by
  unfold connectLeg
  cases hl : s.legs[n] with
  | none =>
    rw [State.withoutSecrets_free hl]
    exact alike_refuse _ s
  | some l =>
    rw [State.withoutSecrets_leg hl]
    dsimp only
    rw [Leg.withoutSecrets_state, Leg.withoutSecrets_owner, Leg.withoutSecrets_endpoint, State.withoutSecrets_boundSlot,
      State.withoutSecrets_localConf, State.withoutSecrets_lineLegOf]
    split
    · exact alike_refuse _ s
    · cases l.endpoint with
      | conference c => exact alike_refuse _ s
      | line =>
        dsimp only
        split
        · exact alike_refuse _ s
        · exact alike_okay rfl
      | parked =>
        dsimp only
        split
        · exact alike_refuse _ s
        · refine alike_okay_of (s.withoutSecrets_connect n _ _ ?_)
          exact (congrArg (fun l => { l with endpoint := Endpoint.line }) l.withoutSecrets_twice :)

theorem alike_parkLeg (n : LegNo) (s : State) : Alike (parkLeg n s.withoutSecrets) (parkLeg n s) := by
  unfold parkLeg
  cases hl : s.legs[n] with
  | none =>
    rw [State.withoutSecrets_free hl]
    exact alike_refuse _ s
  | some l =>
    rw [State.withoutSecrets_leg hl]
    dsimp only
    rw [Leg.withoutSecrets_state, Leg.withoutSecrets_owner, Leg.withoutSecrets_endpoint, State.withoutSecrets_boundSlot,
      State.withoutSecrets_line]
    split
    · exact alike_refuse _ s
    · cases l.endpoint with
      | conference c => exact alike_refuse _ s
      | parked => exact alike_okay rfl
      | line =>
        refine alike_okay (Eq.trans ?_ (s.withoutSecrets_withLeg n _ _ s.confs s.cellQueue).symm)
        rw [Option.map_some]
        simp only [State.withoutSecrets_confs, State.withoutSecrets_cellQueue]
        rfl

theorem alike_levelLeg (n : LegNo) (gain : Int) (s : State) : Alike (levelLeg n gain s.withoutSecrets) (levelLeg n gain s) := by
  unfold levelLeg
  cases hl : s.legs[n] with
  | none =>
    rw [State.withoutSecrets_free hl]
    exact alike_refuse _ s
  | some l =>
    rw [State.withoutSecrets_leg hl]
    dsimp only
    rw [Leg.withoutSecrets_state]
    split
    · refine alike_okay (Eq.trans ?_ (s.withoutSecrets_setLeg n _).symm)
      rw [Option.map_some]
      rfl
    · exact alike_refuse _ s

theorem State.withoutSecrets_askRoll (s : State) (n : LegNo) (hk : k.withoutSecrets = l.withoutSecrets) :
    (s.withoutSecrets.askRoll n k).1.withoutSecrets = (s.askRoll n l).1.withoutSecrets ∧
    (s.withoutSecrets.askRoll n k).2 = (s.askRoll n l).2 := by
  have hwants : k.wantsRoll = l.wantsRoll := (congrArg Leg.wantsRoll hk :)
  unfold State.askRoll
  rw [State.withoutSecrets_cellQueue, hwants]
  split
  · exact ⟨s.withoutSecrets_setLeg_alike n hk, by dsimp only⟩
  · split
    · exact ⟨s.withoutSecrets_setLeg_alike n hk, by dsimp only⟩
    · split
      · refine ⟨?_, by dsimp only⟩
        have hs := s.withoutSecrets_withLeg n (some l) s.line s.confs (s.cellQueue ++ [{ kind := .roll, leg := n }])
        have hu := s.withoutSecrets.withoutSecrets_withLeg n (some k) s.withoutSecrets.line s.withoutSecrets.confs
          (s.cellQueue ++ [{ kind := .roll, leg := n }])
        refine hu.trans (Eq.trans ?_ hs.symm)
        rw [State.withoutSecrets_twice, Option.map_some, Option.map_some, hk, State.withoutSecrets_line,
          State.withoutSecrets_confs]
      · refine ⟨s.withoutSecrets_setLeg_alike n ?_, by dsimp only⟩
        exact (congrArg (fun l : Leg => { l with wantsRoll := true }) hk :)

theorem alike_rekeyLeg (a : LegNo × KeySetting) (s : State) : Alike (rekeyLeg a s.withoutSecrets) (rekeyLeg a s) := by
  unfold rekeyLeg
  cases hl : s.legs[a.1] with
  | none =>
    rw [State.withoutSecrets_free hl]
    exact alike_refuse _ s
  | some l =>
    rw [State.withoutSecrets_leg hl]
    dsimp only
    have hgen : l.withoutSecrets.txKey.gen = l.txKey.gen := rfl
    have hawaits : l.withoutSecrets.awaits a.2.gen = l.awaits a.2.gen := rfl
    have hpending : l.withoutSecrets.pendingKey.isSome = l.pendingKey.isSome := Option.isSome_map
    rw [Leg.withoutSecrets_state, hgen, hawaits, hpending]
    split
    · exact alike_refuse _ s
    · split
      · exact alike_refuse _ s
      · split
        · exact alike_flag (s.withoutSecrets_askRoll a.1 (l := { l with pendingKey := some a.2, switchEpoch := none }) rfl)
        · split
          · exact alike_refuse _ s
          · exact alike_flag (s.withoutSecrets_askRoll a.1 (l := { l with pendingKey := some a.2 }) rfl)

theorem Leg.withoutSecrets_report (l : Leg) : l.withoutSecrets.report = l.report := by
  unfold Leg.report Leg.withoutSecrets
  cases l.pendingKey <;> rfl

theorem alike_readLeg (a : LegNo × Bool) (s : State) : Alike (readLeg a s.withoutSecrets) (readLeg a s) := by
  unfold readLeg
  cases hl : s.legs[a.1] with
  | none =>
    rw [State.withoutSecrets_free hl]
    exact alike_okay rfl
  | some l =>
    rw [State.withoutSecrets_leg hl]
    dsimp only
    rw [Leg.withoutSecrets_report]
    split
    · refine alike_okay (Eq.trans ?_ (s.withoutSecrets_setLeg a.1 _).symm)
      rw [Option.map_some]
      rfl
    · exact alike_okay rfl

/-! ### The requests of chapter 7 -/

theorem alike_loadExt (a : ExtLoadArgs) (s : State) : Alike (loadExt a s.withoutSecrets) (loadExt a s) := by
  unfold loadExt
  rw [State.withoutSecrets_findNumber, State.withoutSecrets_lowestFree]
  split
  · split
    · exact alike_refuse _ s
    · refine alike_okay_of ?_
      rw [State.withoutSecrets_setRecord, State.withoutSecrets_setRecord, State.withoutSecrets_twice]
  next h _ =>
    rw [State.withoutSecrets_boundSlot]
    split
    · exact alike_refuse _ s
    · have hupdate (u : State) {f : ExtRecord → ExtRecord} : u.updateRecord h f = u.setRecord h ((u.record h).map f) := rfl
      refine alike_okay_of ?_
      rw [hupdate, hupdate, State.withoutSecrets_setRecord, State.withoutSecrets_setRecord, State.withoutSecrets_twice,
        State.withoutSecrets_record, Option.map_map, Option.map_map, Option.map_map]
      rfl

theorem alike_removeExt (h : Handle) (r : ExtRecord) (s : State) :
    Alike (removeExt h r.withoutSecrets s.withoutSecrets) (removeExt h r s) := by
  have hstate : r.withoutSecrets.state = r.state := rfl
  unfold removeExt
  rw [State.withoutSecrets_chairedConfs, hstate]
  split
  · exact alike_refuse _ s
  · refine alike_okay (Eq.trans ?_ (s.withoutSecrets_setRecord h none).symm)
    rw [Option.map_none]

theorem alike_readExt (h : Handle) (r : ExtRecord) (s : State) :
    Alike (readExt h r.withoutSecrets s.withoutSecrets) (readExt h r s) := by
  have hreport (count limit : Nat) : r.withoutSecrets.report h count limit = r.report h count limit := rfl
  unfold readExt
  rw [State.withoutSecrets_recordCount, State.withoutSecrets_params, hreport]
  exact alike_okay rfl

theorem alike_suspendExt (h : Handle) (r : ExtRecord) (s : State) :
    Alike (suspendExt h r.withoutSecrets s.withoutSecrets) (suspendExt h r s) := by
  have hstate : r.withoutSecrets.state = r.state := rfl
  have hscope : r.withoutSecrets.scope = r.scope := rfl
  unfold suspendExt
  dsimp only
  rw [hstate, hscope, State.withoutSecrets_setAdmission, State.withoutSecrets_params]
  refine alike_okay ?_
  cases r.state with
  | idle => rfl
  | challenged slot nonce timer => rfl
  | suspended => rfl
  | admitted slot timer => exact State.withoutSecrets_faultAction _ h .suspended r.scope slot
  | refreshing slot nonce timer => exact State.withoutSecrets_faultAction _ h .suspended r.scope slot
  | barred timer => exact s.withoutSecrets_updateRecord h fun _ => rfl

theorem alike_resumeExt (h : Handle) (r : ExtRecord) (s : State) :
    Alike (resumeExt h r.withoutSecrets s.withoutSecrets) (resumeExt h r s) := by
  have hstate : r.withoutSecrets.state = r.state := rfl
  unfold resumeExt
  rw [hstate]
  cases r.state with
  | suspended => exact alike_okay (s.withoutSecrets_setAdmission h .idle)
  | idle => exact alike_refuse _ s
  | challenged slot nonce timer => exact alike_refuse _ s
  | admitted slot timer => exact alike_refuse _ s
  | refreshing slot nonce timer => exact alike_refuse _ s
  | barred timer => exact alike_refuse _ s

theorem alike_unbarExt (h : Handle) (r : ExtRecord) (s : State) :
    Alike (unbarExt h r.withoutSecrets s.withoutSecrets) (unbarExt h r s) := by
  have hstate : r.withoutSecrets.state = r.state := rfl
  unfold unbarExt
  rw [hstate]
  cases r.state with
  | barred timer => exact alike_okay (s.withoutSecrets_updateRecord h fun _ => rfl)
  | idle => exact alike_refuse _ s
  | challenged slot nonce timer => exact alike_refuse _ s
  | admitted slot timer => exact alike_refuse _ s
  | refreshing slot nonce timer => exact alike_refuse _ s
  | suspended => exact alike_refuse _ s

theorem alike_revokeExt (h : Handle) (r : ExtRecord) (s : State) :
    Alike (revokeExt h r.withoutSecrets s.withoutSecrets) (revokeExt h r s) := by
  have hstate : r.withoutSecrets.state = r.state := rfl
  have hscope : r.withoutSecrets.scope = r.scope := rfl
  unfold revokeExt
  dsimp only
  rw [hstate, hscope, State.withoutSecrets_setAdmission]
  cases r.state with
  | admitted slot timer => exact alike_okay (State.withoutSecrets_faultAction _ h .revoked r.scope slot)
  | refreshing slot nonce timer => exact alike_okay (State.withoutSecrets_faultAction _ h .revoked r.scope slot)
  | challenged slot nonce timer => exact alike_okay rfl
  | idle => exact alike_refuse _ s
  | barred timer => exact alike_refuse _ s
  | suspended => exact alike_refuse _ s

end Sys2Proof.Machine
end

section
/-! PROOFS. The requests of chapters 5 and 10 to 12 with the secrets out of sight, and all requests together (R69, R104,
R109). -/

namespace Sys2Proof.Machine

variable {s t u : State} {n : LegNo} {l k : Leg} {c : ConfNo} {h x e : Handle} {r : ExtRecord} {st : Status} {b : List Byte}

/-! ### TRUNK_READ and SLOT_MAP -/

theorem alike_readTrunk (clear : Bool) (s : State) : Alike (readTrunk clear s.withoutSecrets) (readTrunk clear s) := by
  have hreport : s.withoutSecrets.trunkReport = s.trunkReport := by
    unfold State.trunkReport
    simp only [State.withoutSecrets_framer, State.withoutSecrets_params, State.withoutSecrets_cellQueue,
      State.withoutSecrets_trunk]
  unfold readTrunk
  rw [hreport, State.withoutSecrets_trunk, State.withoutSecrets_framer]
  refine alike_okay ?_
  rw [State.withoutSecrets_eq, State.withoutSecrets_eq]

theorem alike_mapSlots (a : Bool × List (Slot × Bool)) (s : State) : Alike (mapSlots a s.withoutSecrets) (mapSlots a s) := by
  have hreport : (s.withoutSecrets.ext.applyChanges a.2).report = (s.ext.applyChanges a.2).report := by
    rw [State.withoutSecrets_eq]
    rfl
  unfold mapSlots
  dsimp only
  rw [hreport]
  refine alike_okay ?_
  rw [State.withoutSecrets_eq, State.withoutSecrets_eq]
  unfold ExtTable.applyChanges
  split <;> dsimp only

/-! ### Conferences -/

theorem alike_openConf (a : ConfNo × Option ExtRef) (s : State) : Alike (openConf a s.withoutSecrets) (openConf a s) := by
  unfold openConf
  rw [State.withoutSecrets_confs]
  split
  · exact alike_refuse _ s
  · cases a.2 with
    | none => exact alike_okay (s.withoutSecrets_setConf _ _)
    | some ref =>
      dsimp only
      rw [State.withoutSecrets_lookup]
      cases s.lookup ref with
      | none => exact alike_refuse _ s
      | some h =>
        dsimp only
        rw [State.withoutSecrets_admittedWith, State.withoutSecrets_admittedWith]
        split
        · exact alike_refuse _ s
        · split
          · exact alike_refuse _ s
          · exact alike_okay (s.withoutSecrets_setConf _ _)

theorem alike_hostCloseConf (c : ConfNo) (s : State) : Alike (hostCloseConf c s.withoutSecrets) (hostCloseConf c s) := by
  unfold hostCloseConf
  rw [State.withoutSecrets_confs]
  split
  · exact alike_okay (s.withoutSecrets_closeConf c .host)
  · exact alike_refuse _ s

theorem alike_readConf (a : ConfNo × Bool) (s : State) : Alike (readConf a s.withoutSecrets) (readConf a s) := by
  unfold readConf
  rw [State.withoutSecrets_confs, State.withoutSecrets_freePlaces]
  cases s.confs[a.1] with
  | none => exact alike_okay rfl
  | some k =>
    dsimp only
    split
    · exact alike_okay (s.withoutSecrets_setConf _ _)
    · exact alike_okay rfl

theorem alike_joinLeg (c : ConfNo) (k : Conf) (n : LegNo) (s : State) :
    Alike (joinLeg c k n s.withoutSecrets) (joinLeg c k n s) := by
  unfold joinLeg
  cases hl : s.legs[n] with
  | none =>
    rw [State.withoutSecrets_free hl]
    exact alike_refuse _ s
  | some l =>
    rw [State.withoutSecrets_leg hl]
    dsimp only
    rw [Leg.withoutSecrets_state, Leg.withoutSecrets_owner, Leg.withoutSecrets_endpoint, State.withoutSecrets_boundSlot,
      State.withoutSecrets_line, State.withoutSecrets_noPlace, State.withoutSecrets_confs,
      s.withoutSecrets_any_record l.owner fun _ => rfl]
    have hjoined (p : LinePort) := s.withoutSecrets_withLeg n (some { l with endpoint := .conference c }) p
      (s.confs.set c (some (k.append (.leg n)))) s.cellQueue
    split
    · exact alike_refuse _ s
    · cases l.endpoint with
      | conference d => exact alike_refuse _ s
      | parked =>
        dsimp only
        split
        · exact alike_refuse _ s
        · split
          · exact alike_refuse _ s
          · refine alike_okay (Eq.trans ?_ (hjoined _).symm)
            rw [Option.map_some, State.withoutSecrets_cellQueue]
            rfl
      | line =>
        dsimp only
        split
        · exact alike_refuse _ s
        · split
          · exact alike_refuse _ s
          · refine alike_okay (Eq.trans ?_ (hjoined _).symm)
            rw [Option.map_some, State.withoutSecrets_cellQueue]
            rfl

theorem alike_joinLocal (c : ConfNo) (k : Conf) (h : Handle) (s : State) :
    Alike (joinLocal c k h s.withoutSecrets) (joinLocal c k h s) := by
  unfold joinLocal
  dsimp only
  rw [State.withoutSecrets_admittedWith, State.withoutSecrets_admittedWith, State.withoutSecrets_localConf,
    State.withoutSecrets_noPlace, State.withoutSecrets_lineLegOf, State.withoutSecrets_boundSlot,
    State.withoutSecrets_parkEndpoint, State.withoutSecrets_setConf, State.withoutSecrets_line]
  split
  · exact alike_refuse _ s
  · split
    · exact alike_refuse _ s
    · split
      · exact alike_refuse _ s
      · split
        · exact alike_refuse _ s
        · exact alike_okay (State.withoutSecrets_withLine _ _)

theorem alike_joinConf (c : ConfNo) (m : MemberRef) (s : State) : Alike (joinConf c m s.withoutSecrets) (joinConf c m s) := by
  unfold joinConf
  rw [State.withoutSecrets_confs]
  cases s.confs[c] with
  | none => exact alike_refuse _ s
  | some k =>
    cases m with
    | leg n => exact alike_joinLeg c k n s
    | loc ref =>
      dsimp only
      rw [State.withoutSecrets_lookup]
      cases s.lookup ref with
      | none => exact alike_refuse _ s
      | some h => exact alike_joinLocal c k h s

theorem alike_leaveMember (c : ConfNo) (k : Conf) (m : Member) (s : State) :
    Alike (leaveMember c k m s.withoutSecrets) (leaveMember c k m s) := by
  unfold leaveMember
  dsimp only
  rw [State.withoutSecrets_setConf]
  split
  · cases m with
    | leg n => exact alike_okay (State.withoutSecrets_updateLeg _ n fun _ => rfl)
    | loc h =>
      dsimp only
      rw [State.withoutSecrets_boundSlot, State.withoutSecrets_line]
      exact alike_okay (State.withoutSecrets_withLine _ _)
  · exact alike_refuse _ s

theorem alike_leaveConf (c : ConfNo) (m : MemberRef) (s : State) : Alike (leaveConf c m s.withoutSecrets) (leaveConf c m s) := by
  unfold leaveConf
  rw [State.withoutSecrets_confs]
  cases s.confs[c] with
  | none => exact alike_refuse _ s
  | some k =>
    cases m with
    | leg n => exact alike_leaveMember c k (.leg n) s
    | loc ref =>
      dsimp only
      rw [State.withoutSecrets_lookup]
      cases s.lookup ref with
      | none => exact alike_refuse _ s
      | some h => exact alike_leaveMember c k (.loc h) s

theorem State.withoutSecrets_memberExists (s : State) (m : MemberRef) : memberExists m s.withoutSecrets = memberExists m s := by
  cases m with
  | leg n => simp only [memberExists]
  | loc ref => simp only [memberExists, State.withoutSecrets_lookup]

/-! ### The hold -/

theorem alike_beginHold (a : Unit) (s : State) : Alike (beginHold a s.withoutSecrets) (beginHold a s) := by
  unfold beginHold
  rw [State.withoutSecrets_hold]
  cases s.hold with
  | closed => exact alike_okay (s.withoutSecrets_withHold _)
  | opened entries mark => exact alike_refuse _ s

theorem alike_commitHold (a : Unit) (s : State) : Alike (commitHold a s.withoutSecrets) (commitHold a s) := by
  unfold commitHold
  rw [State.withoutSecrets_hold]
  cases s.hold with
  | closed => exact alike_refuse _ s
  | opened entries mark =>
    cases mark with
    | absent =>
      dsimp only
      rw [State.withoutSecrets_withHold]
      exact ⟨State.withoutSecrets_twice _, rfl⟩
    | pending => exact alike_refuse _ s
    | due => exact alike_refuse _ s

theorem alike_cancelHold (a : Unit) (s : State) : Alike (cancelHold a s.withoutSecrets) (cancelHold a s) := by
  unfold cancelHold
  rw [State.withoutSecrets_hold]
  cases s.hold with
  | closed => exact alike_refuse _ s
  | opened entries mark =>
    cases mark with
    | absent => exact alike_okay (s.withoutSecrets_withHold _)
    | pending => exact alike_refuse _ s
    | due => exact alike_refuse _ s

/-! ### Parameters, notices and RESTART -/

theorem alike_answerParam (id : ParamId) (h : u = t.withoutSecrets) : Alike (answerParam id u) (answerParam id t) := by
  unfold answerParam
  rw [h, State.withoutSecrets_params]
  exact alike_okay rfl

theorem State.withoutSecrets_withParams (s : State) (p : Params) :
    { s.withoutSecrets with params := p } = State.withoutSecrets { s with params := p } := by
  rw [State.withoutSecrets_eq, State.withoutSecrets_eq]

theorem State.withoutSecrets_setTiming (s : State) (mode : TrunkTiming) :
    s.withoutSecrets.setTiming mode = (s.setTiming mode).withoutSecrets := by
  rw [State.withoutSecrets_eq, State.withoutSecrets_eq]
  simp only [State.setTiming]

theorem ExtRecord.withoutSecrets_reclamp (limit : Nat) (r : ExtRecord) :
    r.withoutSecrets.reclamp limit = (r.reclamp limit).withoutSecrets := by
  have hstate : r.withoutSecrets.state = r.state := rfl
  have hfailures : r.withoutSecrets.failures = r.failures := rfl
  unfold ExtRecord.reclamp
  rw [hstate, hfailures]
  split
  · rfl
  · split <;> rfl

theorem alike_setParam (a : ParamId × Nat) (s : State) : Alike (setParam a s.withoutSecrets) (setParam a s) := by
  unfold setParam
  dsimp only
  rw [State.withoutSecrets_params, State.withoutSecrets_allLegsFree]
  cases a.1 with
  | epochLength =>
    dsimp only
    split
    · exact alike_answerParam _ rfl
    · split
      · exact alike_refuse _ s
      · exact alike_answerParam _ (s.withoutSecrets_withParams _)
  | timing =>
    have hchange (mode : TrunkTiming) : Alike
        (if mode = s.params.timing then answerParam .timing s.withoutSecrets
          else if (!s.allLegsFree) = true then refuse .busy s.withoutSecrets
          else answerParam .timing (s.withoutSecrets.setTiming mode))
        (if mode = s.params.timing then answerParam .timing s
          else if (!s.allLegsFree) = true then refuse .busy s else answerParam .timing (s.setTiming mode)) := by
      split
      · exact alike_answerParam _ rfl
      · split
        · exact alike_refuse _ s
        · exact alike_answerParam _ (s.withoutSecrets_setTiming mode)
    dsimp only
    split
    · exact hchange .locked
    · split
      · exact hchange .independent
      · exact alike_refuse _ s
  | answerTimeout => exact alike_answerParam _ (s.withoutSecrets_withParams _)
  | barTime => exact alike_answerParam _ (s.withoutSecrets_withParams _)
  | refreshInterval =>
    dsimp only
    refine alike_answerParam _ ?_
    split
    · exact (State.withoutSecrets_mapRecords { s with params := { s.params with refreshInterval := refreshRange a.2 } }
        (f := fun r => { r with state := r.state.refreshOff }) fun _ => rfl).symm
    · exact s.withoutSecrets_withParams _
  | failureLimit =>
    dsimp only
    split
    · exact alike_answerParam _ rfl
    · exact alike_answerParam _ (State.withoutSecrets_mapRecords
        { s with params := { s.params with failureLimit := clampNat 1 15 a.2 } } (ExtRecord.withoutSecrets_reclamp _)).symm
  | seed =>
    refine alike_answerParam _ ?_
    rw [State.withoutSecrets_eq, State.withoutSecrets_eq]
  | stride => exact alike_answerParam _ (s.withoutSecrets_withParams _)

theorem alike_readParams (a : Unit) (s : State) : Alike (readParams a s.withoutSecrets) (readParams a s) := by
  unfold readParams
  rw [State.withoutSecrets_params]
  exact alike_okay rfl

theorem State.withoutSecrets_withNotices (s : State) (q : NoticeUnit) :
    { s.withoutSecrets with notices := q } = State.withoutSecrets { s with notices := q } := by
  rw [State.withoutSecrets_eq, State.withoutSecrets_eq]

theorem alike_fetchNotices (n : Nat) (s : State) : Alike (fetchNotices n s.withoutSecrets) (fetchNotices n s) := by
  unfold fetchNotices
  dsimp only
  rw [State.withoutSecrets_notices]
  exact alike_okay (s.withoutSecrets_withNotices _)

theorem alike_maskNotices (a : Option (BitVec 32)) (s : State) :
    Alike (maskNotices a s.withoutSecrets) (maskNotices a s) := by
  unfold maskNotices
  dsimp only
  rw [State.withoutSecrets_notices]
  exact alike_okay (s.withoutSecrets_withNotices _)

theorem alike_restartPart (a : Unit) (s : State) : Alike (restartPart a s.withoutSecrets) (restartPart a s) := by
  unfold restartPart
  refine alike_okay ?_
  have hlegs : (Vector.replicate 32 (none : Option Leg)).map (Option.map Leg.withoutSecrets) = Vector.replicate 32 none := by
    simp
  rw [State.withoutSecrets_eq, State.withoutSecrets_eq]
  unfold State.restart ExtTable.mapRecords
  simp only [hlegs, ofFn_map_withoutSecrets s.ext.records (f := fun r => { r with state := r.state.restarted }) fun _ => rfl]

/-! ### Every request -/

theorem State.withoutSecrets_withLink (s : State) (p : Link) :
    { s.withoutSecrets with link := p } = State.withoutSecrets { s with link := p } := by
  rw [State.withoutSecrets_eq, State.withoutSecrets_eq]

/-- R170: a request taken whole. -/
theorem takeRequest_alike (code : Byte) {f : State → State × Answer} (hf : Alike (f s.withoutSecrets) (f s)) :
    (takeRequest code f s.withoutSecrets).withoutSecrets = (takeRequest code f s).withoutSecrets := by
  obtain ⟨hstate, hanswer⟩ := hf
  unfold takeRequest
  rw [State.withoutSecrets_link]
  split
  · dsimp only
    generalize f s.withoutSecrets = o at hstate hanswer ⊢
    generalize f s = o' at hstate hanswer ⊢
    have hlink : o.1.link = o'.1.link := by rw [← State.withoutSecrets_link o.1, hstate, State.withoutSecrets_link]
    have hp : { o.1.withoutSecrets with link := o'.1.link.push (o'.2.reply code) } =
        { o'.1.withoutSecrets with link := o'.1.link.push (o'.2.reply code) } := by rw [hstate]
    rw [hlink, hanswer]
    rwa [State.withoutSecrets_withLink, State.withoutSecrets_withLink] at hp
  · exact s.withoutSecrets_twice

theorem takeFrame_alike (code : Byte) (body : List Byte) (s : State) :
    (s.withoutSecrets.takeFrame code body).withoutSecrets = (s.takeFrame code body).withoutSecrets := by
  unfold State.takeFrame
  split
  · exact takeRequest_alike _ (alike_withArgs (alike_openLeg · s))
  · exact takeRequest_alike _ (alike_withArgs (alike_closeLeg · s))
  · exact takeRequest_alike _ (alike_withArgs fun n => alike_stageOr rfl (alike_connectLeg n s))
  · exact takeRequest_alike _ (alike_withArgs fun n => alike_stageOr rfl (alike_parkLeg n s))
  · exact takeRequest_alike _ (alike_withArgs fun a => alike_stageOr rfl (alike_levelLeg a.1 a.2 s))
  · exact takeRequest_alike _ (alike_withArgs (alike_rekeyLeg · s))
  · exact takeRequest_alike _ (alike_withArgs (alike_readLeg · s))
  · exact takeRequest_alike _ (alike_withArgs (alike_readTrunk · s))
  · exact takeRequest_alike _ (alike_withArgs (alike_loadExt · s))
  · exact takeRequest_alike _ (alike_withRecord fun h r _ => alike_removeExt h r s)
  · exact takeRequest_alike _ (alike_withRecord fun h r _ => alike_readExt h r s)
  · exact takeRequest_alike _ (alike_withRecord fun h r _ => alike_suspendExt h r s)
  · exact takeRequest_alike _ (alike_withRecord fun h r _ => alike_resumeExt h r s)
  · exact takeRequest_alike _ (alike_withRecord fun h r _ => alike_unbarExt h r s)
  · exact takeRequest_alike _ (alike_withRecord fun h r _ => alike_revokeExt h r s)
  · exact takeRequest_alike _ (alike_withArgs (alike_mapSlots · s))
  · exact takeRequest_alike _ (alike_withArgs (alike_openConf · s))
  · exact takeRequest_alike _ (alike_withArgs fun a => alike_stageOr (s.withoutSecrets_memberExists a.2) (alike_joinConf a.1 a.2 s))
  · exact takeRequest_alike _ (alike_withArgs fun a => alike_stageOr (s.withoutSecrets_memberExists a.2) (alike_leaveConf a.1 a.2 s))
  · exact takeRequest_alike _ (alike_withArgs (alike_hostCloseConf · s))
  · exact takeRequest_alike _ (alike_withArgs (alike_readConf · s))
  · exact takeRequest_alike _ (alike_withArgs (alike_beginHold · s))
  · exact takeRequest_alike _ (alike_withArgs (alike_commitHold · s))
  · exact takeRequest_alike _ (alike_withArgs (alike_cancelHold · s))
  · exact takeRequest_alike _ (alike_withArgs (alike_setParam · s))
  · exact takeRequest_alike _ (alike_withArgs (alike_readParams · s))
  · exact takeRequest_alike _ (alike_withArgs (alike_fetchNotices · s))
  · exact takeRequest_alike _ (alike_withArgs (alike_maskNotices · s))
  · exact takeRequest_alike _ (alike_withArgs (alike_restartPart · s))
  · exact takeRequest_alike _ (alike_refuse _ s)

/-- Settles O31: a request does the same, but for secrets, to the state with its secrets out of sight; the replies are in
sight. -/
theorem noReplyDependsOnASecret : Obligations.NoReplyDependsOnASecret := by
  unfold Obligations.NoReplyDependsOnASecret
  intro c s t hc ht
  obtain ⟨⟨code, body⟩, hcode⟩ := Option.isSome_iff_exists.1 hc
  rw [exec_request hcode] at ht ⊢
  suffices halike : ∀ f : State → State, (f s.withoutSecrets).withoutSecrets = (f s).withoutSecrets →
      whenInService s f = .next t → ∃ u, whenInService s.withoutSecrets f = .next u ∧
        u.withoutSecrets = t.withoutSecrets by
    obtain ⟨u, hu, hsight⟩ := halike _ (takeFrame_alike code body s) ht
    refine ⟨u, hu, ?_, hsight⟩
    rw [← State.withoutSecrets_link u, hsight, State.withoutSecrets_link]
  intro f hf ht
  unfold whenInService at ht ⊢
  rw [State.withoutSecrets_resetAsserted]
  split at ht
  next hreset =>
    cases ht
    exact ⟨_, if_pos hreset, s.withoutSecrets_twice⟩
  next hreset =>
    cases ht
    exact ⟨_, if_neg hreset, hf⟩

end Sys2Proof.Machine
end

section
/-! PROOFS. Step 3 of the fault action (R137 to R139): the legs and local memberships of a scope set, gone one after
another, and what is left of the legs, the conferences and the Trunk Cell Queue. -/

namespace Sys2Proof.Machine

variable {s t u : State} {n m : LegNo} {l : Leg} {c d : ConfNo} {e x : Handle} {mem : Member} {gone gone' : Member → Prop}
  {who : Roster} {slot : Option Slot} {former : Slot}

/-! ### Members taken out one after another -/

/-- R153, R154: members taken out of the list and of the mixing set. -/
def Conf.removeAll (removed : List Member) (k : Conf) : Conf := removed.foldl (fun k m => k.remove m) k

theorem Conf.removeAll_eq (removed : List Member) (k : Conf) : k.removeAll removed =
    { k with members := removed.foldl List.erase k.members
             mixSet := k.mixSet.map fun set => removed.foldl List.erase set } := by
  induction removed generalizing k with
  | nil =>
    simp only [Conf.removeAll, List.foldl_nil, Option.map_id']
  | cons m rest ih =>
    rw [Conf.removeAll, List.foldl_cons]
    refine (ih _).trans ?_
    simp only [Conf.remove, List.foldl_cons, Option.map_map, Function.comp_def]

theorem Conf.removeAll_append (removed : List Member) (m : Member) (k : Conf) :
    k.removeAll (removed ++ [m]) = (k.removeAll removed).remove m := by
  rw [Conf.removeAll, List.foldl_append]
  rfl

/-- In a list that holds each member once, taking members out leaves the others in their order. -/
theorem foldl_erase_of_nodup {members removed : List Member} (h : members.Nodup) :
    removed.foldl List.erase members = members.filter fun m => m ∉ removed := by
  rw [← List.diff_eq_foldl, h.sdiff_eq_filter]

/-! ### What is gone -/

/-- R138, R139: the members of a set are gone: the legs are CLEARING with cause FAULT, and each conference has lost
exactly its members in the set. -/
structure Ended (s t : State) (gone : Member → Prop) : Prop where
  kept : ∀ n : LegNo, ¬gone (.leg n) → t.legs[n] = s.legs[n]
  cleared : ∀ n : LegNo, gone (.leg n) → ∃ l room, s.legs[n] = some l ∧ l.state.isOpen = true ∧
    t.legs[n] = some (l.cleared .fault room) ∧ (room = true → ⟨.clear, n⟩ ∈ t.cellQueue) ∧
    ∀ kind, kind ≠ .clear → ⟨kind, n⟩ ∉ t.cellQueue
  confs : ∀ c : ConfNo, ∃ removed, t.confs[c] = (s.confs[c]).map (Conf.removeAll removed) ∧ removed.Nodup ∧
    ∀ m, m ∈ removed ↔ m ∈ s.membersOf c ∧ gone m
  frame : t = { s with legs := t.legs, confs := t.confs, cellQueue := t.cellQueue, line := { s.line with outMap := t.line.outMap } }

/-! ### The Trunk Cell Queue of a leg cleared -/

theorem mem_cleared_other {room : Bool} {q : List CellRequest} (kind : RequestKind) (hnm : n ≠ m) :
    ⟨kind, m⟩ ∈ (if room then withoutSyncRoll n q ++ [{ kind := .clear, leg := n }] else withoutSyncRoll n q) ↔
      (⟨kind, m⟩ : CellRequest) ∈ q := by
  split
  · rw [mem_append_other _ hnm, mem_withoutSyncRoll_other _ hnm]
  · exact mem_withoutSyncRoll_other _ hnm

theorem not_mem_cleared {room : Bool} {q : List CellRequest} {kind : RequestKind} (hkind : kind ≠ .clear) :
    (⟨kind, n⟩ : CellRequest) ∉ if room then withoutSyncRoll n q ++ [{ kind := .clear, leg := n }] else withoutSyncRoll n q := by
  have hnot : (⟨kind, n⟩ : CellRequest) ∉ withoutSyncRoll n q := by
    simp [withoutSyncRoll, hkind]
  split
  · rw [List.mem_append, List.mem_singleton]
    exact fun h => h.elim hnot fun h => hkind (congrArg CellRequest.kind h)
  · exact hnot

namespace Ended

theorem start (s : State) : Ended s s fun _ => False where
  kept _ _ := rfl
  cleared _ h := h.elim
  confs _ := ⟨[], Option.map_id'.symm, List.nodup_nil, fun _ => ⟨nofun, fun h => h.2.elim⟩⟩
  frame := rfl

theorem congr (h : Ended s t gone) (hgone : ∀ m, gone m ↔ gone' m) : Ended s t gone' := by
  rw [← funext fun m => propext (hgone m)]
  exact h

/-- What no conference holds as a member is gone from the conferences already. -/
theorem confs_same (h : Ended s t gone) (hnot : ∀ c, mem ∉ s.membersOf c) (hconfs : u.confs = t.confs) (d : ConfNo) :
    ∃ removed, u.confs[d] = (s.confs[d]).map (Conf.removeAll removed) ∧ removed.Nodup ∧
      ∀ m, m ∈ removed ↔ m ∈ s.membersOf d ∧ (gone m ∨ m = mem) := by
  obtain ⟨removed, hconf, hnodup, hin⟩ := h.confs d
  refine ⟨removed, by rw [hconfs, hconf], hnodup,
    fun m => (hin m).trans (and_congr_right fun hm => ⟨.inl, fun hg => hg.elim id ?_⟩)⟩
  rintro rfl
  exact absurd hm (hnot d)

theorem absent (h : Ended s t gone) (hloc : ∀ c, .loc e ∉ s.membersOf c) : Ended s t fun m => gone m ∨ m = .loc e where
  kept n hn := h.kept n fun hg => hn (.inl hg)
  cleared n hn := h.cleared n (hn.elim id nofun)
  confs := h.confs_same hloc rfl
  frame := h.frame

/-- The members left of a conference. -/
theorem members (h : Ended s t gone) (hnodup : (s.membersOf c).Nodup) :
    mem ∈ t.membersOf c ↔ mem ∈ s.membersOf c ∧ ¬gone mem := by
  obtain ⟨removed, hconf, -, hmem⟩ := h.confs c
  cases hk : s.confs[c] with
  | none =>
    rw [State.membersOf_eq, State.membersOf_eq, hconf, hk]
    simp
  | some k =>
    have hk' : t.confs[c] = some (k.removeAll removed) := by rw [hconf, hk]; rfl
    rw [State.membersOf_some hk] at hnodup hmem ⊢
    rw [State.membersOf_some hk', Conf.removeAll_eq]
    show mem ∈ removed.foldl List.erase k.members ↔ _
    rw [foldl_erase_of_nodup hnodup, List.mem_filter, decide_eq_true_iff, hmem]
    grind

/-- A conference loses one member more, and the others lose none. -/
theorem confs_remove (h : Ended s t gone) (hmem : mem ∈ s.membersOf c) (hgone : ¬gone mem)
    (honly : ∀ d, mem ∈ s.membersOf d → c = d) (hconfs : u.confs = t.confs.set c ((t.confs[c]).map (Conf.remove mem))) (d : ConfNo) :
    ∃ removed, u.confs[d] = (s.confs[d]).map (Conf.removeAll removed) ∧ removed.Nodup ∧
      ∀ m, m ∈ removed ↔ m ∈ s.membersOf d ∧ (gone m ∨ m = mem) := by
  obtain ⟨removed, hconf, hnodup, hin⟩ := h.confs d
  rw [hconfs, getElem_set_fin]
  split
  next hcd =>
    subst hcd
    have hfresh : mem ∉ removed := fun hm => hgone ((hin mem).1 hm).2
    refine ⟨removed ++ [mem], ?_, ?_, fun m => ?_⟩
    · rw [hconf, Option.map_map]
      exact congrArg (fun f => (s.confs[c]).map f) (funext fun k => (Conf.removeAll_append removed mem k).symm)
    · rw [List.nodup_append]
      exact ⟨hnodup, List.nodup_singleton _, fun x hx y hy => by
        rw [List.mem_singleton] at hy
        rintro rfl
        exact hfresh (hy ▸ hx)⟩
    · rw [List.mem_append, List.mem_singleton, hin]
      constructor
      · rintro (⟨hm, hg⟩ | rfl)
        · exact ⟨hm, .inl hg⟩
        · exact ⟨hmem, .inr rfl⟩
      · rintro ⟨hm, hg | rfl⟩
        · exact .inl ⟨hm, hg⟩
        · exact .inr rfl
  next hcd =>
    refine ⟨removed, hconf, hnodup, fun m => (hin m).trans (and_congr_right fun hm => ⟨.inl, fun hg => hg.elim id ?_⟩)⟩
    rintro rfl
    exact absurd (honly d hm) hcd

/-- R139: a local membership removed. -/
theorem removeLocal (h : Ended s t gone) (a : s.view.Accord who) (hmem : .loc e ∈ s.membersOf c) (hgone : ¬gone (.loc e)) :
    Ended s (t.removeLocal c e slot) fun m => gone m ∨ m = .loc e where
  kept n hn := h.kept n fun hg => hn (.inl hg)
  cleared n hn := h.cleared n (hn.elim id nofun)
  confs := h.confs_remove hmem hgone (fun d hd => a.onlyOnce c d _ hmem hd) rfl
  frame := by
    have hframe : t.removeLocal c e slot = { t with
        confs := (t.removeLocal c e slot).confs
        line := { t.line with outMap := (t.line.release slot (.conference c)).outMap } } := by
      rw [← LinePort.release_frame]
      rfl
    rw [hframe]
    dsimp only
    rw [h.frame]

/-- R62, R138: an open leg put into CLEARING with cause FAULT. -/
theorem clearLeg (h : Ended s t gone) (a : s.view.Accord who) (hl : s.legs[n] = some l) (ho : l.state.isOpen = true)
    (hgone : ¬gone (.leg n)) : Ended s (t.clearLeg n .fault slot) fun m => gone m ∨ m = .leg n := by
  have hlt : t.legs[n] = some l := (h.kept n hgone).trans hl
  obtain ⟨hlegs, hqueue, hline, hconfs⟩ := State.clearLeg_some .fault slot hlt
  have hplace := State.place_of hl
  rw [ho] at hplace
  refine ⟨fun m hm => ?kept, fun m hm => ?cleared, fun c => ?confs, ?frame⟩
  case kept =>
    rw [State.clearLeg_other _ _ _ fun hnm => hm (.inr (congrArg Member.leg hnm.symm))]
    exact h.kept m fun hg => hm (.inl hg)
  case cleared =>
    by_cases hnm : n = m
    · subst hnm
      refine ⟨l, decide ((withoutSyncRoll n t.cellQueue).length < Config.cellQueueRoom), hl, ho, ?_, fun hroom => ?_,
        fun kind hkind => ?_⟩
      · rw [hlegs, getElem_set_fin, if_pos rfl]
      · rw [hqueue, if_pos hroom]
        exact List.mem_append_right _ (List.mem_singleton_self _)
      · rw [hqueue]
        exact not_mem_cleared hkind
    · obtain ⟨k, room, hk, hopen, hcleared, hclear, hothers⟩ :=
        h.cleared m (hm.elim id fun hmn => absurd (Member.leg.inj hmn).symm hnm)
      refine ⟨k, room, hk, hopen, ?_, fun hroom => ?_, fun kind hkind => ?_⟩
      · rw [State.clearLeg_other _ _ _ hnm, hcleared]
      · rw [hqueue, mem_cleared_other _ hnm]
        exact hclear hroom
      · rw [hqueue, mem_cleared_other _ hnm]
        exact hothers kind hkind
  case confs =>
    cases he : l.endpoint with
    | conference d =>
      rw [he] at hplace hconfs
      have hmem : Member.leg n ∈ s.membersOf d := (a.legs d n).2 ⟨_, hplace⟩
      exact h.confs_remove hmem hgone (fun d' hd' => a.onlyOnce d d' _ hmem hd') hconfs c
    | line =>
      rw [he] at hplace hconfs
      refine h.confs_same (fun d hd => ?_) hconfs c
      obtain ⟨y, hy⟩ := (a.legs d n).1 hd
      rw [hplace] at hy
      nomatch hy
    | parked =>
      rw [he] at hplace hconfs
      refine h.confs_same (fun d hd => ?_) hconfs c
      obtain ⟨y, hy⟩ := (a.legs d n).1 hd
      rw [hplace] at hy
      nomatch hy
  case frame =>
    have hport : (t.clearLeg n .fault slot).line = { t.line with outMap := (t.clearLeg n .fault slot).line.outMap } := by
      rw [hline]
      split
      · exact LinePort.release_frame _ _ _
      · rfl
    rw [State.clearLeg_frame, hport]
    dsimp only
    rw [h.frame]

/-- R138: open legs cleared one after another. -/
theorem clearLegs (legs : List LegNo) (h : Ended s t gone) (a : s.view.Accord who) (hnodup : legs.Nodup)
    (hlegs : ∀ n ∈ legs, (∃ l, s.legs[n] = some l ∧ l.state.isOpen = true) ∧ ¬gone (.leg n)) :
    Ended s (legs.foldl (fun s n => s.clearLeg n .fault slot) t) fun m => gone m ∨ ∃ n ∈ legs, m = .leg n := by
  induction legs generalizing t gone with
  | nil => exact h.congr fun m => by simp
  | cons n rest ih =>
    obtain ⟨hn, hrest⟩ := List.nodup_cons.1 hnodup
    obtain ⟨⟨l, hl, ho⟩, hgone⟩ := hlegs n List.mem_cons_self
    refine (ih (h.clearLeg a hl ho hgone) hrest fun m hm => ?_).congr fun m => ?_
    · obtain ⟨hopen, hkept⟩ := hlegs m (List.mem_cons_of_mem n hm)
      refine ⟨hopen, fun hg => hg.elim hkept fun hmn => ?_⟩
      exact hn (Member.leg.inj hmn ▸ hm)
    · simp only [List.mem_cons, exists_eq_or_imp, or_assoc]

end Ended

/-! ### The extensions of a scope set -/

/-- R138, R139: the members an extension takes with it: its open legs and its local handset. -/
def State.Carries (s : State) (e : Handle) (m : Member) : Prop :=
  m = .loc e ∨ ∃ (n : LegNo) (l : Leg), m = .leg n ∧ s.legs[n] = some l ∧ l.owner = e ∧ l.state.isOpen = true

/-- No member goes with two extensions. -/
theorem State.Carries.unique {e' : Handle} (h : s.Carries e mem) (h' : s.Carries e' mem) : e = e' := by
  rcases h with rfl | ⟨n, l, rfl, hl, rfl, -⟩
  · rcases h' with h' | ⟨n, l, h', -⟩
    · exact Member.loc.inj h'
    · nomatch h'
  · rcases h' with h' | ⟨m, k, h', hk, rfl, -⟩
    · nomatch h'
    · cases Member.leg.inj h'
      rw [hl] at hk
      cases hk
      rfl

/-- R138, R139: step 3 of the fault action for one extension. -/
theorem Ended.faultExtension (h : Ended s t gone) (a : s.view.Accord who) (hgone : ∀ m, s.Carries e m → ¬gone m) :
    Ended s (State.faultExtension x former t e) fun m => gone m ∨ s.Carries e m := by
  have hopen : t.openLegsOf e = s.openLegsOf e := by
    refine congrArg placesWhere (funext fun n => ?_)
    by_cases hg : gone (.leg n)
    · obtain ⟨l, room, hl, ho, hcleared, -⟩ := h.cleared n hg
      have howner : l.owner ≠ e := fun howner => hgone _ (.inr ⟨n, l, rfl, hl, howner, ho⟩) hg
      rw [hcleared, hl, Option.any_some, Option.any_some, beq_eq_false_iff_ne.2 howner]
      exact Bool.and_false _
    · rw [h.kept n hg]
  unfold State.faultExtension State.faultLegs
  dsimp only
  generalize (if e = x then some former else t.boundSlot e) = slot
  have hcleared := h.clearLegs (slot := slot) (s.openLegsOf e) a (nodup_placesWhere _) fun n hn => by
    obtain ⟨l, hl, howner, ho⟩ := mem_openLegsOf.1 hn
    exact ⟨⟨l, hl, ho⟩, hgone _ (.inr ⟨n, l, rfl, hl, howner, ho⟩)⟩
  rw [hopen]
  generalize (s.openLegsOf e).foldl (fun s n => s.clearLeg n .fault slot) t = u at hcleared ⊢
  have hall (m : Member) : ((gone m ∨ ∃ n ∈ s.openLegsOf e, m = .leg n) ∨ m = .loc e) ↔ gone m ∨ s.Carries e m := by
    unfold State.Carries
    simp only [mem_openLegsOf]
    grind
  have hleft : ¬(gone (.loc e) ∨ ∃ n ∈ s.openLegsOf e, Member.loc e = .leg n) := by
    rintro (hg | ⟨n, -, hn⟩)
    · exact hgone _ (.inl rfl) hg
    · nomatch hn
  have hmembers (c : ConfNo) : Member.loc e ∈ u.membersOf c ↔ Member.loc e ∈ s.membersOf c :=
    (hcleared.members (a.once c)).trans (and_iff_left hleft)
  split
  next hnone => exact (hcleared.absent fun c => (hmembers c).not.1 (State.localConf_eq_none.1 hnone c)).congr hall
  next c hc => exact (hcleared.removeLocal a ((hmembers c).1 (State.localConf_eq_some hc)) hleft).congr hall

/-- R137: the scope set one extension after another. -/
theorem Ended.faultScope (scope : List Handle) (h : Ended s t gone) (a : s.view.Accord who) (hnodup : scope.Nodup)
    (hgone : ∀ e ∈ scope, ∀ m, s.Carries e m → ¬gone m) :
    Ended s (scope.foldl (State.faultExtension x former) t) fun m => gone m ∨ ∃ e ∈ scope, s.Carries e m := by
  induction scope generalizing t gone with
  | nil => exact h.congr fun m => by simp
  | cons e rest ih =>
    obtain ⟨he, hrest⟩ := List.nodup_cons.1 hnodup
    refine (ih (h.faultExtension a (hgone e List.mem_cons_self)) hrest fun e' he' m hm hg => ?_).congr fun m => ?_
    · rcases hg with hg | hg
      · exact hgone e' (List.mem_cons_of_mem e he') m hm hg
      · exact he (hg.unique hm ▸ he')
    · simp only [List.mem_cons, exists_eq_or_imp, or_assoc]

end Sys2Proof.Machine
end

section
/-! PROOFS. Steps 4 and 5 of the fault action (R140, R141): conferences closed one after another, what is left and what
is told of it; the fault action as a whole. -/

namespace Sys2Proof.Machine

variable {s t u v w : State} {n m : LegNo} {l : Leg} {c d : ConfNo} {e x : Handle} {closed closed' : ConfNo → Prop}
  {who : Roster} {former : Slot} {cause : ConfCause} {scope : FaultScope}

/-! ### What is closed -/

/-- R148: the conferences of a set are closed and their legs PARKED. -/
structure Closings (t w : State) (closed : ConfNo → Prop) : Prop where
  parked : ∀ n : LegNo, (∃ c, closed c ∧ .leg n ∈ t.membersOf c) →
    w.legs[n] = (t.legs[n]).map fun l => { l with endpoint := .parked }
  kept : ∀ n : LegNo, (¬∃ c, closed c ∧ .leg n ∈ t.membersOf c) → w.legs[n] = t.legs[n]
  gone : ∀ c : ConfNo, closed c → w.confs[c] = none
  left : ∀ c : ConfNo, ¬closed c → w.confs[c] = t.confs[c]
  frame : w = { t with legs := w.legs, confs := w.confs, line := { t.line with outMap := w.line.outMap }, notices := w.notices }

namespace Closings

theorem start (t : State) : Closings t t fun _ => False where
  parked _ h := by
    obtain ⟨_, hc, -⟩ := h
    exact hc.elim
  kept _ _ := rfl
  gone _ h := h.elim
  left _ _ := rfl
  frame := rfl

theorem congr (h : Closings t w closed) (hclosed : ∀ c, closed c ↔ closed' c) : Closings t w closed' := by
  rw [← funext fun c => propext (hclosed c)]
  exact h

theorem closeConf (h : Closings t w closed) (c : ConfNo) (cause : ConfCause) :
    Closings t (w.closeConf c cause) fun d => closed d ∨ d = c := by
  cases hk : w.confs[c] with
  | none =>
    rw [State.closeConf_none cause hk]
    have hempty (hc : ¬closed c) : t.membersOf c = [] := by
      rw [State.membersOf_eq, ← h.left c hc, hk]
      rfl
    refine ⟨fun n hn => h.parked n ?_, fun n hn => h.kept n fun ⟨d, hd, hm⟩ => hn ⟨d, .inl hd, hm⟩, fun d hd => ?_,
      fun d hd => h.left d fun hc => hd (.inl hc), h.frame⟩
    · obtain ⟨d, hd, hm⟩ := hn
      refine ⟨d, hd.elim id ?_, hm⟩
      rintro rfl
      by_contra hc
      rw [hempty hc] at hm
      nomatch hm
    · rcases hd with hd | rfl
      · exact h.gone d hd
      · exact hk
  | some k =>
    have hopen : ¬closed c := fun hc => by
      rw [h.gone c hc] at hk
      nomatch hk
    have hmembers : t.membersOf c = k.members := State.membersOf_some ((h.left c hopen).symm.trans hk)
    rw [State.closeConf_some cause hk, State.dismissAll_frame]
    refine ⟨fun n hn => ?parked, fun n hn => ?kept, fun d hd => ?gone, fun d hd => ?left, ?frame⟩
    case parked =>
      refine (State.dismissAll_legs c k.members w n).trans ?_
      split
      next hm =>
        by_cases hbefore : ∃ d, closed d ∧ .leg n ∈ t.membersOf d
        · rw [h.parked n hbefore, Option.map_map]
          rfl
        · rw [h.kept n hbefore]
      next hm =>
        refine h.parked n ?_
        obtain ⟨d, hd, hmem⟩ := hn
        refine ⟨d, hd.elim id ?_, hmem⟩
        rintro rfl
        exact absurd (hmembers ▸ hmem) hm
    case kept =>
      have hm : .leg n ∉ k.members := fun hm => hn ⟨c, .inr rfl, hmembers ▸ hm⟩
      refine (State.dismissAll_legs c k.members w n).trans ((if_neg hm).trans ?_)
      exact h.kept n fun ⟨d, hd, hmem⟩ => hn ⟨d, .inl hd, hmem⟩
    case gone =>
      show (w.confs.set c none)[d] = none
      rw [getElem_set_fin]
      split
      next => rfl
      next hcd => exact h.gone d (hd.elim id fun hdc => absurd hdc.symm hcd)
    case left =>
      show (w.confs.set c none)[d] = t.confs[d]
      rw [getElem_set_fin, if_neg fun hcd => hd (.inr hcd.symm)]
      exact h.left d fun hc => hd (.inl hc)
    case frame =>
      have hw := h.frame
      generalize (k.members.foldl (State.dismiss c) w).legs = legs
      generalize (k.members.foldl (State.dismiss c) w).line.outMap = map
      unfold State.setConf State.notify
      rw [hw]

theorem closeConfs (confs : List ConfNo) (cause : ConfCause) (h : Closings t w closed) :
    Closings t (confs.foldl (fun s c => s.closeConf c cause) w) fun d => closed d ∨ d ∈ confs := by
  induction confs generalizing w closed with
  | nil => exact h.congr fun d => by simp
  | cons c rest ih => exact (ih (h.closeConf c cause)).congr fun d => by simp only [List.mem_cons, or_assoc]

end Closings

/-! ### What is told -/

/-- Two states with the same notices and the same stamp for the next. -/
def Told (u v : State) : Prop := u.notices = v.notices ∧ u.line.blockCount = v.line.blockCount

theorem Told.notify (h : Told u v) (kind : NoticeKind) (subject : Nat) (detail : Half) :
    Told (u.notify kind subject detail) (v.notify kind subject detail) := by
  obtain ⟨hnotices, hstamp⟩ := h
  unfold State.notify
  refine ⟨?_, hstamp⟩
  rw [hnotices, hstamp]

theorem Told.closeConf {k : Conf} (h : Told t u) (hk : t.confs[c] = some k) :
    Told (t.closeConf c cause) (u.notify .confClosed c cause.value) := by
  rw [State.closeConf_some cause hk]
  refine Told.notify ?_ _ _ _
  rw [State.dismissAll_frame]
  exact h

/-- R148: conferences closed one after another are told of in their order. -/
theorem Told.closeConfs (confs : List ConfNo) (hnodup : confs.Nodup) (h : Told t u) :
    Told (confs.foldl (fun s c => s.closeConf c cause) t)
      ((confs.filter fun c => (t.confs[c]).isSome).foldl (fun u (c : ConfNo) => u.notify .confClosed c cause.value) u) := by
  induction confs generalizing t u with
  | nil => exact h
  | cons c rest ih =>
    obtain ⟨hc, hrest⟩ := List.nodup_cons.1 hnodup
    cases hk : t.confs[c] with
    | none =>
      rw [List.filter_cons_of_neg (by rw [hk]; decide), List.foldl_cons, State.closeConf_none cause hk]
      exact ih hrest h
    | some k =>
      have hleft : rest.filter (fun d => ((t.closeConf c cause).confs[d]).isSome) = rest.filter fun d => (t.confs[d]).isSome := by
        refine List.filter_congr fun d hd => ?_
        rw [((Closings.start t).closeConf c cause).left d fun h => h.elim id fun hdc => hc (hdc ▸ hd)]
      rw [List.filter_cons_of_pos (by rw [hk]; rfl), List.foldl_cons, List.foldl_cons, ← hleft]
      exact ih hrest (h.closeConf hk)

/-! ### The fault action -/

theorem pairwise_placesWhere {k : Nat} (p : Fin k → Bool) : ((placesWhere p).map (·.val)).Pairwise (· < ·) := by
  rw [List.pairwise_map]
  exact (List.pairwise_lt_finRange k).filter _

theorem State.nodup_scopeSet (s : State) (x : Handle) (scope : FaultScope) : (s.scopeSet x scope).Nodup := by
  cases scope with
  | leg => exact List.nodup_singleton _
  | call => exact List.nodup_singleton _
  | group => exact nodup_placesWhere _

/-- R140: the conferences closed for X's part in them, under CALL scope. -/
def State.closedByFault (s : State) (x : Handle) (scope : FaultScope) : List ConfNo :=
  if scope = .call then s.engagedConfs x else []

theorem State.nodup_closedByFault (s : State) (x : Handle) (scope : FaultScope) : (s.closedByFault x scope).Nodup := by
  unfold State.closedByFault
  split
  · exact nodup_placesWhere _
  · exact List.nodup_nil

theorem State.pairwise_closedByFault (s : State) (x : Handle) (scope : FaultScope) :
    ((s.closedByFault x scope).map (·.val)).Pairwise (· < ·) := by
  unfold State.closedByFault
  split
  · exact pairwise_placesWhere _
  · exact List.Pairwise.nil

theorem State.closedByFault_eq (s : State) (x : Handle) (scope : FaultScope) :
    (if scope = .call then (s.engagedConfs x).foldl (fun s c => s.closeConf c .fault) t else t) =
      (s.closedByFault x scope).foldl (fun s c => s.closeConf c .fault) t := by
  unfold State.closedByFault
  split <;> rfl

theorem State.mem_closedByFault : c ∈ s.closedByFault x scope ↔ scope = .call ∧ ∃ k, s.confs[c] = some k ∧
    ∃ m ∈ k.members, m = .loc x ∨ ∃ (n : LegNo) (l : Leg), m = .leg n ∧ s.legs[n] = some l ∧ l.owner = x := by
  have hone (m : Member) : (match m with
      | .loc h => h == x
      | .leg n => (s.legs[n]).any fun l => l.owner == x) = true ↔
      m = .loc x ∨ ∃ (n : LegNo) (l : Leg), m = .leg n ∧ s.legs[n] = some l ∧ l.owner = x := by
    cases m with
    | loc h => simp
    | leg n => simp [Option.any_eq_true]
  have hengaged : c ∈ s.engagedConfs x ↔ ∃ m ∈ s.membersOf c,
      m = .loc x ∨ ∃ (n : LegNo) (l : Leg), m = .leg n ∧ s.legs[n] = some l ∧ l.owner = x := by
    rw [State.engagedConfs, mem_placesWhere, List.any_eq_true]
    exact exists_congr fun m => and_congr_right fun _ => hone m
  unfold State.closedByFault
  cases hk : s.confs[c] with
  | none =>
    rw [State.membersOf_eq, hk] at hengaged
    have hnot : c ∉ s.engagedConfs x := fun hc => by
      obtain ⟨m, hm, -⟩ := hengaged.1 hc
      nomatch hm
    split <;> simp [hnot]
  | some k =>
    rw [State.membersOf_some hk] at hengaged
    split
    next hscope => simp [hscope, hengaged]
    next hscope => simp [hscope]

theorem State.mem_chairedConfs : c ∈ s.chairedConfs x ↔ ∃ k, s.confs[c] = some k ∧ k.chair = some x := by
  rw [State.chairedConfs, mem_placesWhere, Option.any_eq_true]
  simp only [beq_iff_eq]

/-- Only an OPEN conference is closed. -/
theorem State.isSome_of_mem_closedByFault (hc : c ∈ s.closedByFault x scope) : (s.confs[c]).isSome = true := by
  obtain ⟨-, k, hk, -⟩ := State.mem_closedByFault.1 hc
  exact Option.isSome_iff_exists.2 ⟨k, hk⟩

/-- R136: the notice, the scope set, the engaged conferences and the chaired ones. -/
theorem State.faultAction_cases (a : u.view.Accord who) (cause : LossCause) (scope : FaultScope)
    (htold : Told u s) :
    let lost (s : State) := s.notify .admissionLost x (BitVec.ofNat 16 (256 * scope.code + cause.value))
    let byFault := u.closedByFault x scope
    let byChair := (u.chairedConfs x).filter fun c => c ∉ byFault
    let t := u.faultAction x cause scope former
    ∃ v, Ended (lost u) v (fun m => ∃ e ∈ u.scopeSet x scope, u.Carries e m) ∧
      Closings v t (fun c => c ∈ byFault ∨ c ∈ u.chairedConfs x) ∧
      Told t (byChair.foldl (fun u (c : ConfNo) => u.notify .confClosed c ConfCause.chair.value)
        (byFault.foldl (fun u (c : ConfNo) => u.notify .confClosed c ConfCause.fault.value) (lost s))) := by
  intro lost byFault byChair t
  have hview : (lost u).view = u.view := u.view_notify _ _ _
  have hended := (Ended.start (lost u)).faultScope (x := x) (former := former) ((lost u).scopeSet x scope) (hview ▸ a)
    ((lost u).nodup_scopeSet x scope) fun _ _ _ _ h => h
  have hscope : (lost u).scopeSet x scope = u.scopeSet x scope := rfl
  have hengaged : (lost u).engagedConfs x = u.engagedConfs x := rfl
  have hchaired : (lost u).chairedConfs x = u.chairedConfs x := rfl
  refine ⟨((lost u).scopeSet x scope).foldl (State.faultExtension x former) (lost u), hended.congr fun m => by
    rw [false_or, hscope]
    rfl, ?_⟩
  have ht : t = (u.chairedConfs x).foldl (fun s c => s.closeConf c .chair) (byFault.foldl (fun s c => s.closeConf c .fault)
      (((lost u).scopeSet x scope).foldl (State.faultExtension x former) (lost u))) := by
    rw [← State.closedByFault_eq, ← hengaged, ← hchaired]
    rfl
  rw [ht]
  generalize ((lost u).scopeSet x scope).foldl (State.faultExtension x former) (lost u) = v at hended
  have hopen (c : ConfNo) : (v.confs[c]).isSome = (u.confs[c]).isSome := by
    obtain ⟨removed, hconf, -⟩ := hended.confs c
    rw [hconf, Option.isSome_map]
    rfl
  have hlost : Told v (lost s) := by
    rw [hended.frame]
    exact htold.notify _ _ _
  have hfault := (Closings.start v).closeConfs byFault .fault
  have hfaultTold := hlost.closeConfs (cause := .fault) byFault (u.nodup_closedByFault x scope)
  refine ⟨(hfault.closeConfs (u.chairedConfs x) .chair).congr fun c => by rw [false_or], ?_⟩
  have hbyFault : byFault.filter (fun c => (v.confs[c]).isSome) = byFault :=
    List.filter_eq_self.2 fun c hc => (hopen c).trans (State.isSome_of_mem_closedByFault hc)
  have hbyChair : byChair = (u.chairedConfs x).filter fun c =>
      ((byFault.foldl (fun s c => s.closeConf c .fault) v).confs[c]).isSome := by
    refine List.filter_congr fun c hchaired => ?_
    obtain ⟨k, hk, -⟩ := State.mem_chairedConfs.1 hchaired
    by_cases hc : c ∈ byFault
    · rw [hfault.gone c (.inr hc), decide_eq_false (not_not_intro hc)]
      rfl
    · rw [hfault.left c fun h => h.elim id hc, hopen, hk, decide_eq_true hc]
      rfl
  rw [hbyFault] at hfaultTold
  rw [hbyChair]
  exact hfaultTold.closeConfs (u.chairedConfs x) (nodup_placesWhere _)

end Sys2Proof.Machine
end

section
/-! PROOFS. The five ways in which an admission is lost (R110, R112, R128 to R130): each is the fault action on a state in
which X's record, the Admission Cell Queue and the notices have been written. -/

namespace Sys2Proof.Machine

variable {s u : State} {x : Handle} {r after : ExtRecord} {former : Slot} {cell : Cell} {body : List Byte} {ref : ExtRef}
  {reason : RefuseReason}

/-- R128 to R130: the state in which the fault action begins. -/
def State.lost (s : State) (x : Handle) (after : ExtRecord) (cells : List Cell) (notices : NoticeUnit) (arrival : Option Cell) :
    State :=
  { s with
    ext := { s.ext with records := s.ext.records.set x (some after) }
    admQueue := cells, notices := notices, line := { s.line with arrival := arrival } }

/-- A command is the fault action of X's loss of admission, with its reply. -/
def Loses (s : State) (c : Instr) (x : Handle) (after : ExtRecord) (scope : FaultScope) (former : Slot) (cause : Nat)
    (link : Link) (cells : List Cell) (notices : NoticeUnit) : Prop :=
  ∃ (why : LossCause) (arrival : Option Cell) (reply : Link), why.value = cause ∧
    let w := (s.lost x after cells notices arrival).faultAction x why scope former
    exec c s = .next { w with link := reply } ∧ (w.link = s.link → reply = link)

theorem State.setRecord_eq_lost (s : State) (x : Handle) (after : ExtRecord) :
    s.setRecord x (some after) = s.lost x after s.admQueue s.notices s.line.arrival := rfl

/-! ### The requests -/

theorem suspendExt_of_admitted (hr : s.record x = some r) (hadm : r.state.isAdmitted = true)
    (hslot : r.state.slot? = some former) : suspendExt x r s =
      ((s.setRecord x (some { r with state := .suspended })).faultAction x .suspended r.scope former,
        .now .ok [r.state.value]) := by
  cases hst : r.state with
  | admitted k t =>
    rw [hst] at hslot
    cases hslot
    simp only [suspendExt, hst, okay, State.setAdmission_of_record hr]
  | refreshing k n t =>
    rw [hst] at hslot
    cases hslot
    simp only [suspendExt, hst, okay, State.setAdmission_of_record hr]
  | idle | challenged | barred | suspended =>
    rw [hst] at hadm
    nomatch hadm

theorem revokeExt_of_admitted (hr : s.record x = some r) (hadm : r.state.isAdmitted = true)
    (hslot : r.state.slot? = some former) : revokeExt x r s =
      ((s.setRecord x (some { r with state := .idle })).faultAction x .revoked r.scope former, .now .ok [r.state.value]) := by
  cases hst : r.state with
  | admitted k t =>
    rw [hst] at hslot
    cases hslot
    simp only [revokeExt, hst, okay, State.setAdmission_of_record hr]
  | refreshing k n t =>
    rw [hst] at hslot
    cases hslot
    simp only [revokeExt, hst, okay, State.setAdmission_of_record hr]
  | idle | challenged | barred | suspended =>
    rw [hst] at hadm
    nomatch hadm

theorem loses_extSuspend (hs : s.ready) (ha : parseRef false body = some ref) (hl : s.lookup ref = some x)
    (hr : s.record x = some r) (hadm : r.state.isAdmitted = true) (hslot : r.state.slot? = some former) :
    Loses s (.extSuspend body) x { r with state := .suspended } r.scope former 3
      (s.answered 0x0C .ok [r.state.value]).link s.admQueue s.notices := by
  refine ⟨.suspended, s.line.arrival, _, rfl, exec_extSuspend_now hs ha hl hr (suspendExt_of_admitted hr hadm hslot), ?_⟩
  exact congrArg fun l : Link => l.push (some { code := replyCode 0x0C, status := .ok, body := [r.state.value] })

theorem loses_extRevoke (hs : s.ready) (ha : parseRef false body = some ref) (hl : s.lookup ref = some x)
    (hr : s.record x = some r) (hadm : r.state.isAdmitted = true) (hslot : r.state.slot? = some former) :
    Loses s (.extRevoke body) x { r with state := .idle } r.scope former 4
      (s.answered 0x0F .ok [r.state.value]).link s.admQueue s.notices := by
  refine ⟨.revoked, s.line.arrival, _, rfl, exec_extRevoke_now hs ha hl hr (revokeExt_of_admitted hr hadm hslot), ?_⟩
  exact congrArg fun l : Link => l.push (some { code := replyCode 0x0F, status := .ok, body := [r.state.value] })

/-! ### The line side -/

theorem State.RecordsDistinct.boundTo (hs : s.RecordsDistinct) (hr : s.record x = some r)
    (hslot : r.state.slot? = some former) : s.boundTo former = some x := by
  have hx : s.boundSlot x = some former := (State.boundSlot_of_record hr).trans hslot
  exact firstPlace_unique (beq_iff_eq.2 hx) fun y hy => hs.slots y x former (beq_iff_eq.1 hy) hx

theorem loses_bye (hs : s.RecordsDistinct) (hreset : s.resetAsserted = false) (hdue : s.line.cellDue = false)
    (hj : s.line.arrival.map judgeAdmissionCell = some (.bye former)) (hlisten : s.ext.listen[former] = true)
    (hr : s.record x = some r) (hadm : r.state.isAdmitted = true) (hslot : r.state.slot? = some former) :
    Loses s .admissionCellArrival x { r with state := .idle } r.scope former 1 s.link s.admQueue s.notices := by
  obtain ⟨cell, hcell, hbye⟩ := Option.map_eq_some_iff.1 hj
  have hbound : s.arrivalTaken.boundTo former = some x := hs.boundTo hr hslot
  have hrecord : s.arrivalTaken.record x = some r := hr
  have htaken : s.arrivalTaken.takeBye former =
      (s.arrivalTaken.setRecord x (some { r with state := .idle })).faultAction x .bye r.scope former := by
    simp only [State.takeBye, hbound, hrecord, hadm, if_true, State.setAdmission_of_record hrecord]
  refine ⟨.bye, none, _, rfl, ?_, id⟩
  rw [exec_admissionCellArrival hreset hcell hdue, takeAdmissionCell_bye (s := s.arrivalTaken) hbye hlisten, htaken]
  rfl

/-- R128: X's record after a failed refresh. -/
def ExtRecord.failedRefresh (p : Params) (r : ExtRecord) : ExtRecord :=
  { r with failures := r.failures + 1
           state := if decide (p.failureLimit ≤ r.failures + 1) then .barred (p.barTime * 1000) else .idle }

/-- R128: the state told of a failed refresh, from the one before. -/
def State.toldOfFailure (s : State) (x : Handle) (r : ExtRecord) (reason : RefuseReason) : State :=
  s.notify (if decide (s.params.failureLimit ≤ r.failures + 1) then .barred else .admitFailed) x
    (BitVec.ofNat 16 reason.value.toNat)

/-- R128: the Admission Cell Queue after a failed refresh. -/
def State.cellsOfFailure (s : State) (r : ExtRecord) (former : Slot) (reason : RefuseReason) : List Cell :=
  if s.admQueue.length < 8 then
    s.admQueue ++ [(OutgoingCell.refuse former
      (if decide (s.params.failureLimit ≤ r.failures + 1) then .barred else reason)).build]
  else s.admQueue

/-- R128, R129: a failed refresh of an admitted extension. -/
theorem failChallenge_admitted (hadm : r.state.isAdmitted = true) : s.failChallenge x r former reason =
    (s.lost x (r.failedRefresh s.params) (s.cellsOfFailure r former reason) (s.toldOfFailure x r reason).notices
      s.line.arrival).faultAction x .refreshFailed r.scope former := by
  unfold State.failChallenge ExtRecord.failedRefresh State.cellsOfFailure State.toldOfFailure
  dsimp only
  rw [if_pos hadm, BitVec.ofNat_toNat]
  by_cases hlimit : s.params.failureLimit ≤ r.failures + 1
  · rw [if_neg (Nat.not_lt.2 hlimit), decide_eq_true hlimit]
    rfl
  · rw [if_pos (Nat.not_le.1 hlimit), decide_eq_false hlimit]
    rfl

theorem loses_answer {word : WheelWord} {nonce : Half} {timer : Nat} (hs : s.RecordsDistinct) (hreset : s.resetAsserted = false)
    (hdue : s.line.cellDue = false) (hj : s.line.arrival.map judgeAdmissionCell = some (.answer former word))
    (hlisten : s.ext.listen[former] = true) (hr : s.record x = some r) (hst : r.state = .refreshing former nonce timer)
    (hword : word ≠ admissionWord r.credential nonce) :
    Loses s .admissionCellArrival x (r.failedRefresh s.params) r.scope former 2 s.link (s.cellsOfFailure r former .wrong)
      (s.toldOfFailure x r .wrong).notices := by
  obtain ⟨cell, hcell, hanswer⟩ := Option.map_eq_some_iff.1 hj
  have hadm : r.state.isAdmitted = true := by rw [hst]; rfl
  have hbound : s.arrivalTaken.boundTo former = some x := hs.boundTo hr (by rw [hst]; rfl)
  refine ⟨.refreshFailed, none, _, rfl, ?_, id⟩
  rw [exec_admissionCellArrival hreset hcell hdue, takeAdmissionCell_answer (s := s.arrivalTaken) hanswer hlisten,
    takeAnswer_challenged (s := s.arrivalTaken) hbound hr (.inr hst), if_neg hword, failChallenge_admitted hadm]
  rfl

theorem loses_timeout {nonce : Half} (hreset : s.resetAsserted = false) (hr : s.record x = some r)
    (hst : r.state = .refreshing former nonce 0) :
    Loses s (.answerTimerExpiry x) x (r.failedRefresh s.params) r.scope former 2 s.link (s.cellsOfFailure r former .timeout)
      (s.toldOfFailure x r .timeout).notices := by
  have hadm : r.state.isAdmitted = true := by rw [hst]; rfl
  have hexpiry : s.answerExpiry x = s.failChallenge x r former .timeout := by
    simp only [State.answerExpiry, hr, hst]
  refine ⟨.refreshFailed, s.line.arrival, _, rfl, ?_, id⟩
  rw [exec, execAnswerTimerExpiry, whenInService_next hreset, hexpiry, failChallenge_admitted hadm]

end Sys2Proof.Machine
end

section
/-! PROOFS. What the fault action leaves behind (R137 to R141): the legs, the conferences, the map entry and the notice of
the loss; O49. -/

namespace Sys2Proof.Machine

variable {s u v w : State} {n : LegNo} {l : Leg} {c : ConfNo} {h x : Handle} {r after : ExtRecord} {former : Slot}
  {gone : Member → Prop} {closed : ConfNo → Prop} {who : Roster} {scope : FaultScope} {e : Notice} {q : List Notice}

/-! ### Legs and conferences -/

/-- R138: a leg that is gone, after the conferences are closed. -/
theorem Ended.leg_cleared (he : Ended s v gone) (hc : Closings v w closed) (hg : gone (.leg n)) (hl : s.legs[n] = some l) :
    ∃ k, w.legs[n] = some k ∧ k.state = .clearing .fault ∧ k.endpoint = .parked ∧ k.owner = l.owner ∧ k.slot = l.slot ∧
      (k.wantsClear = true ∨ ⟨.clear, n⟩ ∈ w.cellQueue) ∧ ⟨.sync, n⟩ ∉ w.cellQueue ∧ ⟨.roll, n⟩ ∉ w.cellQueue := by
  obtain ⟨l', room, hl', -, hcleared, hclear, hothers⟩ := he.cleared n hg
  cases hl.symm.trans hl'
  have hqueue : w.cellQueue = v.cellQueue := (congrArg State.cellQueue hc.frame :)
  have hleg : w.legs[n] = some (l.cleared .fault room) := by
    by_cases hparked : ∃ c, closed c ∧ .leg n ∈ v.membersOf c
    · rw [hc.parked n hparked, hcleared]
      rfl
    · rw [hc.kept n hparked, hcleared]
  refine ⟨_, hleg, rfl, rfl, rfl, rfl, ?_, hqueue ▸ hothers _ nofun, hqueue ▸ hothers _ nofun⟩
  cases room with
  | false => exact .inl rfl
  | true => exact .inr (hqueue ▸ hclear rfl)

/-- R136, R140: a leg that stays is PARKED where its conference closes. -/
theorem Ended.leg_parked (he : Ended s v gone) (hc : Closings v w closed) (a : s.view.Accord who) (hg : ¬gone (.leg n))
    (hl : s.legs[n] = some l) (hend : l.endpoint = .conference c) (hnone : w.confs[c] = none) :
    w.legs[n] = some { l with endpoint := .parked } := by
  have hplace := State.place_of hl
  have hopen : l.state.isOpen = true := by
    by_contra hclosed
    rw [Bool.eq_false_of_not_eq_true hclosed, hend] at hplace
    nomatch a.parked n _ _ hplace
  rw [hopen, hend] at hplace
  have hmem : Member.leg n ∈ v.membersOf c := (he.members (a.once c)).2 ⟨(a.legs c n).2 ⟨_, hplace⟩, hg⟩
  have hclosed : closed c := by
    by_contra hclosed
    rw [hc.left c hclosed] at hnone
    rw [State.membersOf_eq, hnone] at hmem
    nomatch hmem
  rw [hc.parked n ⟨c, hclosed, hmem⟩, he.kept n hg, hl]
  rfl

theorem Ended.leg_kept (he : Ended s v gone) (hc : Closings v w closed) (a : s.view.Accord who) (hg : ¬gone (.leg n))
    (hl : s.legs[n] = some l) (hend : ∀ c, l.endpoint = .conference c → w.confs[c] ≠ none) : w.legs[n] = some l := by
  rw [hc.kept n, he.kept n hg, hl]
  rintro ⟨c, hclosed, hmem⟩
  obtain ⟨y, hplace⟩ := (a.legs c n).1 ((he.members (a.once c)).1 hmem).1
  obtain ⟨l', hl', -, -, hend'⟩ := State.place_eq_some.1 hplace
  cases hl.symm.trans hl'
  exact hend c hend' (hc.gone c hclosed)

/-- R140, R141: a leg that stays keeps its record, but for the endpoint where its conference closes. -/
theorem Ended.leg_stays (he : Ended s v gone) (hc : Closings v w closed) (a : s.view.Accord who) (hg : ¬gone (.leg n))
    (hl : s.legs[n] = some l) : w.legs[n] = some { l with endpoint := match l.endpoint with
      | .conference k => if w.confs[k] = none then .parked else .conference k
      | e => e } := by
  have hkept := he.leg_kept hc a hg hl
  have hsame {f : Endpoint} (hf : l.endpoint = f) : { l with endpoint := f } = l := by rw [← hf]
  cases hend : l.endpoint with
  | parked =>
    rw [hsame hend]
    exact hkept fun k hk => by rw [hend] at hk; nomatch hk
  | line =>
    rw [hsame hend]
    exact hkept fun k hk => by rw [hend] at hk; nomatch hk
  | conference k =>
    dsimp only
    split
    next hnone => exact he.leg_parked hc a hg hl hend hnone
    next hopen =>
      rw [hsame hend]
      refine hkept fun k' hk' => ?_
      rw [hend] at hk'
      cases hk'
      exact hopen

theorem Ended.leg_free (he : Ended s v gone) (hc : Closings v w closed) (hl : s.legs[n] = none) : w.legs[n] = none := by
  have hg : ¬gone (.leg n) := fun hg => by
    obtain ⟨l', -, hl', -⟩ := he.cleared n hg
    rw [hl] at hl'
    nomatch hl'
  by_cases hparked : ∃ c, closed c ∧ .leg n ∈ v.membersOf c
  · rw [hc.parked n hparked, he.kept n hg, hl]
    rfl
  · rw [hc.kept n hparked, he.kept n hg, hl]

theorem Ended.conf_closed (he : Ended s v gone) (hc : Closings v w closed) (hk : closed c ∨ s.confs[c] = none) :
    w.confs[c] = none := by
  by_cases hclosed : closed c
  · exact hc.gone c hclosed
  · obtain ⟨removed, hconf, -⟩ := he.confs c
    rw [hc.left c hclosed, hconf, hk.resolve_left hclosed]
    rfl

/-- R139: a conference that stays open loses its members that are gone, and nothing else. -/
theorem Ended.conf_left {k : Conf} (he : Ended s v gone) (hc : Closings v w closed) (a : s.view.Accord who)
    (hclosed : ¬closed c) (hk : s.confs[c] = some k) : ∃ removed : List Member,
      w.confs[c] = some { k with members := k.members.filter (fun m => m ∉ removed)
                                 mixSet := k.mixSet.map fun set => removed.foldl List.erase set } ∧
      removed.Nodup ∧ ∀ m, m ∈ removed ↔ m ∈ k.members ∧ gone m := by
  obtain ⟨removed, hconf, hnodup, hmem⟩ := he.confs c
  have honce : k.members.Nodup := State.membersOf_some hk ▸ a.once c
  rw [State.membersOf_some hk] at hmem
  refine ⟨removed, ?_, hnodup, hmem⟩
  rw [hc.left c hclosed, hconf, hk, Option.map_some, Conf.removeAll_eq, foldl_erase_of_nodup honce]

/-! ### Who is affected -/

/-- R137: the scope set. -/
theorem State.mem_scopeSet_iff (hr : s.record x = some r) : h ∈ s.scopeSet x scope ↔
    if scope = .group then ∃ q, s.record h = some q ∧ q.group = r.group else h = x := by
  cases scope with
  | leg => simp [State.scopeSet]
  | call => simp [State.scopeSet]
  | group =>
    rw [if_pos rfl, State.scopeSet, mem_placesWhere, Option.any_eq_true]
    simp only [hr, Option.any_some, beq_iff_eq]

/-! ### The notice of the loss -/

/-- At most so many entries stand behind a notice in a queue. -/
def NoticeBehind (e : Notice) (q : List Notice) (j : Nat) : Prop := ∃ pre post, q = pre ++ e :: post ∧ post.length ≤ j

/-- R174: a notice near the end of the queue is not the one pushed out. -/
theorem NoticeBehind.notify {j : Nat} (h : NoticeBehind e s.notices.queue j) (hj : j + 1 < Config.noticeRoom) (kind : NoticeKind)
    (subject : Nat) (detail : Half) : NoticeBehind e (s.notify kind subject detail).notices.queue (j + 1) := by
  obtain ⟨pre, post, hq, hlength⟩ := h
  unfold State.notify
  dsimp only
  generalize ({ kind := kind, subject := byteOf subject, detail := detail, stamp := s.line.blockCount } : Notice) = e'
  unfold NoticeUnit.push
  split
  · split
    · refine ⟨pre, post ++ [e'], ?_, ?_⟩
      · simp only [hq, List.append_assoc, List.cons_append]
      · rw [List.length_append]
        exact Nat.add_le_add_right hlength 1
    next hfull =>
      rw [hq, List.length_append, List.length_cons] at hfull
      obtain ⟨p, rest, rfl⟩ := List.exists_cons_of_length_pos (l := pre) (by omega)
      refine ⟨rest, post ++ [e'], ?_, ?_⟩
      · simp only [hq, List.cons_append, List.drop_succ_cons, List.drop_zero, List.append_assoc]
      · rw [List.length_append]
        exact Nat.add_le_add_right hlength 1
  · exact ⟨pre, post, hq, Nat.le_succ_of_le hlength⟩

theorem NoticeBehind.notifyAll {j : Nat} (confs : List ConfNo) (detail : Half) (h : NoticeBehind e s.notices.queue j)
    (hj : j + confs.length < Config.noticeRoom) : NoticeBehind e
      (confs.foldl (fun u (c : ConfNo) => u.notify .confClosed c detail) s).notices.queue (j + confs.length) := by
  induction confs generalizing s j with
  | nil => exact h
  | cons c rest ih =>
    rw [List.length_cons] at hj ⊢
    rw [List.foldl_cons, Nat.add_comm rest.length, ← Nat.add_assoc]
    exact ih (h.notify (by omega) _ _ _) (by omega)

theorem NoticeUnit.push_mask (p : NoticeUnit) (e : Notice) : (p.push e).mask = p.mask := by
  unfold NoticeUnit.push
  split
  · split <;> rfl
  · rfl

theorem NoticeBehind.mem {j : Nat} (h : NoticeBehind e q j) : e ∈ q := by
  obtain ⟨pre, post, rfl, -⟩ := h
  exact List.mem_append_right _ List.mem_cons_self

/-- R174: an enabled notice just queued. -/
theorem noticeBehind_notify {kind : NoticeKind} {subject : Nat} {detail : Half} (hk : s.notices.enabled kind = true) :
    NoticeBehind { kind := kind, subject := byteOf subject, detail := detail, stamp := s.line.blockCount }
      (s.notify kind subject detail).notices.queue 0 := by
  unfold State.notify NoticeUnit.push
  dsimp only
  rw [if_pos hk]
  split
  · exact ⟨_, [], rfl, Nat.le_refl 0⟩
  · exact ⟨_, [], rfl, Nat.le_refl 0⟩

/-- R136, R174: the notice of the loss outlives those of the conferences closed. -/
theorem mem_queue_of_told {kind : NoticeKind} {subject : Nat} {detail : Half} {byFault byChair : List ConfNo}
    (hk : s.notices.enabled kind = true) (hfault : byFault.Nodup) (hchair : byChair.Nodup) :
    ({ kind := kind, subject := byteOf subject, detail := detail, stamp := s.line.blockCount } : Notice) ∈
      (byChair.foldl (fun u (c : ConfNo) => u.notify .confClosed c ConfCause.chair.value)
        (byFault.foldl (fun u (c : ConfNo) => u.notify .confClosed c ConfCause.fault.value)
          (s.notify kind subject detail))).notices.queue := by
  have hfew {list : List ConfNo} (hlist : list.Nodup) : list.length ≤ 8 := by
    rw [← Fintype.card_fin 8]
    exact hlist.length_le_card
  have hfaultFew := hfew hfault
  have hchairFew := hfew hchair
  exact (((noticeBehind_notify hk).notifyAll byFault ConfCause.fault.value (by unfold Config.noticeRoom; omega)).notifyAll
    byChair ConfCause.chair.value (by unfold Config.noticeRoom; omega)).mem

/-- The slot of an extension that is gone names nothing. -/
theorem LineView.Accord.map_vacant {view : LineView} {cl : ExtClass} (a : view.Accord who) (hx : who x = some (former, cl))
    (hwithout : view.Without x) : view.map former = .vacant := by
  cases hmap : view.map former with
  | vacant => rfl
  | leg n =>
    obtain ⟨y, cl', hplace, hy⟩ := (a.mapLegs former n).1 hmap
    cases a.slots x y former cl cl' hx hy
    exact absurd hplace (hwithout.legs n _)
  | conference c =>
    obtain ⟨y, cl', hmem, hy⟩ := (a.mapConfs former c).1 hmap
    cases a.slots x y former cl cl' hx hy
    exact absurd hmem (hwithout.locals c)

/-! ### The outcome of a loss -/

theorem FaultScope.code_eq (scope : FaultScope) : scope.code = scope.value.toNat := by
  cases scope <;> rfl

/-- R106: the records after X's has been written. -/
theorem State.record_lost (s : State) (x : Handle) (after : ExtRecord) (cells : List Cell) (notices : NoticeUnit)
    (arrival : Option Cell) (h : Handle) :
    (s.lost x after cells notices arrival).record h = if x = h then some after else s.record h :=
  s.record_setRecord x h (some after)

/-- R135, R137: the members that go with X, by its scope. -/
theorem State.carries_scopeSet {m : Member} {affected : Handle → Prop}
    (haffected : ∀ h, affected h ↔ if scope = .group then ∃ q, s.record h = some q ∧ q.group = r.group else h = x)
    (hlegs : u.legs = s.legs) (hx : u.record x = some after) (hr : s.record x = some r)
    (hgroup : after.group = r.group) (hother : ∀ h, h ≠ x → u.record h = s.record h) :
    (∃ e ∈ u.scopeSet x scope, u.Carries e m) ↔
      (∃ h, m = .loc h ∧ affected h) ∨
        ∃ (n : LegNo) (l : Leg), m = .leg n ∧ s.legs[n] = some l ∧ l.state.isOpen = true ∧ affected l.owner := by
  have hscope (h : Handle) : h ∈ u.scopeSet x scope ↔ affected h := by
    refine (State.mem_scopeSet_iff hx).trans ((haffected h).trans ?_).symm
    split
    · by_cases hh : h = x
      · subst hh
        simp [hx, hr, hgroup]
      · rw [hother h hh, hgroup]
    · exact Iff.rfl
  unfold State.Carries
  rw [hlegs]
  simp only [hscope]
  constructor
  · rintro ⟨h, hh, rfl | ⟨n, l, rfl, hl, rfl, ho⟩⟩
    · exact .inl ⟨h, rfl, hh⟩
    · exact .inr ⟨n, l, rfl, hl, ho, hh⟩
  · rintro (⟨h, rfl, hh⟩ | ⟨n, l, rfl, hl, ho, hh⟩)
    · exact ⟨h, hh, .inl rfl⟩
    · exact ⟨l.owner, hh, .inr ⟨n, l, rfl, hl, rfl, ho⟩⟩

/-- Settles O49: each of the five ways is the fault action on the state with X's record written; the fault action is the
scope set's members gone, then the conferences closed. -/
theorem lossOfAdmissionEndsTheCalls : Obligations.LossOfAdmissionEndsTheCalls := by
  unfold Obligations.LossOfAdmissionEndsTheCalls
  intro s c x r former cause after link cells told hs hreset hr hadm hslot plain state failed hways
  obtain ⟨hloses, hgroup, hline, hmask⟩ : Loses s c x after r.scope former cause link cells told.notices ∧
      after.group = r.group ∧ told.line = s.line ∧ told.notices.mask = s.notices.mask := by
    have hstate : r.state.value = state := by
      unfold state
      cases hst : r.state with
      | admitted | refreshing => rfl
      | idle | challenged | barred | suspended =>
        rw [hst] at hadm
        nomatch hadm
    rcases hways with ⟨⟨body, rfl, hready, hbody⟩, rfl, ⟨rfl, rfl⟩, rfl, rfl⟩ |
      ⟨⟨body, rfl, hready, hbody⟩, rfl, ⟨rfl, rfl⟩, rfl, rfl⟩ |
      ⟨rfl, hdue, hj, hlisten, rfl, ⟨rfl, rfl⟩, rfl, rfl⟩ |
      ⟨⟨word, nonce, timer, rfl, hdue, hj, hlisten, hst, hword⟩, rfl, rfl, rfl, rfl, rfl⟩ |
      ⟨⟨nonce, rfl, hst⟩, rfl, rfl, rfl, rfl, rfl⟩
    · obtain ⟨ref, href, hlookup⟩ := Option.bind_eq_some_iff.1 hbody
      rw [← hstate]
      exact ⟨loses_extSuspend hready href hlookup hr hadm hslot, rfl, rfl, rfl⟩
    · obtain ⟨ref, href, hlookup⟩ := Option.bind_eq_some_iff.1 hbody
      rw [← hstate]
      exact ⟨loses_extRevoke hready href hlookup hr hadm hslot, rfl, rfl, rfl⟩
    · exact ⟨loses_bye hs.records hreset hdue hj hlisten hr hadm hslot, rfl, rfl, rfl⟩
    · exact ⟨loses_answer hs.records hreset hdue hj hlisten hr hst hword, rfl, rfl, NoticeUnit.push_mask _ _⟩
    · exact ⟨loses_timeout hreset hr hst, rfl, rfl, NoticeUnit.push_mask _ _⟩
  obtain ⟨why, arrival, reply, hwhy, hexec, hreply⟩ := hloses
  intro affected engaged chaired closed
  obtain ⟨hrecords, a⟩ := State.lineLaws_iff.1 hs
  have hrecord := s.record_lost x after cells told.notices arrival
  obtain ⟨hlegs, hconfs, hmap, hlink, hqueue⟩ : (s.lost x after cells told.notices arrival).legs = s.legs ∧
      (s.lost x after cells told.notices arrival).confs = s.confs ∧
      (s.lost x after cells told.notices arrival).line.outMap = s.line.outMap ∧
      (s.lost x after cells told.notices arrival).link = s.link ∧
      (s.lost x after cells told.notices arrival).admQueue = cells := ⟨rfl, rfl, rfl, rfl, rfl⟩
  have hsame : Told (s.lost x after cells told.notices arrival) told :=
    ⟨rfl, (congrArg LinePort.blockCount hline.symm :)⟩
  generalize hu : s.lost x after cells told.notices arrival = u at hexec hreply hrecord hlegs hconfs hmap hlink hqueue hsame
  have hux : u.record x = some after := (hrecord x).trans (if_pos rfl)
  have hother (h : Handle) (hh : h ≠ x) : u.record h = s.record h := (hrecord h).trans (if_neg (Ne.symm hh))
  have ha : u.view.Accord s.roster := State.view_congr hlegs hconfs hmap ▸ a
  obtain ⟨v, hended, hclosings, hnotices⟩ := State.faultAction_cases (x := x) (former := former) ha why r.scope hsame
  have hgone (m : Member) := State.carries_scopeSet (m := m) (scope := r.scope) (affected := affected) (fun _ => Iff.rfl)
    hlegs hux hr hgroup hother
  have hfault (k : ConfNo) : k ∈ u.closedByFault x r.scope ↔ engaged k := by
    rw [State.mem_closedByFault, hconfs, hlegs]
  have hchair (k : ConfNo) : k ∈ u.chairedConfs x ↔ chaired k := by
    rw [State.mem_chairedConfs, hconfs]
  replace hclosings := hclosings.congr fun k => or_congr (hfault k) (hchair k)
  rw [FaultScope.code_eq, hwhy] at hnotices
  obtain ⟨hacc, hext, hwithout, -⟩ := LineView.Accord.faultAction ha hux
    (State.roster_eq_some.2 ⟨r, hr, hadm, hslot, rfl⟩) (fun y k cl hy hw => by
      rw [State.boundSlot, hother y hy]
      exact State.boundSlot_of_roster hw) why r.scope
  obtain ⟨hlostLegs, hlostConfs, hlostAccord⟩ :
      (u.notify .admissionLost x (BitVec.ofNat 16 (256 * r.scope.code + why.value))).legs = s.legs ∧
      (u.notify .admissionLost x (BitVec.ofNat 16 (256 * r.scope.code + why.value))).confs = s.confs ∧
      (u.notify .admissionLost x (BitVec.ofNat 16 (256 * r.scope.code + why.value))).view.Accord s.roster :=
    ⟨hlegs, hconfs, by rw [State.view_notify]; exact ha⟩
  generalize u.faultAction x why r.scope former = w at hexec hreply hclosings hnotices hacc hext hwithout
  have hframe : w = { u with
      legs := w.legs, confs := w.confs, cellQueue := v.cellQueue, notices := w.notices
      line := { u.line with outMap := w.line.outMap } } := by
    rw [hclosings.frame, hended.frame]
    rfl
  refine ⟨_, hexec, ?record, ?link, ?cells, ?notices, ?others, ?cleared, ?kept, ?free, ?closed, ?left, ?map, ?told,
    ?framer, ?trunk, ?hold, ?params, ?ext, ?line, ?pending⟩
  case record => exact (State.record_congr hext x).trans hux
  case link => exact hreply ((congrArg State.link hframe :).trans hlink)
  case cells => exact (congrArg State.admQueue hframe :).trans hqueue
  case notices =>
    have hascending : ((u.chairedConfs x).map (·.val)).Pairwise (· < ·) := pairwise_placesWhere _
    refine ⟨u.closedByFault x r.scope, (u.chairedConfs x).filter fun k => k ∉ u.closedByFault x r.scope,
      u.pairwise_closedByFault x r.scope, hfault, hascending.sublist (List.filter_sublist.map _), fun k => ?_, hnotices.1⟩
    rw [List.mem_filter, decide_eq_true_iff, hfault, hchair]
  case others => exact fun h hh => (State.record_congr hext h).trans (hother h hh)
  case cleared =>
    intro n l hl haff ho
    exact (hended.leg_cleared hclosings ((hgone _).2 (.inr ⟨n, l, rfl, hl, ho, haff⟩)) (hlostLegs ▸ hl) :)
  case kept =>
    intro n l hl hnot
    have hstays : ¬∃ e ∈ u.scopeSet x r.scope, u.Carries e (.leg n) := by
      rw [hgone]
      rintro (⟨h, hh, -⟩ | ⟨n', l', hn, hl', ho, haff⟩)
      · nomatch hh
      · cases Member.leg.inj hn
        cases hl.symm.trans hl'
        exact hnot ⟨haff, ho⟩
    exact (hended.leg_stays hclosings hlostAccord hstays (hlostLegs ▸ hl) :)
  case free => exact fun n hn => (hended.leg_free hclosings (hlostLegs ▸ hn) :)
  case closed => exact fun k hk => (hended.conf_closed hclosings (hk.imp id fun h => hlostConfs ▸ h) :)
  case left =>
    intro k cf hk hcf
    obtain ⟨removed, hconf, hnodup, hmem⟩ := hended.conf_left hclosings hlostAccord hk (hlostConfs ▸ hcf)
    exact ⟨removed, hconf, hnodup, fun m => (hmem m).trans (and_congr_right fun _ => hgone m)⟩
  case map => exact hacc.map_vacant (State.roster_eq_some.2 ⟨r, hr, hadm, hslot, rfl⟩) hwithout
  case told =>
    intro hbit
    have henabled : told.notices.enabled .admissionLost = true := (hmask ▸ hbit :)
    rw [hnotices.1, ← hline]
    exact mem_queue_of_told henabled (u.nodup_closedByFault x r.scope) ((nodup_placesWhere _).filter _)
  case framer => exact (congrArg State.framer hframe :).trans (hu ▸ rfl)
  case trunk => exact (congrArg State.trunk hframe :).trans (hu ▸ rfl)
  case hold => exact (congrArg State.hold hframe :).trans (hu ▸ rfl)
  case params => exact (congrArg State.params hframe :).trans (hu ▸ rfl)
  case ext =>
    have hwext : w.ext = { u.ext with records := w.ext.records } := by rw [hext]
    rw [hwext, ← hu]
    rfl
  case line =>
    have hwline : w.line = { u.line with outMap := w.line.outMap } := (congrArg State.line hframe :)
    rw [hwline, ← hu]
    rfl
  case pending => exact (congrArg State.pending hframe :).trans (hu ▸ rfl)

end Sys2Proof.Machine
end
